-- ==== Sys2Proof/Word.lean ====
section
/-! DEFINITION. The 20-bit word of R15 and the plainest arithmetic of the manual's number formats:
saturation, two's complement of a field, the 40-bit ring of web positions (R12, R13) and the rounding rule R473. -/

namespace Sys2Proof

/-- The native word of the part (R15). -/
abbrev Word := BitVec 20

/-- A position, or a 40-bit pair, lives modulo this (R12). -/
abbrev two40 : Nat := 1099511627776

/-- A value kept in `w` bits, saturating at the top. -/
def satN (w v : Nat) : Nat := min v (2 ^ w - 1)

/-- The signed reading of the low `w` bits of `v` (two's complement). -/
def sgn (w v : Nat) : Int :=
  let m := v % 2 ^ w
  if m < 2 ^ (w - 1) then (m : Int) else (m : Int) - (2 ^ w : Nat)

/-- The `w`-bit two's complement of an integer. -/
def unsgn (w : Nat) (v : Int) : Nat := (v % ((2 ^ w : Nat) : Int)).toNat

/-- An integer limited to what `w` signed bits hold. -/
def satS (w : Nat) (v : Int) : Int :=
  max (-((2 ^ (w - 1) : Nat) : Int)) (min v (((2 ^ (w - 1) : Nat) : Int) - 1))

/-- An integer limited to an interval; the upper bound is applied first. -/
def clampI (lo hi v : Int) : Int := max lo (min v hi)

/-- A position plus a signed distance, modulo 2^40 (R12). -/
def posAdd (p : Nat) (d : Int) : Nat := (((p : Int) + d) % (two40 : Int)).toNat

/-- The signed distance from `b` to `a`: the one of least magnitude (R13). -/
def posDiff (a b : Nat) : Int :=
  let m := ((a : Int) - (b : Int)) % (two40 : Int)
  if m < 549755813888 then m else m - (two40 : Int)

/-- Position `a` is at or ahead of position `b` (R13). -/
def posAhead (a b : Nat) : Bool := decide (0 ≤ posDiff a b)

/-- Quotient rounded to nearest, an exact half away from zero (R473, every quantity but positions and times). -/
def rdiv (a : Int) (b : Nat) : Int :=
  if 0 ≤ a then (2 * a + b) / (2 * b) else -((2 * (-a) + b) / (2 * b))

/-- Quotient rounded to nearest, an exact half upward (R473, positions, ticks and instants). -/
def rdivUp (a : Int) (b : Nat) : Int := (2 * a + b) / (2 * b)

/-- Quotient rounded up. -/
def cdivN (a b : Nat) : Nat := (a + (b - 1)) / b

/-- Bit `i` of a number. -/
def bitN (v i : Nat) : Bool := v.testBit i

/-- Bits `hi` down to `lo` of a number. -/
def bitsN (v hi lo : Nat) : Nat := v / 2 ^ lo % 2 ^ (hi + 1 - lo)

/-- One as a number. -/
def b2n (b : Bool) : Nat := if b then 1 else 0

end Sys2Proof
end

