-- ==== Sys2Proof/Syntax.lean ====
section
/-! DEFINITION. The commands of the block: one constructor per row of the command table, in the table's order, with the operands the
event carries (an address, a value, a measurement). -/

namespace Sys2Proof

/-- The two web encoder inputs (R39). -/
inductive Enc where
  | a | b
  deriving DecidableEq, Repr

/-- What happens on an encoder input (R39 to R41): a level of the A or the B line changes and the new level stands for some ns; both lines
change within one step of 1 ns; or both sin/cos signals are sampled, which gives the phase in 2^-20 of a signal period and the Lissajous
radius in thousandths of the 1 Vpp nominal. -/
inductive EncEvent where
  | edge (lineB : Bool) (ns : Nat)
  | both
  | sample (phase radius : Nat)
  deriving DecidableEq, Repr

/-- What the latency calibration of one link measures (R55): the station, the round trips of the echo flits in ns, and the time each broadcast
of the synthetic ramp takes to arrive, in 1/16 ns. -/
structure LinkCal where
  stn : Nat
  trips : List Nat
  delays : List Nat
  deriving DecidableEq, Repr

/-- What an owner supplies with a trigger (R262 code 0x3F, R269): the feedback and its validity and, for a context slot, the set-point, the
previous output (Q1.39) and the previous error. -/
structure OwnerSample where
  y : Int := 0
  valid : Bool := true
  r : Int := 0
  u : Int := 0
  e : Int := 0
  deriving DecidableEq, Repr


/-- What a high-voltage channel's monitor reads: the channel, and its feedback input in Q1.19 of full scale (R278, R281). -/
structure HvReading where
  num : Nat
  fb : Int := 0
  deriving DecidableEq, Repr

/-- What happens on the position feedback of a channel (R292, R299): an event on its encoder; an edge of the index; a change of the hall
levels, or a new angle of the observer, with the mechanical angle it gives, 2^-20 revolution. -/
inductive FbEvent where
  | enc (ev : EncEvent)
  | index
  | hall (levels angle : Nat)
  | observer (angle : Nat)
  deriving DecidableEq, Repr

/-- What a channel measures in one PWM period (R292, R294, R299): the two shunt readings, Q1.19 of full scale; what its feedback does while the
period runs, each event with its time from the period's start, ns; the amplitude of the back-EMF, 0.1 % of the nominal bus, with its estimates
of speed, 1/8 rpm, and of the electrical angle, 2^-20 turn; and GFLT_N low. -/
structure PwmSample where
  i1 : Int := 0
  i2 : Int := 0
  fb : List (Nat × FbEvent) := []
  amp : Nat := 0
  speed : Int := 0
  eangle : Nat := 0
  gflt : Bool := false
  deriving DecidableEq, Repr

/-- The three conditions of CHOPPER_FAULT (R306). -/
inductive ChopperFault where
  | openCircuit | slope | shorted
  deriving DecidableEq, Repr

/-- A detector that a reaction can blank (R354). The number after the die is the slot, channel, axis or context. -/
inductive Detector where
  | plaus (die slot : Nat)
  | apcLimit (die : Nat)
  | strayLight (die : Nat)
  | markCode (die code : Nat)
  | markLoss (die : Nat)
  | follow (die ch : Nat)
  | fbLoss (die ch : Nat)
  | busUv (die : Nat)
  | chopSlope (die : Nat)
  | scnSpeed (die : Nat)
  | webReverse
  | encMismatch
  | gateFault (die ch : Nat)
  | stageLost (axis : Nat)
  | stageFault (axis : Nat)
  | cueLate
  | repCoh (die : Nat)
  | bcastMiss (die : Nat)
  | replay (die : Nat)
  | lpeOverrun
  | lateCommit (die ctx : Nat)
  deriving DecidableEq, Repr

/-- The reactions of the table of R354 that begin a shadow. -/
inductive Shadow where
  | hvForced (die : Nat)
  | slotFault (die slot : Nat)
  | lsoAsserted (die : Nat)
  | motorStop (die ch : Nat)
  | webStop
  | interlock
  | hubBypass
  | scnLost (die : Nat)
  | heatersOff
  | xfrHalt (die ch : Nat)
  deriving DecidableEq, Repr

/-- The two requester paths (R16, R451): the host's BAR0 and BAR2, and the service port. -/
inductive Path where
  | host | service
  deriving DecidableEq, Repr


/-- What resets the PCI Express function alone (R417, R470): a link-down or PERST, a hot reset, or an entry to D3hot. -/
inductive LinkEvent where
  | linkDown | hotReset | d3hot
  deriving DecidableEq, Repr


/-- What a start observes outside the registers (R392, R393, R396): the sampled BOOT_SEL, whether the rails came up with it, the hub system PLL at
full rate within 1 ms, the bytes of the external flash, the stations whose link trains, their calibration results, a die whose control
memory proves uncorrectable during the load, and whether a reset or a loss of power ends the start before release. -/
structure StartObs where
  sel : Nat
  powerOn : Bool
  pllOk : Bool
  flash : List Nat
  trained : List Nat
  cals : List LinkCal
  memUe : Option Nat
  cutShort : Bool
  deriving DecidableEq, Repr

/-- A command of the block. -/
inductive Instr where
  /-- RESET_N_ASSERT (R471). -/
  | resetNAssert (lowNs : Nat) (midWrite : Bool)
  /-- RESET_N_RELEASE (R393). -/
  | resetNRelease (o : StartObs)
  /-- HOST_IMAGE_DELIVERED (R392). -/
  | hostImageDelivered (trained : List Nat) (cals : List LinkCal) (memUe : Option Nat)
  /-- HOST_IMAGE_TIMEOUT (R392). -/
  | hostImageTimeout
  /-- POSITION_BROADCAST (R51). -/
  | positionBroadcast
  /-- BROADCAST_ARRIVAL (R51). -/
  | broadcastArrival (n : Nat)
  /-- REPLICA_ADVANCE (R51). -/
  | replicaAdvance (n : Nat)
  /-- FLIT_CRC_FAIL (R32). -/
  | flitCrcFail (n cls : Nat)
  /-- LINK_LOSS (R33). -/
  | linkLoss (n : Nat)
  /-- HUB_LINK_LOSS (R33). -/
  | hubLinkLoss (n : Nat)
  /-- ENCODER_COUNT (R39). -/
  | encoderCount (enc : Enc) (ev : EncEvent)
  /-- SIGNAL_FAULT (R48). -/
  | signalFault (enc : Enc)
  /-- SIGNAL_FAULT_CLEAR (R48). -/
  | signalFaultClear (enc : Enc)
  /-- WTB_UPDATE (R43). -/
  | wtbUpdate
  /-- SPAN (R47). -/
  | span
  /-- PRESET (R50). -/
  | preset
  /-- CAPTURE (R50). -/
  | capture
  /-- REBASELINE (R47). -/
  | rebaseline
  /-- RECAL (R55). -/
  | recal (results : List LinkCal)
  /-- WTB_CLEAR_COUNTERS (R58). -/
  | wtbClearCounters
  /-- MAINS_CROSSING (R56). -/
  | mainsCrossing (input t vrms : Nat)
  /-- MAINS_LOSS (R56). -/
  | mainsLoss
  /-- CUE_ISSUE (R70). -/
  | cueIssue (die : Nat)
  /-- TICK_STAMPED_APPLY (R66). -/
  | tickStampedApply (die : Nat)
  /-- NOP (R63). -/
  | nop (die : Nat)
  /-- FRAME_START (R84). -/
  | frameStart (die : Nat)
  /-- FRAME_END (R84). -/
  | frameEnd (die : Nat)
  /-- BANK_SWITCH (R98). -/
  | bankSwitch (die : Nat)
  /-- REG_OP (R64). -/
  | regOp (die : Nat)
  /-- EVENT (R63). -/
  | event (die : Nat)
  /-- LIST_CTRL_DISABLE (R79). -/
  | listCtrlDisable (die : Nat)
  /-- LIST_CTRL_ENABLE (R79). -/
  | listCtrlEnable (die : Nat)
  /-- LIST_CTRL_STOP (R79). -/
  | listCtrlStop (die : Nat)
  /-- MARK_WINDOW_OPEN (R244). -/
  | markWindowOpen
  /-- MARK_WINDOW_CLOSE (R245). -/
  | markWindowClose
  /-- OUTPUT (R424). -/
  | output
  /-- HEATER_ON (R284). -/
  | heaterOn
  /-- HEATER_OFF (R284). -/
  | heaterOff
  /-- SAMPLE (R63). -/
  | sample (die : Nat)
  /-- FRAME_CLOSE (R106). -/
  | frameClose
  /-- EDIT_READ (R76). -/
  | editRead (die : Nat)
  /-- EDIT_WRITE (R76). -/
  | editWrite (die : Nat)
  /-- EDIT_LINK (R77). -/
  | editLink (die : Nat)
  /-- LIST_HEAD_WRITE (R78). -/
  | listHeadWrite (die list head : Nat)
  /-- LIST_STOP (R79). -/
  | listStop (die list : Nat)
  /-- CUE_CLEAR_COUNTERS (R81). -/
  | cueClearCounters (die : Nat)
  /-- COH_TOL_WRITE (R59). -/
  | cohTolWrite (n v : Nat)
  /-- SUBMIT (R88). -/
  | submit
  /-- WITHDRAW (R105). -/
  | withdraw
  /-- POP_DONE (R106). -/
  | popDone
  /-- FRM_CLEAR_COUNTERS (R109). -/
  | frmClearCounters
  /-- ARM (R93). -/
  | arm (die : Nat)
  /-- SWITCH_COMPLETION (R94). -/
  | switchCompletion (die : Nat)
  /-- RETIRE_AT_ZERO_SPEED (R104). -/
  | retireAtZeroSpeed
  /-- REJECT_PULSE (R107). -/
  | rejectPulse (k : Nat)
  /-- DESC_READ (R114). -/
  | descRead (n : Nat)
  /-- DESC_WRITE (R115). -/
  | descWrite (n : Nat)
  /-- SEAL (R116). -/
  | seal (rset : Nat)
  /-- SEAL_ACKNOWLEDGED (R116). -/
  | sealAcknowledged
  /-- UNSEAL (R116). -/
  | unseal (rset : Nat)
  /-- COMMIT_WRITE (R118). -/
  | commitWrite (n c v : Nat)
  /-- BAR2_READ (R128). -/
  | bar2Read (addr len : Nat)
  /-- BAR2_WRITE (R128). -/
  | bar2Write (addr : Nat) (bytes : List Nat)
  /-- PATCH_TILE_PLACEMENT (R126). -/
  | patchTilePlacement (n : Nat)
  /-- RIN_CLEAR_COUNTERS (R131). -/
  | rinClearCounters (n : Nat)
  /-- MIRROR_UPDATE (R122). -/
  | mirrorUpdate (n : Nat)
  /-- CHANNEL_START (R145). -/
  | channelStart (die ch : Nat)
  /-- RESUME (R143). -/
  | resume (die ch : Nat)
  /-- ABORT (R145). -/
  | abort (die ch : Nat)
  /-- XFR_CH_CLEAR_COUNTERS (R150). -/
  | xfrChClearCounters (die ch : Nat)
  /-- BURST_ISSUE (R136). -/
  | burstIssue (die ch : Nat)
  /-- BURST_COMPLETION (R137). -/
  | burstCompletion (die ch : Nat) (host : List Nat)
  /-- BURST_RETRY (R142). -/
  | burstRetry (die ch : Nat)
  /-- DESCRIPTOR_COMPLETE (R138). -/
  | descriptorComplete (die ch : Nat)
  /-- SDESC_READ (R151). -/
  | sdescRead (n : Nat)
  /-- SDESC_WRITE (R151). -/
  | sdescWrite (n : Nat)
  /-- RES_MBPS_WRITE (R147). -/
  | resMbpsWrite (ch v : Nat)
  /-- REQ_SEL_WRITE (R147). -/
  | reqSelWrite (ch v : Nat)
  /-- RES_LIMIT_WRITE (R150). -/
  | resLimitWrite (v : Nat)
  /-- SCN_START (R170). -/
  | scnStart (n : Nat) (offset : Int)
  /-- SCN_STOP (R170). -/
  | scnStop (n : Nat)
  /-- SCN_CLEAR (R173). -/
  | scnClear (n : Nat)
  /-- SCN_CLEAR_COUNTERS (R173). -/
  | scnClearCounters (n : Nat)
  /-- BD0_DETECTION (R160). -/
  | bd0Detection (n t : Nat)
  /-- BD1_DETECTION (R161). -/
  | bd1Detection (n t : Nat)
  /-- BD_WINDOW_CLOSE (R160). -/
  | bdWindowClose (n : Nat)
  /-- PICKUP_ZERO_CROSSING (R164). -/
  | pickupZeroCrossing (n t : Nat) (rising : Bool) (amp : Nat)
  /-- SWEEP_START (R153). -/
  | sweepStart (n : Nat)
  /-- SWEEP_END (R125). -/
  | sweepEnd (n : Nat)
  /-- SPIN_TMO (R170). -/
  | spinTmo (n : Nat)
  /-- POLY_RAMP_STEP (R158). -/
  | polyRampStep (n : Nat)
  /-- LPL_APPLY (R184). -/
  | lplApply (n : Nat)
  /-- LPL_CLEAR_COUNTERS (R193). -/
  | lplClearCounters (n : Nat)
  /-- REG_WEB_WRITE (R185). -/
  | regWebWrite (n : Nat) (scan : Bool) (v : Nat)
  /-- REG_LIM_WRITE (R179). -/
  | regLimWrite (n v : Nat)
  /-- PX_APPLY (R204). -/
  | pxApply (n : Nat)
  /-- CKS_PX_CLEAR_COUNTERS (R215). -/
  | cksPxClearCounters (n : Nat)
  /-- CKS_SYS_CLEAR_COUNTERS (R214). -/
  | cksSysClearCounters (die : Nat)
  /-- PIXEL_PLL_LOSS_OF_LOCK (R211). -/
  | pixelPllLossOfLock (n : Nat)
  /-- SYSTEM_PLL_LOSS_OF_LOCK (R209). -/
  | systemPllLossOfLock
  /-- REFCLK_LOSS (R209). -/
  | refclkLoss (die : Nat)
  /-- STATION_FABRIC_PLL_LOSS (R210). -/
  | stationFabricPllLoss (n : Nat)
  /-- RELOCK_ATTEMPT (R211). -/
  | relockAttempt (n : Nat)
  /-- LOCK_ACQUIRED (R205). -/
  | lockAcquired (die : Nat) (px : Bool)
  /-- DIVIDER_STEP (R208). -/
  | dividerStep (die : Nat) (px : Bool)
  /-- SYSTEM_PLL_RETRY (R209). -/
  | systemPllRetry
  /-- TRAIN (R220). -/
  | train (n : Nat)
  /-- TEST (R238). -/
  | test (n : Nat)
  /-- TEST_STOP (R240). -/
  | testStop (n : Nat)
  /-- LSR_CLEAR_COUNTERS (R240). -/
  | lsrClearCounters (n : Nat)
  /-- FAR_END_RELEASE (R220). -/
  | farEndRelease (n : Nat)
  /-- LSO_HIGH_1US (R220). -/
  | lsoHigh1us (n : Nat)
  /-- LINK_UP (R220). -/
  | linkUp (n : Nat)
  /-- TRAIN_TMO (R220). -/
  | trainTmo (n : Nat)
  /-- SWEEP_FRAME_LAUNCH (R223). -/
  | sweepFrameLaunch (n : Nat)
  /-- PAGE_SEND (R227). -/
  | pageSend (n : Nat)
  /-- APC_PULSE_PAIR (R230). -/
  | apcPulsePair (n : Nat)
  /-- APC_MEASUREMENT (R231). -/
  | apcMeasurement (n beam : Nat) (meas : Int)
  /-- DRV_SAFEOFF (R234). -/
  | drvSafeoff (n : Nat)
  /-- BEAM_WATCHDOG (R235). -/
  | beamWatchdog (n : Nat)
  /-- STRAY_LIGHT (R236). -/
  | strayLight (n reading ns : Nat)
  /-- REENTRY_COMPLETE (R237). -/
  | reentryComplete (n : Nat)
  /-- LSR_DRV_WRITE (R231). -/
  | lsrDrvWrite (n k v : Nat)
  /-- MARK_EDGE (R241). -/
  | markEdge (sensor : Nat) (rising : Bool) (t hold : Nat)
  /-- STRETCH_PERIOD (R253). -/
  | stretchPeriod
  /-- RESET_EST (R250). -/
  | resetEst
  /-- POP_RAW (R256). -/
  | popRaw
  /-- RGC_CLEAR_COUNTERS (R256). -/
  | rgcClearCounters
  /-- CORR_WRITE (R250). -/
  | corrWrite (n : Nat) (scan : Bool) (v : Nat)
  /-- SLOT_TIMER_TRIGGER (R259). -/
  | slotTimerTrigger (die slot : Nat)
  /-- OWNER_EVENT_TRIGGER (R259). -/
  | ownerEventTrigger (die slot : Nat) (own : OwnerSample)
  /-- HELD_TRIGGER_RELEASE (R259). -/
  | heldTriggerRelease (die slot : Nat)
  /-- SLOT_UPDATE (R260). -/
  | slotUpdate (die : Nat) (adc : Int) (valid : Bool)
  /-- SLOT_START (R266). -/
  | slotStart (die slot : Nat)
  /-- SLOT_STOP (R274). -/
  | slotStop (die slot : Nat)
  /-- SLOT_CLEAR (R273). -/
  | slotClear (die slot : Nat)
  /-- LPE_CLEAR_COUNTERS (R276). -/
  | lpeClearCounters (die : Nat)
  /-- LIM_WRITE (R265). -/
  | limWrite (die slot : Nat) (high : Bool) (v : Nat)
  /-- HV_DISCHARGE (R281). -/
  | hvDischarge (die : Nat) (ch : HvReading)
  /-- CHG_FORBID_CLEAR (R282). -/
  | chgForbidClear (n : Nat)
  /-- HEATER_FIRE (R284). -/
  | heaterFire (h : Nat)
  /-- END_GUARD (R284). -/
  | endGuard
  /-- FUSER_TEMP_SAMPLE (R283). -/
  | fuserTempSample (j : Nat) (t : Int) (inRange : Bool)
  /-- READY_TIMER (R285). -/
  | readyTimer
  /-- BAND_EXIT (R285). -/
  | bandExit
  /-- AUTO_STANDBY (R285). -/
  | autoStandby
  /-- WARMUP (R285). -/
  | warmup
  /-- FSR_STANDBY (R285). -/
  | fsrStandby
  /-- FSR_OFF (R290). -/
  | fsrOff
  /-- FSR_CLEAR (R287). -/
  | fsrClear
  /-- FSR_CLEAR_COUNTERS (R290). -/
  | fsrClearCounters
  /-- PWM_PERIOD (R293). -/
  | pwmPeriod (die ch : Nat) (m : PwmSample)
  /-- SPEED_SAMPLE (R300). -/
  | speedSample (die ch : Nat)
  /-- FOLLOW (R300). -/
  | follow (die ch : Nat)
  /-- CATCH_END (R303). -/
  | catchEnd (die ch : Nat)
  /-- ALIGN_END (R303). -/
  | alignEnd (die ch : Nat)
  /-- OVERCURRENT (R308). -/
  | overcurrent (die ch : Nat)
  /-- GATE_FAULT (R308). -/
  | gateFault (die ch : Nat)
  /-- BUS_SAMPLE (R305). -/
  | busSample (die v chopI : Nat)
  /-- CHOPPER_FAULT (R306). -/
  | chopperFault (kind : ChopperFault)
  /-- BUS_UNDERVOLTAGE (R307). -/
  | busUndervoltage (die : Nat)
  /-- HOLD_END (R308). -/
  | holdEnd (die ch : Nat)
  /-- MDR_CH_START (R310). -/
  | mdrChStart (die ch : Nat) (offset : Int)
  /-- MDR_CH_STOP (R310). -/
  | mdrChStop (die ch : Nat)
  /-- MDR_CH_CLEAR (R313). -/
  | mdrChClear (die ch : Nat)
  /-- MDR_CH_CLEAR_COUNTERS (R313). -/
  | mdrChClearCounters (die ch : Nat)
  /-- MDR_CLEAR (R312). -/
  | mdrClear (die : Nat)
  /-- MDR_CLEAR_COUNTERS (R312). -/
  | mdrClearCounters (die : Nat)
  /-- PROFILE_STEP (R320). -/
  | profileStep (replies : List Nat)
  /-- AXIS_TGT_WRITE (R320). -/
  | axisTgtWrite (x v : Nat)
  /-- AXIS_ENABLE (R329). -/
  | axisEnable (x : Nat)
  /-- AXIS_DISABLE (R329). -/
  | axisDisable (x : Nat)
  /-- AXIS_PRESET (R323). -/
  | axisPreset (x : Nat)
  /-- AXIS_CLEAR (R328). -/
  | axisClear (x : Nat)
  /-- AXS_AX_CLEAR_COUNTERS (R331). -/
  | axsAxClearCounters (x : Nat)
  /-- AXS_CLEAR_COUNTERS (R331). -/
  | axsClearCounters
  /-- THM_CONVERSION (R332). -/
  | thmConversion (die : Nat) (temps : List Int)
  /-- THM_EXT_SAMPLE (R333). -/
  | thmExtSample (n : Nat) (fracs : List Nat)
  /-- GATE_RISE (R334). -/
  | gateRise (n : Nat) (charge : Bool)
  /-- WARN_ENTRY (R336). -/
  | warnEntry
  /-- WARN_CLEAR (R337). -/
  | warnClear
  /-- GRACE_EXPIRY (R336). -/
  | graceExpiry
  /-- RELEASE_EXPIRY (R337). -/
  | releaseExpiry
  /-- CRIT_ENTRY (R338). -/
  | critEntry
  /-- FINISH_POINT (R338). -/
  | finishPoint
  /-- PHASE_SAFE (R338). -/
  | phaseSafe
  /-- THM_TRIP (R339). -/
  | thmTrip (die : Nat)
  /-- THM_CLEAR_COUNTERS (R342). -/
  | thmClearCounters
  /-- FAULT_REPORT (R346). -/
  | faultReport
  /-- LATCHED_REACTION (R348). -/
  | latchedReaction (die pos : Nat)
  /-- SAFE_OFF_COMMAND (R352). -/
  | safeOffCommand (die : Nat)
  /-- STOPPED (R352). -/
  | stopped
  /-- SHADOW_END (R354). -/
  | shadowEnd (sh : Shadow) (still : List Detector)
  /-- FAULT_N_PULSE_END (R356). -/
  | faultNPulseEnd
  /-- CLEAR_F (R358). -/
  | clearF
  /-- FLT_CLEAR_COUNTERS (R360). -/
  | fltClearCounters (die : Nat)
  /-- MERGE_FLUSH (R366). -/
  | mergeFlush (die : Nat)
  /-- SCRUB_READ (R367). -/
  | scrubRead (die mem upset : Nat) (last : Bool)
  /-- MEM_ARM (R368). -/
  | memArm (die : Nat)
  /-- MEM_DISARM (R368). -/
  | memDisarm (die : Nat)
  /-- MEM_CLEAR_COUNTERS (R369). -/
  | memClearCounters (die : Nat)
  /-- RECORD_WRITE (R370). -/
  | recordWrite
  /-- FREEZE (R373). -/
  | freeze
  /-- UNFREEZE (R373). -/
  | unfreeze
  /-- EVR_CLEAR_COUNTERS (R381). -/
  | evrClearCounters
  /-- EVR_WIN_READ (R374). -/
  | evrWinRead (path : Path)
  /-- EVR_CURSOR_WRITE (R374). -/
  | evrCursorWrite (slot word : Nat)
  /-- ARCHIVE_APPEND (R372). -/
  | archiveAppend
  /-- CODE_WORD_WRITE (R375). -/
  | codeWordWrite (ok again : Bool)
  /-- JOURNAL_APPEND (R379). -/
  | journalAppend (typ len : Nat)
  /-- LOOKUP (R379). -/
  | lookup
  /-- COMPACT_JRN (R378). -/
  | compactJrn
  /-- COMPACT_ARC (R378). -/
  | compactArc
  /-- LOV_CLEAR_COUNTERS (R382). -/
  | lovClearCounters
  /-- STAGE_DATA_ACCESS (R382). -/
  | stageDataAccess (path : Path) (value : Option Nat)
  /-- RD_DATA_READ (R382). -/
  | rdDataRead (path : Path)
  /-- RD_ADDR_WRITE (R382). -/
  | rdAddrWrite (part cw : Nat)
  /-- PROGRAM_A (R400). -/
  | programA (bad : List Nat)
  /-- PROGRAM_B (R400). -/
  | programB (bad : List Nat)
  /-- PROGRAM_RECOVERY (R400). -/
  | programRecovery (bad : List Nat)
  /-- SELECT_A (R400). -/
  | selectA
  /-- SELECT_B (R400). -/
  | selectB
  /-- CLEAR_FAILED_START_COUNT (R396). -/
  | clearFailedStartCount
  /-- WRITE_KEY_SLOT (R391). -/
  | writeKeySlot
  /-- REVOKE_KEY_SLOT (R391). -/
  | revokeKeySlot
  /-- RAISE_ROLLBACK_FLOOR (R391). -/
  | raiseRollbackFloor
  /-- UNLOCK_RECOVERY (R391). -/
  | unlockRecovery
  /-- LOCK_RECOVERY (R391). -/
  | lockRecovery
  /-- BAY_STANDBY (R409). -/
  | bayStandby
  /-- POWER_DOWN (R409). -/
  | powerDown
  /-- PWR_EN_REASSERT (R410). -/
  | pwrEnReassert
  /-- CLEAR_TRIP (R339). -/
  | clearTrip
  /-- CLEAR_CAUSE (R413). -/
  | clearCause
  /-- VMAIN_FAIL (R411): a sample of H19_VMAIN_S, mV. -/
  | vmainFail (mv : Nat)
  /-- VMAIN_RISE (R406): a sample of H19_VMAIN_S, mV. -/
  | vmainRise (mv : Nat)
  /-- COVER (R407): a sample of H18_COVER. -/
  | cover (high : Bool)
  /-- WEB_WAKE (R407): a sample of the quadrature state of H6. -/
  | webWake (quad : Nat)
  /-- BAY_TEMP (R407): a sample of the Bay's temperature, 0.1 °C, and of the package trip net. -/
  | bayTemp (temp : Int) (tripNet : Bool)
  /-- RTC_ALARM (R406). -/
  | rtcAlarm
  /-- EXTERNAL_WAKE (R407). -/
  | externalWake
  /-- RTC_SEC_WRITE (R406). -/
  | rtcSecWrite (path : Path) (lo : Nat)
  /-- LINK_DOWN (R417). -/
  | linkDown (kind : LinkEvent)
  /-- BAD_BAR0_ACCESS (R415). -/
  | badBar0Access (write : Bool)
  /-- REGISTER_WRITE (R450), or the host's read of a register, which has no row of its own (R16): no value. -/
  | registerWrite (die off : Nat) (v : Option Nat)
  /-- VECTOR_UNMASK (R418). -/
  | vectorUnmask (v : Nat)
  /-- IRQ_PEND_CLEAR (R418). -/
  | irqPendClear (w mask : Nat)
  /-- HIF_CLEAR_COUNTERS (R432). -/
  | hifClearCounters
  /-- STATUS_REQ (R421). -/
  | statusReq
  /-- ACK (R422). -/
  | ack (seq : Nat)
  /-- MAIL (R422); a frame that is not sound has a character, a gap or a CRC of R420 wrong. -/
  | mail (seq : Nat) (payload : List Nat) (sound : Bool)
  /-- ACK_TIMEOUT (R422). -/
  | ackTimeout (typ : Nat)
  /-- STATUS_PERIOD (R421). -/
  | statusPeriod
  /-- FRAME_TRANSMITTED (R423). -/
  | frameTransmitted
  /-- PRESS_LINK_LOST (R423). -/
  | pressLinkLost
  /-- SEND (R433). -/
  | send (len : Nat)
  /-- POP (R433). -/
  | pop
  /-- PLK_CLEAR_COUNTERS (R433). -/
  | plkClearCounters
  /-- PLK_RX_DATA_READ (R453). -/
  | plkRxDataRead
  /-- LINE_TRIGGER (R424). -/
  | lineTrigger
  /-- PULSE_END (R424). -/
  | pulseEnd (k : Nat)
  /-- ISP_CLEAR_COUNTERS (R434). -/
  | ispClearCounters
  /-- WEBPULSE_EDGE (R426). -/
  | webpulseEdge
  /-- FIN_CLEAR_COUNTERS (R434). -/
  | finClearCounters
  /-- INTERLOCK_OPEN (R427). -/
  | interlockOpen (a b : Bool)
  /-- INTERLOCK_CLOSE (R427). -/
  | interlockClose
  /-- MOT_DLY_EXPIRY (R427). -/
  | motDlyExpiry
  /-- INTERLOCK_DISCREPANCY (R427). -/
  | interlockDiscrepancy
  /-- SERVICE_READ (R428). -/
  | serviceRead (die wordOff : Nat) (ok late : Bool)
  /-- SERVICE_WRITE (R428). -/
  | serviceWrite (die wordOff data : Nat) (ok late : Bool)
  /-- REQUEST_ABORT (R428). -/
  | requestAbort
  /-- SVC_CLEAR_COUNTERS (R434). -/
  | svcClearCounters
  /-- UPDATE_IR (R429). -/
  | updateIr (code : Nat)
  /-- TAP_RESET (R429). -/
  | tapReset
  /-- VBAY_LOSS (R405). -/
  | vbayLoss
  /-- TAG_SENT (R425). -/
  | tagSent
  /-- SERVICE_RESPONSE_END (R428). -/
  | serviceResponseEnd
  deriving DecidableEq, Repr

end Sys2Proof
end

