-- ==== Sys2Proof/Decode.lean ====
section
/-! DEFINITION. The commands that a table word spells. The command table of this block gives its rows no bits: a command is an event or an access
and not a coded word. -/

namespace Sys2Proof

/-- The command that a word of the table's bits spells: no row of the table has bits. -/
def decodeTableWord (_nbits _w : Nat) : Option Instr := none

end Sys2Proof
end

