-- ==== Sys2Proof/Config.lean ====
section
/-! DEFINITION. What an implementation or an installation fixes and the manual does not: the free values of the model. None has a body, so
nothing can be proved about the value it gives. -/

namespace Sys2Proof

/-- A fresh value the manual leaves open, numbered by the counter the step reads and advances. -/
opaque Config.free : Nat → Nat

/-- The column of a data bit in the check matrix (R362): the manual fixes the columns of the data bits but for which 24 of weight five they
take, and not their order. Where these are no such columns, Sys2Proof.Machine.dataColumns takes others. -/
opaque Config.eccColumn : Nat → Nat

/-- The full scale of the phase-loop slot's output as a speed trim, for a scanner kind: millionths of a rpm, or of 1/256 Hz (R158, R163): the
manual gives the owner's full scale no value. -/
opaque Config.trimScale : Nat → Nat

end Sys2Proof
end

