-- ==== Sys2Proof/Machine/RegTypes.lean ====
section
/-! DEFINITION. What a register table of the manual holds: fields with their access codes (R18), classes (R19) and reset values,
registers with their offsets and index ranges, and the LO/HI pairs (R16). -/

namespace Sys2Proof.Machine

/-- Access codes (R18). -/
inductive Acc where
  | rw | ro | w1c | wo
  deriving DecidableEq, Repr

/-- Field classes (R19). `apply` is the class of the tables that an apply command copies into use (R184, R204). -/
inductive Cls where
  | none | live | fixed | banked | apply
  deriving DecidableEq, Repr

/-- One row of a register table: bits `hi` to `lo`. -/
structure Field where
  hi : Nat
  lo : Nat
  acc : Acc
  cls : Cls
  reset : Nat
  deriving DecidableEq, Repr

/-- A register is a word of its own, or the LO or HI half of a 40-bit pair (R16). -/
inductive Half where
  | single | lo | hi
  deriving DecidableEq, Repr

/-- A register, or an array of them: each dimension has a count and a stride, the widest stride first. `tab`, where it is not
empty, gives the reset value of each element of an array whose elements reset differently. -/
structure Reg where
  name : String
  base : Nat
  dims : List (Nat × Nat)
  fields : List Field
  half : Half
  tab : List Nat
  deriving DecidableEq, Repr

/-- A field by its die-relative offset and its bits. -/
structure Fld where
  off : Nat
  hi : Nat
  lo : Nat
  deriving DecidableEq, Repr

/-- Splits a distance from the base into one index per dimension; nothing where it falls between registers. -/
def splitIndex : List (Nat × Nat) → Nat → Option (List Nat)
  | [], 0 => some []
  | [], _ + 1 => none
  | (n, st) :: ds, rel =>
    if rel / st < n then (splitIndex ds (rel % st)).map (rel / st :: ·) else none

/-- The indices at which an offset lies in a register array. -/
def Reg.indexOf (r : Reg) (off : Nat) : Option (List Nat) :=
  if off < r.base then none else splitIndex r.dims (off - r.base)

/-- The reset value of a field in its place. -/
def Field.resetBits (f : Field) : Nat := f.reset % 2 ^ (f.hi + 1 - f.lo) * 2 ^ f.lo

/-- The reset value of one element of a register array (the Reset column; reserved fields read zero, R15). -/
def Reg.resetValue (r : Reg) (ix : List Nat) : Word :=
  match r.tab with
  | [] => BitVec.ofNat 20 (r.fields.foldl (fun a f => a + f.resetBits) 0)
  | t => BitVec.ofNat 20 (t.getD (ix.headD 0) 0)

/-- The value of bits `hi` to `lo` of a word. -/
def getBits (w : Word) (hi lo : Nat) : Nat := w.toNat / 2 ^ lo % 2 ^ (hi + 1 - lo)

/-- A word with its bits `hi` to `lo` replaced by the low bits of `v`. -/
def setBits (w : Word) (hi lo v : Nat) : Word :=
  let m : Word := BitVec.ofNat 20 (2 ^ (hi + 1 - lo) - 1) <<< lo
  (w &&& ~~~m) ||| (BitVec.ofNat 20 v <<< lo &&& m)

/-- The base of motor channel `k` of a die: channels 0 to 3 lie in the MDR window, and index 4 is the polygon channel of a station's
SCN window (R313, R445). -/
def mdrChBase (k : Nat) : Nat := if k = 4 then 0xA0800 else 0x50800 + 0x800 * k

end Sys2Proof.Machine
end

