-- ==== Sys2Proof/Machine/RegNamesA.lean ====
section
/-! DEFINITION. The fields of the registers of RegTabA by their names in the manual (F) and the LO offsets of its LO/HI pairs (P). Array registers take their index as the manual numbers it. -/

namespace Sys2Proof.Machine

namespace F

def WTB_CTRL_est_bw : Fld := ⟨0xA0000, 3, 2⟩
def WTB_CTRL_enc_source : Fld := ⟨0xA0000, 1, 0⟩
def WTB_ENC_A_CFG_glitch_ns : Fld := ⟨0xA0004, 11, 8⟩
def WTB_ENC_A_CFG_interp_log2 : Fld := ⟨0xA0004, 7, 4⟩
def WTB_ENC_A_CFG_invert : Fld := ⟨0xA0004, 1, 1⟩
def WTB_ENC_A_CFG_mode : Fld := ⟨0xA0004, 0, 0⟩
def WTB_ENC_B_CFG_glitch_ns : Fld := ⟨0xA0008, 11, 8⟩
def WTB_ENC_B_CFG_interp_log2 : Fld := ⟨0xA0008, 7, 4⟩
def WTB_ENC_B_CFG_invert : Fld := ⟨0xA0008, 1, 1⟩
def WTB_ENC_B_CFG_mode : Fld := ⟨0xA0008, 0, 0⟩
def WTB_HYST_web_hyst : Fld := ⟨0xA001C, 3, 0⟩
def WTB_XCHK_xchk_n : Fld := ⟨0xA0020, 19, 16⟩
def WTB_XCHK_span_sel : Fld := ⟨0xA0020, 15, 12⟩
def WTB_XCHK_xchk_tol : Fld := ⟨0xA0020, 11, 0⟩
def WTB_STATUS_preset_req : Fld := ⟨0xA0024, 14, 14⟩
def WTB_STATUS_enc_b_fault : Fld := ⟨0xA0024, 13, 13⟩
def WTB_STATUS_enc_a_fault : Fld := ⟨0xA0024, 12, 12⟩
def WTB_STATUS_mains_loss_s : Fld := ⟨0xA0024, 11, 11⟩
def WTB_STATUS_mains_ok : Fld := ⟨0xA0024, 10, 10⟩
def WTB_STATUS_write_reject : Fld := ⟨0xA0024, 9, 9⟩
def WTB_STATUS_enc_b_fault_s : Fld := ⟨0xA0024, 8, 8⟩
def WTB_STATUS_enc_a_fault_s : Fld := ⟨0xA0024, 7, 7⟩
def WTB_STATUS_mismatch_s : Fld := ⟨0xA0024, 6, 6⟩
def WTB_STATUS_reverse_s : Fld := ⟨0xA0024, 5, 5⟩
def WTB_STATUS_on_secondary : Fld := ⟨0xA0024, 4, 4⟩
def WTB_STATUS_enc_mismatch : Fld := ⟨0xA0024, 3, 3⟩
def WTB_STATUS_web_reverse : Fld := ⟨0xA0024, 2, 2⟩
def WTB_STATUS_cal_done : Fld := ⟨0xA0024, 1, 1⟩
def WTB_STATUS_tb_ok : Fld := ⟨0xA0024, 0, 0⟩
def WTB_VEL_vel : Fld := ⟨0xA0030, 19, 0⟩
def WTB_CAPT_VEL_capt_vel : Fld := ⟨0xA0048, 19, 0⟩
def WTB_REV_DEPTH_rev_depth_max : Fld := ⟨0xA004C, 19, 0⟩
def WTB_CMD_clear_counters : Fld := ⟨0xA003C, 4, 4⟩
def WTB_CMD_recal : Fld := ⟨0xA003C, 3, 3⟩
def WTB_CMD_rebaseline : Fld := ⟨0xA003C, 2, 2⟩
def WTB_CMD_capture : Fld := ⟨0xA003C, 1, 1⟩
def WTB_CMD_preset : Fld := ⟨0xA003C, 0, 0⟩
def WTB_ENC_ERR_CNT_enc_b_err : Fld := ⟨0xA0050, 19, 10⟩
def WTB_ENC_ERR_CNT_enc_a_err : Fld := ⟨0xA0050, 9, 0⟩
def WTB_LAT_spread (n : Nat) : Fld := ⟨0xA0060 + 0x4 * (n - 1), 19, 16⟩
def WTB_LAT_lat (n : Nat) : Fld := ⟨0xA0060 + 0x4 * (n - 1), 15, 0⟩
def WTB_MAINS_CFG_src : Fld := ⟨0xA0080, 0, 0⟩
def WTB_MAINS_PHASE_phase : Fld := ⟨0xA0084, 19, 0⟩
def WTB_MAINS_PERIOD_period : Fld := ⟨0xA0088, 19, 0⟩
def WTB_MAINS_REJ_rej_cnt : Fld := ⟨0xA008C, 19, 0⟩
def WTB_SHAFT_ANGLE_angle (k : Nat) : Fld := ⟨0xA0090 + 0x4 * k, 19, 0⟩
def CUE_REP_STATUS_coh_s : Fld := ⟨0x0F000, 5, 5⟩
def CUE_REP_STATUS_miss_s : Fld := ⟨0x0F000, 4, 4⟩
def CUE_REP_STATUS_reverse : Fld := ⟨0x0F000, 3, 3⟩
def CUE_REP_STATUS_coh_ok : Fld := ⟨0x0F000, 2, 2⟩
def CUE_REP_STATUS_cal_done : Fld := ⟨0x0F000, 1, 1⟩
def CUE_REP_STATUS_rep_ok : Fld := ⟨0x0F000, 0, 0⟩
def CUE_REP_VEL_rep_vel : Fld := ⟨0x0F00C, 19, 0⟩
def CUE_REP_LAT_lat : Fld := ⟨0x0F010, 15, 0⟩
def CUE_REP_ERR_MAX_err_max : Fld := ⟨0x0F014, 19, 0⟩
def CUE_REP_MISS_CNT_miss_cnt : Fld := ⟨0x0F018, 19, 0⟩
def CUE_REP_COH_TOL_coh_tol : Fld := ⟨0x0F01C, 7, 0⟩
def CUE_SHAFT_ANGLE_angle (k : Nat) : Fld := ⟨0x0F020 + 0x4 * k, 19, 0⟩
def CUE_CTRL_miss_win : Fld := ⟨0x00000, 11, 0⟩
def CUE_STATUS_chain_halt_s : Fld := ⟨0x00004, 7, 7⟩
def CUE_STATUS_hard_miss_s : Fld := ⟨0x00004, 6, 6⟩
def CUE_STATUS_late_s : Fld := ⟨0x00004, 5, 5⟩
def CUE_STATUS_skip_s : Fld := ⟨0x00004, 4, 4⟩
def CUE_STATUS_write_reject : Fld := ⟨0x00004, 3, 3⟩
def CUE_STATUS_degraded : Fld := ⟨0x00004, 2, 2⟩
def CUE_STATUS_tb_valid : Fld := ⟨0x00004, 1, 1⟩
def CUE_STATUS_running : Fld := ⟨0x00004, 0, 0⟩
def CUE_LATE_TOL_late_tol : Fld := ⟨0x00008, 19, 0⟩
def CUE_CMD_clear_counters : Fld := ⟨0x0000C, 0, 0⟩
def CUE_EXEC_CNT_exec_cnt : Fld := ⟨0x00020, 19, 0⟩
def CUE_LATE_CNT_late_cnt : Fld := ⟨0x00024, 19, 0⟩
def CUE_LATE_MAX_late_max : Fld := ⟨0x00028, 19, 0⟩
def CUE_SKIP_CNT_skip_cnt : Fld := ⟨0x0002C, 19, 0⟩
def CUE_HARD_MISS_CNT_hard_miss_cnt : Fld := ⟨0x00030, 19, 0⟩
def CUE_SAMPLE_VEL_sample_vel : Fld := ⟨0x0003C, 19, 0⟩
def CUE_LIST_CFG_frm_owned (j : Nat) : Fld := ⟨0x00100 + 0x4 * j, 9, 9⟩
def CUE_LIST_CFG_enable (j : Nat) : Fld := ⟨0x00100 + 0x4 * j, 8, 8⟩
def CUE_LIST_CFG_miss_policy (j : Nat) : Fld := ⟨0x00100 + 0x4 * j, 7, 6⟩
def CUE_LIST_CFG_src (j : Nat) : Fld := ⟨0x00100 + 0x4 * j, 5, 4⟩
def CUE_LIST_CFG_kind (j : Nat) : Fld := ⟨0x00100 + 0x4 * j, 3, 2⟩
def CUE_LIST_HEAD_halted (j : Nat) : Fld := ⟨0x00140 + 0x4 * j, 13, 13⟩
def CUE_LIST_HEAD_idle (j : Nat) : Fld := ⟨0x00140 + 0x4 * j, 12, 12⟩
def CUE_LIST_HEAD_head (j : Nat) : Fld := ⟨0x00140 + 0x4 * j, 11, 0⟩
def CUE_LIST_LAST_last (j : Nat) : Fld := ⟨0x00180 + 0x4 * j, 11, 0⟩
def CUE_LIST_CMD_op : Fld := ⟨0x001C0, 5, 4⟩
def CUE_LIST_CMD_list : Fld := ⟨0x001C0, 3, 0⟩
def CUE_EDIT_IDX_idx : Fld := ⟨0x00200, 11, 0⟩
def CUE_EDIT_W_word (w : Nat) : Fld := ⟨0x00204 + 0x4 * w, 19, 0⟩
def CUE_EDIT_CMD_op : Fld := ⟨0x00214, 1, 0⟩
def CUE_EDIT_RESULT_result : Fld := ⟨0x00218, 2, 0⟩
def CUE_WTAB_ADDR_op (n : Nat) : Fld := ⟨0x00800 + 0x8 * n, 19, 18⟩
def CUE_WTAB_ADDR_word_off (n : Nat) : Fld := ⟨0x00800 + 0x8 * n, 17, 0⟩
def CUE_WTAB_DATA_data (n : Nat) : Fld := ⟨0x00804 + 0x8 * n, 19, 0⟩
def FRM_CTRL_admit_en : Fld := ⟨0xB0000, 0, 0⟩
def FRM_STATUS_write_reject : Fld := ⟨0xB0004, 15, 15⟩
def FRM_STATUS_bank_miss_s : Fld := ⟨0xB0004, 14, 14⟩
def FRM_STATUS_stopping : Fld := ⟨0xB0004, 13, 13⟩
def FRM_STATUS_armed : Fld := ⟨0xB0004, 12, 12⟩
def FRM_STATUS_queued : Fld := ⟨0xB0004, 8, 0⟩
def FRM_SUB_W_word (w : Nat) : Fld := ⟨0xB0010 + 0x4 * w, 19, 0⟩
def FRM_SUB_CMD_clear_counters : Fld := ⟨0xB0030, 3, 3⟩
def FRM_SUB_CMD_pop_done : Fld := ⟨0xB0030, 2, 2⟩
def FRM_SUB_CMD_withdraw : Fld := ⟨0xB0030, 1, 1⟩
def FRM_SUB_CMD_submit : Fld := ⟨0xB0030, 0, 0⟩
def FRM_ADMIT_STATUS_result : Fld := ⟨0xB0034, 3, 0⟩
def FRM_ADMIT_SERIAL_serial : Fld := ⟨0xB0038, 19, 0⟩
def FRM_NEXT_SERIAL_next_serial : Fld := ⟨0xB0044, 19, 0⟩
def FRM_ADMIT_TIME_admit_time : Fld := ⟨0xB0048, 19, 0⟩
def FRM_VMIN_vmin : Fld := ⟨0xB004C, 19, 0⟩
def FRM_JOB_MIN_job_min : Fld := ⟨0xB0050, 19, 0⟩
def FRM_DONE_W_word (w : Nat) : Fld := ⟨0xB0100 + 0x4 * w, 19, 0⟩
def FRM_DONE_LEVEL_level : Fld := ⟨0xB0110, 6, 0⟩
def FRM_POP_EMPTY_CNT_pop_empty : Fld := ⟨0xB0114, 19, 0⟩
def FRM_ADMIT_CNT_admit_cnt : Fld := ⟨0xB0120, 19, 0⟩
def FRM_REFUSE_CNT_refuse_cnt : Fld := ⟨0xB0124, 19, 0⟩
def FRM_FLAG_CNT_flag_cnt : Fld := ⟨0xB0128, 19, 0⟩
def FRM_CANCEL_CNT_cancel_cnt : Fld := ⟨0xB012C, 19, 0⟩
def FRM_SW_STATUS_next_sw : Fld := ⟨0xB0130, 15, 8⟩
def FRM_SW_STATUS_done_sw : Fld := ⟨0xB0130, 7, 0⟩
def CUE_BANK_STATUS_armed_sw : Fld := ⟨0x0E000, 19, 12⟩
def CUE_BANK_STATUS_active_sw : Fld := ⟨0x0E000, 11, 4⟩
def CUE_BANK_STATUS_bank_miss_s : Fld := ⟨0x0E000, 2, 2⟩
def CUE_BANK_STATUS_straddle : Fld := ⟨0x0E000, 1, 1⟩
def CUE_BANK_STATUS_armed : Fld := ⟨0x0E000, 0, 0⟩
def CUE_ARM_SNAPSHOT_arm_wcnt : Fld := ⟨0x0E004, 19, 0⟩
def CUE_STAGE_WCNT_stage_wcnt : Fld := ⟨0x0E008, 19, 0⟩
def CUE_BANK_VIEW_bank_view : Fld := ⟨0x0E00C, 1, 0⟩
def RIN_WIN_CFG_en (w : Nat) : Fld := ⟨0x10000 + 0x4 * w, 9, 9⟩
def RIN_WIN_CFG_die (w : Nat) : Fld := ⟨0x10000 + 0x4 * w, 8, 6⟩
def RIN_WIN_CFG_base_mib (w : Nat) : Fld := ⟨0x10000 + 0x4 * w, 5, 0⟩
def RIN_HSTATUS_bar2_drop_s : Fld := ⟨0x10040, 1, 1⟩
def RIN_HSTATUS_write_reject : Fld := ⟨0x10040, 0, 0⟩
def RIN_BAR2_DROP_CNT_drop_cnt : Fld := ⟨0x10044, 19, 0⟩
def RIN_RSET_SEL_rset : Fld := ⟨0x10050, 7, 0⟩
def RIN_RSET_STATE_sealed : Fld := ⟨0x10054, 19, 19⟩
def RIN_RSET_STATE_use_cnt : Fld := ⟨0x10054, 15, 7⟩
def RIN_RSET_STATE_stn_valid : Fld := ⟨0x10054, 6, 0⟩
def RIN_RSET_CMD_op : Fld := ⟨0x10058, 9, 8⟩
def RIN_RSET_CMD_rset : Fld := ⟨0x10058, 7, 0⟩
def RIN_RSET_RESULT_result : Fld := ⟨0x1005C, 1, 0⟩
def RIN_ADMIT_DIAG_stn : Fld := ⟨0x10060, 19, 17⟩
def RIN_ADMIT_DIAG_reason : Fld := ⟨0x10060, 16, 13⟩
def RIN_ADMIT_DIAG_rset : Fld := ⟨0x10060, 7, 0⟩
def RIN_STATUS_patch_inc_s : Fld := ⟨0x10000, 5, 5⟩
def RIN_STATUS_ue_s : Fld := ⟨0x10000, 4, 4⟩
def RIN_STATUS_late_s : Fld := ⟨0x10000, 3, 3⟩
def RIN_STATUS_underrun_s : Fld := ⟨0x10000, 2, 2⟩
def RIN_STATUS_drop_s : Fld := ⟨0x10000, 1, 1⟩
def RIN_STATUS_write_reject : Fld := ⟨0x10000, 0, 0⟩
def RIN_DESC_IDX_idx : Fld := ⟨0x10010, 7, 0⟩
def RIN_DESC_W_word (w : Nat) : Fld := ⟨0x10014 + 0x4 * w, 19, 0⟩
def RIN_DESC_CMD_op : Fld := ⟨0x10034, 1, 0⟩
def RIN_DESC_RESULT_result : Fld := ⟨0x10038, 2, 0⟩
def RIN_CTX_COMMIT_commit (c : Nat) : Fld := ⟨0x10100 + 0x10 * c, 19, 0⟩
def RIN_CTX_REL_release (c : Nat) : Fld := ⟨0x10104 + 0x10 * c, 19, 0⟩
def RIN_CTX_NEXT_next (c : Nat) : Fld := ⟨0x10108 + 0x10 * c, 19, 0⟩
def RIN_CTX_STATE_kind (c : Nat) : Fld := ⟨0x1010C + 0x10 * c, 19, 18⟩
def RIN_CTX_STATE_rset (c : Nat) : Fld := ⟨0x1010C + 0x10 * c, 7, 0⟩
def RIN_UNDERRUN_CNT_underrun_cnt : Fld := ⟨0x10200, 19, 0⟩
def RIN_LATE_CNT_late_cnt : Fld := ⟨0x10204, 19, 0⟩
def RIN_DROP_CNT_drop_cnt : Fld := ⟨0x10208, 19, 0⟩
def RIN_UE_CNT_ue_cnt : Fld := ⟨0x1020C, 19, 0⟩
def RIN_CMD_clear_counters : Fld := ⟨0x10218, 0, 0⟩
def XFR_CTRL_retry_gap : Fld := ⟨0x20000, 3, 0⟩
def XFR_STATUS_write_reject : Fld := ⟨0x20004, 0, 0⟩
def XFR_RES_LIMIT_res_limit : Fld := ⟨0x20008, 13, 0⟩
def XFR_RES_SUM_res_sum : Fld := ⟨0x2000C, 13, 0⟩
def XFR_CH_CFG_req_sel (c : Nat) : Fld := ⟨0x20100 + 0x40 * c, 19, 14⟩
def XFR_CH_CFG_prio (c : Nat) : Fld := ⟨0x20100 + 0x40 * c, 13, 12⟩
def XFR_CH_CFG_retry_max (c : Nat) : Fld := ⟨0x20100 + 0x40 * c, 11, 9⟩
def XFR_CH_CFG_burst_log2 (c : Nat) : Fld := ⟨0x20100 + 0x40 * c, 6, 4⟩
def XFR_CH_STATUS_req (c : Nat) : Fld := ⟨0x20114 + 0x40 * c, 7, 7⟩
def XFR_CH_STATUS_poison_s (c : Nat) : Fld := ⟨0x20114 + 0x40 * c, 6, 6⟩
def XFR_CH_STATUS_retry_s (c : Nat) : Fld := ⟨0x20114 + 0x40 * c, 5, 5⟩
def XFR_CH_STATUS_write_reject (c : Nat) : Fld := ⟨0x20114 + 0x40 * c, 4, 4⟩
def XFR_CH_STATUS_halt_cause (c : Nat) : Fld := ⟨0x20114 + 0x40 * c, 3, 2⟩
def XFR_CH_STATUS_state (c : Nat) : Fld := ⟨0x20114 + 0x40 * c, 1, 0⟩
def XFR_CH_RES_res_mbps (c : Nat) : Fld := ⟨0x20104 + 0x40 * c, 13, 0⟩
def XFR_CH_REQ_req_qty (c : Nat) : Fld := ⟨0x20108 + 0x40 * c, 15, 0⟩
def XFR_CH_DESC_first (c : Nat) : Fld := ⟨0x2010C + 0x40 * c, 18, 0⟩
def XFR_CH_CMD_clear_counters (c : Nat) : Fld := ⟨0x20110 + 0x40 * c, 3, 3⟩
def XFR_CH_CMD_abort (c : Nat) : Fld := ⟨0x20110 + 0x40 * c, 2, 2⟩
def XFR_CH_CMD_resume (c : Nat) : Fld := ⟨0x20110 + 0x40 * c, 1, 1⟩
def XFR_CH_CMD_start (c : Nat) : Fld := ⟨0x20110 + 0x40 * c, 0, 0⟩
def XFR_CH_CUR_DESC_cur (c : Nat) : Fld := ⟨0x20118 + 0x40 * c, 18, 0⟩
def XFR_CH_SRC_LINE_src_line (c : Nat) : Fld := ⟨0x2011C + 0x40 * c, 19, 0⟩
def XFR_CH_SRC_BYTE_src_byte (c : Nat) : Fld := ⟨0x20120 + 0x40 * c, 19, 0⟩
def XFR_CH_DST_LINE_dst_line (c : Nat) : Fld := ⟨0x20124 + 0x40 * c, 19, 0⟩
def XFR_CH_DST_BYTE_dst_byte (c : Nat) : Fld := ⟨0x20128 + 0x40 * c, 19, 0⟩
def XFR_CH_HOLD_hold_lvl (c : Nat) : Fld := ⟨0x2012C + 0x40 * c, 7, 0⟩
def XFR_CH_DONE_CNT_done_cnt (c : Nat) : Fld := ⟨0x20130 + 0x40 * c, 19, 0⟩
def XFR_CH_RETRY_CNT_retry_cnt (c : Nat) : Fld := ⟨0x20134 + 0x40 * c, 19, 0⟩
def XFR_CH_REQ_DROP_req_drop (c : Nat) : Fld := ⟨0x20138 + 0x40 * c, 19, 0⟩
def XFR_CH_POISON_CNT_poison_cnt (c : Nat) : Fld := ⟨0x2013C + 0x40 * c, 19, 0⟩
def XFR_SDESC_IDX_idx : Fld := ⟨0x20040, 5, 0⟩
def XFR_SDESC_W_word (w : Nat) : Fld := ⟨0x20044 + 0x4 * w, 19, 0⟩
def XFR_SDESC_CMD_op : Fld := ⟨0x20084, 1, 0⟩
def XFR_SDESC_RESULT_result : Fld := ⟨0x20088, 1, 0⟩
def SCN_CFG_bd1_use : Fld := ⟨0xA0000, 7, 6⟩
def SCN_CFG_fid_mode : Fld := ⟨0xA0000, 5, 4⟩
def SCN_CFG_facets : Fld := ⟨0xA0000, 3, 2⟩
def SCN_CFG_kind : Fld := ⟨0xA0000, 1, 0⟩
def SCN_GEOM_lines (a : Nat) : Fld := ⟨0xA0004 + 0x4 * a, 5, 0⟩
def SCN_DUTY_duty : Fld := ⟨0xA0010, 9, 0⟩
def SCN_RPM_MAX_rpm_max : Fld := ⟨0xA0014, 19, 0⟩
def SCN_RPM_MIN_rpm_min : Fld := ⟨0xA0018, 19, 0⟩
def SCN_ACC_res_slew : Fld := ⟨0xA001C, 19, 10⟩
def SCN_ACC_poly_acc : Fld := ⟨0xA001C, 9, 0⟩
def SCN_SOS_DLY_sos_dly : Fld := ⟨0xA0020, 19, 0⟩
def SCN_BD_bd_miss_n : Fld := ⟨0xA0024, 11, 8⟩
def SCN_BD_bd_win : Fld := ⟨0xA0024, 7, 0⟩
def SCN_LOCK_lock_win : Fld := ⟨0xA0028, 19, 16⟩
def SCN_LOCK_acq_tol : Fld := ⟨0xA0028, 15, 10⟩
def SCN_LOCK_acq_sweeps : Fld := ⟨0xA0028, 7, 0⟩
def SCN_RPH_settle : Fld := ⟨0xA002C, 19, 16⟩
def SCN_RPH_phase_slew : Fld := ⟨0xA002C, 11, 0⟩
def SCN_RES_FN_f_n : Fld := ⟨0xA0030, 19, 0⟩
def SCN_RES_CFG_amp_n : Fld := ⟨0xA0034, 19, 16⟩
def SCN_RES_CFG_amp_tol : Fld := ⟨0xA0034, 15, 8⟩
def SCN_RES_CFG_pull : Fld := ⟨0xA0034, 5, 0⟩
def SCN_RES_FWD_OFS_fwd_ofs : Fld := ⟨0xA0038, 13, 0⟩
def SCN_RES_REV_OFS_rev_ofs : Fld := ⟨0xA003C, 13, 0⟩
def SCN_RES_LAG_pick_lag : Fld := ⟨0xA0040, 19, 0⟩
def SCN_FACET_SIG_sig (i : Nat) : Fld := ⟨0xA0044 + 0x4 * i, 19, 0⟩
def SCN_SPIN_TMO_spin_tmo : Fld := ⟨0xA006C, 19, 0⟩
def SCN_STATUS_lock_ok : Fld := ⟨0xA0080, 18, 16⟩
def SCN_STATUS_facet : Fld := ⟨0xA0080, 15, 12⟩
def SCN_STATUS_dir : Fld := ⟨0xA0080, 11, 11⟩
def SCN_STATUS_fly : Fld := ⟨0xA0080, 10, 10⟩
def SCN_STATUS_scan_ok : Fld := ⟨0xA0080, 9, 9⟩
def SCN_STATUS_running : Fld := ⟨0xA0080, 8, 8⟩
def SCN_STATUS_cur_addr : Fld := ⟨0xA0080, 4, 3⟩
def SCN_STATUS_state : Fld := ⟨0xA0080, 2, 0⟩
def SCN_EVENT_tmo_s : Fld := ⟨0xA0084, 6, 6⟩
def SCN_EVENT_amp_s : Fld := ⟨0xA0084, 5, 5⟩
def SCN_EVENT_fid_s : Fld := ⟨0xA0084, 4, 4⟩
def SCN_EVENT_motor_s : Fld := ⟨0xA0084, 3, 3⟩
def SCN_EVENT_lock_lost_s : Fld := ⟨0xA0084, 2, 2⟩
def SCN_EVENT_bd_miss_s : Fld := ⟨0xA0084, 1, 1⟩
def SCN_EVENT_write_reject : Fld := ⟨0xA0084, 0, 0⟩
def SCN_CMD_clear_counters : Fld := ⟨0xA0088, 3, 3⟩
def SCN_CMD_clear : Fld := ⟨0xA0088, 2, 2⟩
def SCN_CMD_stop : Fld := ⟨0xA0088, 1, 1⟩
def SCN_CMD_start : Fld := ⟨0xA0088, 0, 0⟩
def SCN_JOB_addr : Fld := ⟨0xA008C, 1, 0⟩
def SCN_PHASE_ERR_e : Fld := ⟨0xA0090, 19, 0⟩
def SCN_PHASE_MAX_e_max : Fld := ⟨0xA0094, 19, 0⟩
def SCN_SPEED_speed : Fld := ⟨0xA0098, 19, 0⟩
def SCN_AMP_amp : Fld := ⟨0xA009C, 19, 0⟩
def SCN_VLO_v_lo (a : Nat) : Fld := ⟨0xA00A0 + 0x4 * a, 19, 0⟩
def SCN_VHI_v_hi (a : Nat) : Fld := ⟨0xA00B0 + 0x4 * a, 19, 0⟩
def SCN_RLK_DIST_rlk (a : Nat) : Fld := ⟨0xA00C0 + 0x4 * a, 19, 0⟩
def SCN_RPH_DIST_rph : Fld := ⟨0xA00CC, 19, 0⟩
def SCN_BD_MISS_CNT_bd_miss : Fld := ⟨0xA00D0, 19, 0⟩
def SCN_FLY_CNT_fly : Fld := ⟨0xA00D4, 19, 0⟩
def SCN_LOCK_LOST_CNT_lost : Fld := ⟨0xA00D8, 19, 0⟩
def SCN_PRED_ERR_MAX_pred : Fld := ⟨0xA00DC, 19, 0⟩
def LPL_CFG_nbeams : Fld := ⟨0xB0000, 5, 0⟩
def LPL_ACTIVE_PX_active_px : Fld := ⟨0xB000C, 14, 0⟩
def LPL_JOB_lut_sel : Fld := ⟨0xB0010, 1, 0⟩
def LPL_REG_WEB_reg_web : Fld := ⟨0xB0014, 19, 0⟩
def LPL_REG_SCAN_reg_scan : Fld := ⟨0xB0018, 19, 0⟩
def LPL_REG_LIM_lim_scan : Fld := ⟨0xB001C, 19, 10⟩
def LPL_REG_LIM_lim_web : Fld := ⟨0xB001C, 9, 0⟩
def LPL_SEG_CFG_seg_px : Fld := ⟨0xB0020, 9, 0⟩
def LPL_PLACE_TOL_place_tol : Fld := ⟨0xB0024, 19, 0⟩
def LPL_CMD_clear_counters : Fld := ⟨0xB0028, 1, 1⟩
def LPL_CMD_apply : Fld := ⟨0xB0028, 0, 0⟩
def LPL_STATUS_place_s : Fld := ⟨0xB0030, 4, 4⟩
def LPL_STATUS_reg_clamp_s : Fld := ⟨0xB0030, 3, 3⟩
def LPL_STATUS_apply_pend : Fld := ⟨0xB0030, 2, 2⟩
def LPL_STATUS_write_reject : Fld := ⟨0xB0030, 1, 1⟩
def LPL_STATUS_bypass : Fld := ⟨0xB0030, 0, 0⟩
def LPL_RANGE_r2 : Fld := ⟨0xB0034, 11, 8⟩
def LPL_RANGE_r1 : Fld := ⟨0xB0034, 7, 4⟩
def LPL_RANGE_r0 : Fld := ⟨0xB0034, 3, 0⟩
def LPL_X0_x0 (a : Nat) : Fld := ⟨0xB0038 + 0x4 * a, 19, 0⟩
def LPL_SHIFT_u : Fld := ⟨0xB0044, 19, 0⟩
def LPL_BLANK_SWP_CNT_blank_cnt : Fld := ⟨0xB0048, 19, 0⟩
def LPL_BYPASS_CNT_bypass_cnt : Fld := ⟨0xB004C, 19, 0⟩
def LPL_PLACE_FLAG_CNT_place_cnt : Fld := ⟨0xB0050, 19, 0⟩
def LPL_FACET_WEB_facet_web (f : Nat) : Fld := ⟨0xB0080 + 0x4 * f, 19, 0⟩
def LPL_FACET_SCAN_facet_scan (f : Nat) : Fld := ⟨0xB00C0 + 0x4 * f, 19, 0⟩
def LPL_BEAM_DLY_beam_dly (k : Nat) : Fld := ⟨0xB0100 + 0x4 * k, 19, 0⟩
def LPL_SEG_seg (f : Nat) (k : Nat) : Fld := ⟨0xB0400 + 0x100 * f + 0x4 * k, 19, 0⟩
def LPL_LUT_power (t : Nat) (v : Nat) : Fld := ⟨0xB0200 + 0x40 * t + 0x4 * v, 19, 14⟩
def LPL_LUT_width (t : Nat) (v : Nat) : Fld := ⟨0xB0200 + 0x40 * t + 0x4 * v, 13, 7⟩
def LPL_LUT_start (t : Nat) (v : Nat) : Fld := ⟨0xB0200 + 0x40 * t + 0x4 * v, 5, 0⟩
def CKS_SYS_STATUS_ref_lost_s : Fld := ⟨0x90000, 4, 4⟩
def CKS_SYS_STATUS_lost_s : Fld := ⟨0x90000, 3, 3⟩
def CKS_SYS_STATUS_ramp : Fld := ⟨0x90000, 2, 2⟩
def CKS_SYS_STATUS_bypass : Fld := ⟨0x90000, 1, 1⟩
def CKS_SYS_STATUS_locked : Fld := ⟨0x90000, 0, 0⟩
def CKS_SYS_LOST_CNT_lost_cnt : Fld := ⟨0x90004, 19, 0⟩
def CKS_SYS_CMD_clear_counters : Fld := ⟨0x90008, 0, 0⟩
def CKS_PX_CFG_auto_trim : Fld := ⟨0x90100, 3, 3⟩
def CKS_PX_CFG_dither_en : Fld := ⟨0x90100, 2, 2⟩
def CKS_PX_CFG_bw_sel : Fld := ⟨0x90100, 1, 0⟩
def CKS_PX_STATUS_write_reject : Fld := ⟨0x9010C, 5, 5⟩
def CKS_PX_STATUS_retune_s : Fld := ⟨0x9010C, 4, 4⟩
def CKS_PX_STATUS_pll_lost_s : Fld := ⟨0x9010C, 3, 3⟩
def CKS_PX_STATUS_ramp : Fld := ⟨0x9010C, 2, 2⟩
def CKS_PX_STATUS_bypass : Fld := ⟨0x9010C, 1, 1⟩
def CKS_PX_STATUS_locked : Fld := ⟨0x9010C, 0, 0⟩
def CKS_PX_SEED_seed : Fld := ⟨0x90104, 19, 0⟩
def CKS_PX_RETUNE_retune_max : Fld := ⟨0x90108, 5, 0⟩
def CKS_PX_FW_LO_fw_frac : Fld := ⟨0x90110, 19, 0⟩
def CKS_PX_FW_HI_fw_int : Fld := ⟨0x90114, 7, 0⟩
def CKS_PX_PDIV_pdiv : Fld := ⟨0x90118, 8, 0⟩
def CKS_PX_FREQ_f_px : Fld := ⟨0x9011C, 19, 0⟩
def CKS_PX_ERR_EST_e_est : Fld := ⟨0x90120, 19, 0⟩
def CKS_PX_LOST_CNT_lost_cnt : Fld := ⟨0x90124, 19, 0⟩
def CKS_PX_RELOCK_CNT_fail_cnt : Fld := ⟨0x90128, 19, 10⟩
def CKS_PX_RELOCK_CNT_relock_cnt : Fld := ⟨0x90128, 9, 0⟩
def CKS_PX_CMD_clear_counters : Fld := ⟨0x9012C, 1, 1⟩
def CKS_PX_CMD_apply : Fld := ⟨0x9012C, 0, 0⟩
def CKS_FACET_TRIM_trim (f : Nat) : Fld := ⟨0x90140 + 0x4 * f, 19, 0⟩
def CKS_FACET_AUTO_auto (f : Nat) : Fld := ⟨0x90180 + 0x4 * f, 19, 0⟩
def CKS_LIN_p (k : Nat) : Fld := ⟨0x90400 + 0x4 * k, 19, 0⟩
def LSR_CFG_bd_beam : Fld := ⟨0xC0000, 11, 6⟩
def LSR_CFG_lane_rate : Fld := ⟨0xC0000, 1, 0⟩
def LSR_STATUS_page_s : Fld := ⟨0xC0004, 13, 13⟩
def LSR_STATUS_train_tmo_s : Fld := ⟨0xC0004, 12, 12⟩
def LSR_STATUS_drv_s : Fld := ⟨0xC0004, 11, 11⟩
def LSR_STATUS_stray_s : Fld := ⟨0xC0004, 10, 10⟩
def LSR_STATUS_wd_s : Fld := ⟨0xC0004, 9, 9⟩
def LSR_STATUS_apc_lim_s : Fld := ⟨0xC0004, 8, 8⟩
def LSR_STATUS_forbid_s : Fld := ⟨0xC0004, 7, 7⟩
def LSR_STATUS_write_reject : Fld := ⟨0xC0004, 6, 6⟩
def LSR_STATUS_reentry : Fld := ⟨0xC0004, 5, 5⟩
def LSR_STATUS_forbid : Fld := ⟨0xC0004, 4, 4⟩
def LSR_STATUS_write_ok : Fld := ⟨0xC0004, 3, 3⟩
def LSR_STATUS_scan_ok : Fld := ⟨0xC0004, 2, 2⟩
def LSR_STATUS_lso : Fld := ⟨0xC0004, 1, 1⟩
def LSR_STATUS_link_up : Fld := ⟨0xC0004, 0, 0⟩
def LSR_CMD_clear_counters : Fld := ⟨0xC0008, 3, 3⟩
def LSR_CMD_test_stop : Fld := ⟨0xC0008, 2, 2⟩
def LSR_CMD_test : Fld := ⟨0xC0008, 1, 1⟩
def LSR_CMD_train : Fld := ⟨0xC0008, 0, 0⟩
def LSR_TEST_pattern : Fld := ⟨0xC000C, 1, 0⟩
def LSR_WD_stray_thr : Fld := ⟨0xC0010, 19, 8⟩
def LSR_WD_max_on : Fld := ⟨0xC0010, 7, 0⟩
def LSR_WRITE_REENTRY_TIME_reentry : Fld := ⟨0xC0014, 19, 0⟩
def LSR_TRAIN_TMO_train_tmo : Fld := ⟨0xC0018, 19, 0⟩
def LSR_APC_CFG_slot1 : Fld := ⟨0xC001C, 19, 15⟩
def LSR_APC_CFG_slot0 : Fld := ⟨0xC001C, 14, 10⟩
def LSR_APC_CFG_per_sweep : Fld := ⟨0xC001C, 9, 6⟩
def LSR_APC_CFG_pulse_us : Fld := ⟨0xC001C, 5, 0⟩
def LSR_APC_LVL_lim_n : Fld := ⟨0xC0020, 19, 16⟩
def LSR_APC_LVL_apc_idle : Fld := ⟨0xC0020, 11, 0⟩
def LSR_APC_DLY_apc_dly : Fld := ⟨0xC0024, 19, 0⟩
def LSR_DRV_MAX_drv_max : Fld := ⟨0xC0028, 11, 0⟩
def LSR_WD_CNT_wd_cnt : Fld := ⟨0xC0040, 19, 0⟩
def LSR_DRV_SAFEOFF_CNT_drv_cnt : Fld := ⟨0xC0044, 19, 0⟩
def LSR_FORBID_SWP_CNT_forbid_cnt : Fld := ⟨0xC0048, 19, 0⟩
def LSR_TRAIN_CNT_fail_cnt : Fld := ⟨0xC004C, 19, 10⟩
def LSR_TRAIN_CNT_ok_cnt : Fld := ⟨0xC004C, 9, 0⟩
def LSR_SWEEP_SEQ_seq : Fld := ⟨0xC0050, 7, 0⟩
def LSR_APC_SET_set (k : Nat) : Fld := ⟨0xC0100 + 0x4 * k, 19, 0⟩
def LSR_APC_MEAS_meas (k : Nat) : Fld := ⟨0xC0200 + 0x4 * k, 19, 0⟩
def LSR_DRV_drv (k : Nat) : Fld := ⟨0xC0300 + 0x4 * k, 11, 0⟩
def LSR_PWR_LVL_level (i : Nat) : Fld := ⟨0xC0400 + 0x4 * i, 11, 0⟩
def RGC_CTRL_abs_ref : Fld := ⟨0xC0000, 7, 7⟩
def RGC_CTRL_stretch_en : Fld := ⟨0xC0000, 6, 6⟩
def RGC_CTRL_hold : Fld := ⟨0xC0000, 5, 5⟩
def RGC_CTRL_en : Fld := ⟨0xC0000, 4, 4⟩
def RGC_CTRL_ref_stn : Fld := ⟨0xC0000, 2, 0⟩
def RGC_LOOP_gain : Fld := ⟨0xC0004, 19, 15⟩
def RGC_LOOP_k : Fld := ⟨0xC0004, 14, 8⟩
def RGC_LOOP_miss_n : Fld := ⟨0xC0004, 7, 4⟩
def RGC_WIN_wtol : Fld := ⟨0xC0008, 11, 8⟩
def RGC_WIN_margin : Fld := ⟨0xC0008, 7, 0⟩
def RGC_STEP_step_scan : Fld := ⟨0xC000C, 19, 10⟩
def RGC_STEP_step_web : Fld := ⟨0xC000C, 9, 0⟩
def RGC_OOT_oot_tol : Fld := ⟨0xC0010, 19, 0⟩
def RGC_STATUS_oot_s : Fld := ⟨0xC0014, 4, 4⟩
def RGC_STATUS_sat_s : Fld := ⟨0xC0014, 3, 3⟩
def RGC_STATUS_loss_s : Fld := ⟨0xC0014, 2, 2⟩
def RGC_STATUS_write_reject : Fld := ⟨0xC0014, 1, 1⟩
def RGC_STATUS_running : Fld := ⟨0xC0014, 0, 0⟩
def RGC_CMD_reset_est : Fld := ⟨0xC0018, 2, 2⟩
def RGC_CMD_pop_raw : Fld := ⟨0xC0018, 1, 1⟩
def RGC_CMD_clear_counters : Fld := ⟨0xC0018, 0, 0⟩
def RGC_SENS_CFG_lat (s : Nat) : Fld := ⟨0xC0020 + 0x4 * s, 15, 8⟩
def RGC_SENS_CFG_glitch_ns (s : Nat) : Fld := ⟨0xC0020 + 0x4 * s, 7, 4⟩
def RGC_SENS_CFG_polarity (s : Nat) : Fld := ⟨0xC0020 + 0x4 * s, 1, 1⟩
def RGC_SENS_CFG_en (s : Nat) : Fld := ⟨0xC0020 + 0x4 * s, 0, 0⟩
def RGC_MARK_W_word (n : Nat) (w : Nat) : Fld := ⟨0xC0100 + 0x10 * (n - 1) + 0x4 * w, 19, 0⟩
def RGC_STR_CFG_str_slot : Fld := ⟨0xC0180, 19, 14⟩
def RGC_STR_CFG_str_period : Fld := ⟨0xC0180, 13, 8⟩
def RGC_STR_CFG_str_tau : Fld := ⟨0xC0180, 7, 0⟩
def RGC_STR_REF_t_ref : Fld := ⟨0xC0184, 19, 0⟩
def RGC_STR_GAIN_str_gain (n : Nat) : Fld := ⟨0xC0190 + 0x4 * (n - 1), 19, 0⟩
def RGC_CORR_WEB_corr_w (n : Nat) : Fld := ⟨0xC0200 + 0x20 * (n - 1), 19, 0⟩
def RGC_CORR_SCAN_corr_x (n : Nat) : Fld := ⟨0xC0204 + 0x20 * (n - 1), 19, 0⟩
def RGC_ERR_WEB_err_w (n : Nat) : Fld := ⟨0xC0208 + 0x20 * (n - 1), 19, 0⟩
def RGC_ERR_SCAN_err_x (n : Nat) : Fld := ⟨0xC020C + 0x20 * (n - 1), 19, 0⟩
def RGC_SET_CNT_sets (n : Nat) : Fld := ⟨0xC0210 + 0x20 * (n - 1), 19, 0⟩
def RGC_INV_CNT_invalid (n : Nat) : Fld := ⟨0xC0214 + 0x20 * (n - 1), 19, 0⟩
def RGC_STATE_loss (n : Nat) : Fld := ⟨0xC0218 + 0x20 * (n - 1), 8, 8⟩
def RGC_STATE_owned (n : Nat) : Fld := ⟨0xC0218 + 0x20 * (n - 1), 7, 7⟩
def RGC_STATE_fill (n : Nat) : Fld := ⟨0xC0218 + 0x20 * (n - 1), 6, 0⟩
def RGC_RAW_W0_serial : Fld := ⟨0xC0300, 19, 0⟩
def RGC_RAW_W1_stn : Fld := ⟨0xC0304, 19, 17⟩
def RGC_RAW_W1_sensor : Fld := ⟨0xC0304, 16, 14⟩
def RGC_RAW_W1_code : Fld := ⟨0xC0304, 13, 11⟩
def RGC_RAW_W2_e_w : Fld := ⟨0xC0308, 19, 0⟩
def RGC_RAW_W3_e_x : Fld := ⟨0xC030C, 19, 0⟩
def RGC_RAW_W4_width_dev : Fld := ⟨0xC0310, 19, 0⟩
def RGC_RAW_LEVEL_level : Fld := ⟨0xC0314, 8, 0⟩
def RGC_RAW_LOST_lost : Fld := ⟨0xC0318, 19, 0⟩
def RGC_DIAG_DROP_diag_drop : Fld := ⟨0xC031C, 19, 0⟩

end F

namespace P

def WTB_SCALE_A : Nat := 0xA000C
def WTB_SCALE_B : Nat := 0xA0014
def WTB_POS : Nat := 0xA0028
def WTB_PRESET : Nat := 0xA0034
def WTB_CAPT : Nat := 0xA0040
def CUE_REP_POS : Nat := 0x0F004
def CUE_SAMPLE_POS : Nat := 0x00034
def FRM_ADMIT_START : Nat := 0xB003C
def FRM_HUB_OFS : Nat := 0xB0054
def FRM_CLOSE_OFS : Nat := 0xB005C
def FRM_STN_OFS (n : Nat) : Nat := 0xB0080 + 0x8 * (n - 1)
def FRM_FIN0_OFS : Nat := 0xB00C0
def FRM_FIN1_OFS : Nat := 0xB00C8
def RIN_UE_ADDR : Nat := 0x10210
def XFR_HALT : Nat := 0x20010
def XFR_DONE : Nat := 0x20018
def LPL_BEAM_PITCH : Nat := 0xB0004
def CKS_PX_LIN_SUM : Nat := 0x90130
def RGC_SENS_POS (s : Nat) : Nat := 0xC0040 + 0x8 * s

end P

end Sys2Proof.Machine
end

