-- ==== Sys2Proof/Machine/RegNamesB.lean ====
section
/-! DEFINITION. The fields of the registers of RegTabB by their names in the manual (F) and the LO offsets of its LO/HI pairs (P). Array registers take their index as the manual numbers it. -/

namespace Sys2Proof.Machine

namespace F

def LPE_STATUS_write_reject : Fld := ⟨0x30000, 0, 0⟩
def LPE_LOAD_load_max : Fld := ⟨0x30004, 3, 0⟩
def LPE_FAULT_fault (w : Nat) : Fld := ⟨0x30008 + 0x4 * w, 19, 0⟩
def LPE_CMD_clear_counters : Fld := ⟨0x30014, 0, 0⟩
def LPE_SLOT_CFG_trig (s : Nat) : Fld := ⟨0x30100 + 0x80 * s, 19, 18⟩
def LPE_SLOT_CFG_prio (s : Nat) : Fld := ⟨0x30100 + 0x80 * s, 17, 16⟩
def LPE_SLOT_CFG_ctx (s : Nat) : Fld := ⟨0x30100 + 0x80 * s, 15, 15⟩
def LPE_SLOT_CFG_tgt_bank (s : Nat) : Fld := ⟨0x30100 + 0x80 * s, 14, 14⟩
def LPE_SLOT_CFG_asym (s : Nat) : Fld := ⟨0x30100 + 0x80 * s, 13, 13⟩
def LPE_SLOT_CFG_gate (s : Nat) : Fld := ⟨0x30100 + 0x80 * s, 12, 11⟩
def LPE_SLOT_CFG_fclass (s : Nat) : Fld := ⟨0x30100 + 0x80 * s, 10, 9⟩
def LPE_SLOT_CFG_casc (s : Nat) : Fld := ⟨0x30100 + 0x80 * s, 8, 8⟩
def LPE_SLOT_CFG_sp_slot (s : Nat) : Fld := ⟨0x30100 + 0x80 * s, 5, 0⟩
def LPE_SLOT_SRC_fb_src (s : Nat) : Fld := ⟨0x30104 + 0x80 * s, 19, 14⟩
def LPE_SLOT_SRC_out_dst (s : Nat) : Fld := ⟨0x30104 + 0x80 * s, 13, 8⟩
def LPE_SLOT_SRC_ff_src (s : Nat) : Fld := ⟨0x30104 + 0x80 * s, 7, 5⟩
def LPE_SLOT_PERIOD_period (s : Nat) : Fld := ⟨0x30108 + 0x80 * s, 19, 0⟩
def LPE_SLOT_TGT_tgt (s : Nat) : Fld := ⟨0x3010C + 0x80 * s, 19, 0⟩
def LPE_SLOT_SLOPE_slope (s : Nat) : Fld := ⟨0x30110 + 0x80 * s, 19, 0⟩
def LPE_SLOT_KP_kp (s : Nat) : Fld := ⟨0x30114 + 0x80 * s, 19, 0⟩
def LPE_SLOT_KI_ki (s : Nat) : Fld := ⟨0x30118 + 0x80 * s, 19, 0⟩
def LPE_SLOT_KFF_kff (s : Nat) : Fld := ⟨0x3011C + 0x80 * s, 19, 0⟩
def LPE_SLOT_LIM_HI_lim_hi (s : Nat) : Fld := ⟨0x30120 + 0x80 * s, 19, 0⟩
def LPE_SLOT_LIM_LO_lim_lo (s : Nat) : Fld := ⟨0x30124 + 0x80 * s, 19, 0⟩
def LPE_SLOT_HW_HI_hw_hi (s : Nat) : Fld := ⟨0x30128 + 0x80 * s, 19, 0⟩
def LPE_SLOT_HW_LO_hw_lo (s : Nat) : Fld := ⟨0x3012C + 0x80 * s, 19, 0⟩
def LPE_SLOT_SAFE_safe (s : Nat) : Fld := ⟨0x30130 + 0x80 * s, 19, 0⟩
def LPE_SLOT_KM_km (s : Nat) : Fld := ⟨0x30134 + 0x80 * s, 19, 0⟩
def LPE_SLOT_ALPHA_alpha (s : Nat) : Fld := ⟨0x30138 + 0x80 * s, 19, 0⟩
def LPE_SLOT_PLAUS_plaus_n (s : Nat) : Fld := ⟨0x3013C + 0x80 * s, 19, 12⟩
def LPE_SLOT_PLAUS_plaus_hold (s : Nat) : Fld := ⟨0x3013C + 0x80 * s, 11, 0⟩
def LPE_SLOT_RES_WIN_res_win (s : Nat) : Fld := ⟨0x30140 + 0x80 * s, 19, 0⟩
def LPE_SLOT_CMD_clear (s : Nat) : Fld := ⟨0x30144 + 0x80 * s, 2, 2⟩
def LPE_SLOT_CMD_stop (s : Nat) : Fld := ⟨0x30144 + 0x80 * s, 1, 1⟩
def LPE_SLOT_CMD_start (s : Nat) : Fld := ⟨0x30144 + 0x80 * s, 0, 0⟩
def LPE_SLOT_STATUS_flt_s (s : Nat) : Fld := ⟨0x30148 + 0x80 * s, 8, 8⟩
def LPE_SLOT_STATUS_ovr_s (s : Nat) : Fld := ⟨0x30148 + 0x80 * s, 7, 7⟩
def LPE_SLOT_STATUS_write_reject (s : Nat) : Fld := ⟨0x30148 + 0x80 * s, 6, 6⟩
def LPE_SLOT_STATUS_fb_invalid (s : Nat) : Fld := ⟨0x30148 + 0x80 * s, 5, 5⟩
def LPE_SLOT_STATUS_src_hold (s : Nat) : Fld := ⟨0x30148 + 0x80 * s, 4, 4⟩
def LPE_SLOT_STATUS_sat (s : Nat) : Fld := ⟨0x30148 + 0x80 * s, 3, 3⟩
def LPE_SLOT_STATUS_state (s : Nat) : Fld := ⟨0x30148 + 0x80 * s, 2, 0⟩
def LPE_SLOT_SETPT_r (s : Nat) : Fld := ⟨0x30150 + 0x80 * s, 19, 0⟩
def LPE_SLOT_FB_y (s : Nat) : Fld := ⟨0x30154 + 0x80 * s, 19, 0⟩
def LPE_SLOT_OUT_out (s : Nat) : Fld := ⟨0x30158 + 0x80 * s, 19, 0⟩
def LPE_SLOT_ERR_e (s : Nat) : Fld := ⟨0x3015C + 0x80 * s, 19, 0⟩
def LPE_SLOT_RESID_res (s : Nat) : Fld := ⟨0x30160 + 0x80 * s, 19, 0⟩
def LPE_SLOT_OVR_CNT_ovr_cnt (s : Nat) : Fld := ⟨0x30164 + 0x80 * s, 19, 0⟩
def LPE_SLOT_SAT_CNT_sat_cnt (s : Nat) : Fld := ⟨0x30168 + 0x80 * s, 19, 0⟩
def LPE_SLOT_FLT_CNT_flt_cnt (s : Nat) : Fld := ⟨0x3016C + 0x80 * s, 19, 0⟩
def LPE_SLOT_SMP_CNT_smp_cnt (s : Nat) : Fld := ⟨0x30170 + 0x80 * s, 19, 0⟩
def LPE_GAIN_g (s : Nat) (i : Nat) : Fld := ⟨0x32000 + 0x100 * s + 0x4 * i, 19, 0⟩
def HVC_CTRL_chg_gate : Fld := ⟨0x40000, 3, 0⟩
def HVC_STATUS_dis_ch : Fld := ⟨0x40004, 7, 5⟩
def HVC_STATUS_dis_s : Fld := ⟨0x40004, 4, 4⟩
def HVC_STATUS_write_reject : Fld := ⟨0x40004, 3, 3⟩
def HVC_STATUS_chg_forbid : Fld := ⟨0x40004, 2, 2⟩
def HVC_STATUS_charge_ok : Fld := ⟨0x40004, 1, 1⟩
def HVC_STATUS_safeoff : Fld := ⟨0x40004, 0, 0⟩
def HVC_CH_CFG_fs (c : Nat) : Fld := ⟨0x40010 + 0x4 * c, 13, 2⟩
def HVC_CH_CFG_pol (c : Nat) : Fld := ⟨0x40010 + 0x4 * c, 1, 0⟩
def HVC_CH_CODE_code (c : Nat) : Fld := ⟨0x40040 + 0x4 * c, 11, 0⟩
def HVC_CH_FB_fb (c : Nat) : Fld := ⟨0x40060 + 0x4 * c, 19, 0⟩
def HVC_DIS_dis_thr : Fld := ⟨0x40080, 19, 12⟩
def HVC_DIS_dis_ms : Fld := ⟨0x40080, 11, 0⟩
def HVC_CHG_ARC_chg_arc : Fld := ⟨0x40084, 19, 0⟩
def FSR_CTRL_auto_stby : Fld := ⟨0xF4000, 0, 0⟩
def FSR_STATUS_write_reject : Fld := ⟨0xF4004, 7, 7⟩
def FSR_STATUS_ovt_s : Fld := ⟨0xF4004, 6, 6⟩
def FSR_STATUS_sens_s : Fld := ⟨0xF4004, 5, 5⟩
def FSR_STATUS_band_s : Fld := ⟨0xF4004, 4, 4⟩
def FSR_STATUS_mains_ok : Fld := ⟨0xF4004, 3, 3⟩
def FSR_STATUS_state : Fld := ⟨0xF4004, 2, 0⟩
def FSR_CMD_clear_counters : Fld := ⟨0xF4008, 4, 4⟩
def FSR_CMD_clear : Fld := ⟨0xF4008, 3, 3⟩
def FSR_CMD_off : Fld := ⟨0xF4008, 2, 2⟩
def FSR_CMD_standby : Fld := ⟨0xF4008, 1, 1⟩
def FSR_CMD_warmup : Fld := ⟨0xF4008, 0, 0⟩
def FSR_HTR_CFG_slot (h : Nat) : Fld := ⟨0xF4010 + 0x4 * h, 17, 12⟩
def FSR_HTR_CFG_temp_in (h : Nat) : Fld := ⟨0xF4010 + 0x4 * h, 11, 9⟩
def FSR_HTR_CFG_zone (h : Nat) : Fld := ⟨0xF4010 + 0x4 * h, 8, 8⟩
def FSR_HTR_CFG_mode (h : Nat) : Fld := ⟨0xF4010 + 0x4 * h, 1, 0⟩
def FSR_BAND_band_hi (h : Nat) : Fld := ⟨0xF4020 + 0x4 * h, 19, 10⟩
def FSR_BAND_band_lo (h : Nat) : Fld := ⟨0xF4020 + 0x4 * h, 9, 0⟩
def FSR_STBY_TGT_stby (h : Nat) : Fld := ⟨0xF4030 + 0x4 * h, 19, 0⟩
def FSR_TEMP_temp (j : Nat) : Fld := ⟨0xF4040 + 0x4 * j, 19, 0⟩
def FSR_TMAX_t_max : Fld := ⟨0xF4060, 11, 0⟩
def FSR_GUARD_end_guard : Fld := ⟨0xF4064, 7, 0⟩
def FSR_READY_ready_ms : Fld := ⟨0xF4068, 19, 0⟩
def FSR_IDLE_idle_s : Fld := ⟨0xF406C, 19, 0⟩
def FSR_MAINS_VRMS_vrms : Fld := ⟨0xF4070, 19, 0⟩
def FSR_CUE_IGN_CNT_ign : Fld := ⟨0xF4074, 19, 0⟩
def FSR_PA_x (k : Nat) : Fld := ⟨0xF4100 + 0x4 * k, 19, 0⟩
def MDR_STATUS_trip_s : Fld := ⟨0x50000, 7, 7⟩
def MDR_STATUS_uv_s : Fld := ⟨0x50000, 6, 6⟩
def MDR_STATUS_chop_flt_s : Fld := ⟨0x50000, 5, 5⟩
def MDR_STATUS_write_reject : Fld := ⟨0x50000, 4, 4⟩
def MDR_STATUS_chop_short : Fld := ⟨0x50000, 3, 3⟩
def MDR_STATUS_clamp : Fld := ⟨0x50000, 2, 2⟩
def MDR_STATUS_chop_on : Fld := ⟨0x50000, 1, 1⟩
def MDR_STATUS_bus_ok : Fld := ⟨0x50000, 0, 0⟩
def MDR_BUS_V_v : Fld := ⟨0x50004, 19, 0⟩
def MDR_BUS_NOM_nom : Fld := ⟨0x50008, 19, 0⟩
def MDR_BUS_UV_uv : Fld := ⟨0x5000C, 19, 0⟩
def MDR_BUS_TRIP_trip : Fld := ⟨0x50010, 19, 0⟩
def MDR_CHOP_ON_chop_on : Fld := ⟨0x50014, 19, 0⟩
def MDR_CHOP_OFF_chop_off : Fld := ⟨0x50018, 19, 0⟩
def MDR_CHOP_DET_slope_thr : Fld := ⟨0x5001C, 19, 10⟩
def MDR_CHOP_DET_chop_det : Fld := ⟨0x5001C, 9, 0⟩
def MDR_CHOP_IMIN_chop_imin : Fld := ⟨0x50020, 19, 0⟩
def MDR_P_DISS_p_diss : Fld := ⟨0x50024, 19, 0⟩
def MDR_BUS_P_p : Fld := ⟨0x50028, 19, 0⟩
def MDR_CMD_clear_counters : Fld := ⟨0x5002C, 1, 1⟩
def MDR_CMD_clear : Fld := ⟨0x5002C, 0, 0⟩
def MDR_CLAMP_CNT_clamp_cnt : Fld := ⟨0x50030, 19, 0⟩
def MDR_CH_CFG_role (k : Nat) : Fld := ⟨mdrChBase k, 19, 17⟩
def MDR_CH_CFG_fb_kind (k : Nat) : Fld := ⟨mdrChBase k, 16, 15⟩
def MDR_CH_CFG_ref_mode (k : Nat) : Fld := ⟨mdrChBase k, 14, 13⟩
def MDR_CH_CFG_pole_pairs (k : Nat) : Fld := ⟨mdrChBase k, 12, 9⟩
def MDR_CH_CFG_catch_en (k : Nat) : Fld := ⟨mdrChBase k, 8, 8⟩
def MDR_CH_CFG_z_en (k : Nat) : Fld := ⟨mdrChBase k, 7, 7⟩
def MDR_CH_CFG_inv (k : Nat) : Fld := ⟨mdrChBase k, 6, 6⟩
def MDR_CH_PWM_f_pwm (k : Nat) : Fld := ⟨mdrChBase k + 0x4, 17, 11⟩
def MDR_CH_PWM_dt (k : Nat) : Fld := ⟨mdrChBase k + 0x4, 10, 0⟩
def MDR_CH_SMP_t_settle (k : Nat) : Fld := ⟨mdrChBase k + 0x8, 19, 10⟩
def MDR_CH_SMP_t_smp (k : Nat) : Fld := ⟨mdrChBase k + 0x8, 9, 0⟩
def MDR_CH_ENC_interp_log2 (k : Nat) : Fld := ⟨mdrChBase k + 0xC, 19, 16⟩
def MDR_CH_ENC_glitch_ns (k : Nat) : Fld := ⟨mdrChBase k + 0xC, 15, 12⟩
def MDR_CH_CPR_cpr (k : Nat) : Fld := ⟨mdrChBase k + 0x10, 19, 0⟩
def MDR_CH_IFS_i_fs (k : Nat) : Fld := ⟨mdrChBase k + 0x14, 19, 0⟩
def MDR_CH_ILIM_i_lim (k : Nat) : Fld := ⟨mdrChBase k + 0x18, 19, 0⟩
def MDR_CH_OC_oc_thr (k : Nat) : Fld := ⟨mdrChBase k + 0x1C, 19, 0⟩
def MDR_CH_KP_I_kp_i (k : Nat) : Fld := ⟨mdrChBase k + 0x20, 19, 0⟩
def MDR_CH_KI_I_ki_i (k : Nat) : Fld := ⟨mdrChBase k + 0x24, 19, 0⟩
def MDR_CH_KP_S_kp_s (k : Nat) : Fld := ⟨mdrChBase k + 0x28, 19, 0⟩
def MDR_CH_KI_S_ki_s (k : Nat) : Fld := ⟨mdrChBase k + 0x2C, 19, 0⟩
def MDR_CH_SPD_DIV_spd_div (k : Nat) : Fld := ⟨mdrChBase k + 0x30, 3, 0⟩
def MDR_CH_SPD_MAX_spd_max (k : Nat) : Fld := ⟨mdrChBase k + 0x34, 19, 0⟩
def MDR_CH_ACC_MAX_acc_max (k : Nat) : Fld := ⟨mdrChBase k + 0x38, 19, 0⟩
def MDR_CH_DEC_MAX_dec_max (k : Nat) : Fld := ⟨mdrChBase k + 0x3C, 19, 0⟩
def MDR_CH_ACC_FS_acc_fs (k : Nat) : Fld := ⟨mdrChBase k + 0x40, 19, 0⟩
def MDR_CH_FW_fw_thr (k : Nat) : Fld := ⟨mdrChBase k + 0x44, 19, 10⟩
def MDR_CH_FW_fw_ki (k : Nat) : Fld := ⟨mdrChBase k + 0x44, 9, 0⟩
def MDR_CH_FW_MAX_fw_max (k : Nat) : Fld := ⟨mdrChBase k + 0x48, 19, 0⟩
def MDR_CH_REV_MAX_rev_max (k : Nat) : Fld := ⟨mdrChBase k + 0x4C, 19, 0⟩
def MDR_CH_CATCH_catch_ms (k : Nat) : Fld := ⟨mdrChBase k + 0x50, 19, 12⟩
def MDR_CH_CATCH_bemf_min (k : Nat) : Fld := ⟨mdrChBase k + 0x50, 11, 0⟩
def MDR_CH_FOL_fol_ms (k : Nat) : Fld := ⟨mdrChBase k + 0x54, 19, 12⟩
def MDR_CH_FOL_fol_tol (k : Nat) : Fld := ⟨mdrChBase k + 0x54, 11, 0⟩
def MDR_CH_FOL_ANG_fol_ang (k : Nat) : Fld := ⟨mdrChBase k + 0x58, 19, 0⟩
def MDR_CH_STOP_DEC_stop_dec (k : Nat) : Fld := ⟨mdrChBase k + 0x5C, 19, 0⟩
def MDR_CH_HOLD_hold_ms (k : Nat) : Fld := ⟨mdrChBase k + 0x60, 19, 0⟩
def MDR_CH_CIRC_circ (k : Nat) : Fld := ⟨mdrChBase k + 0x64, 19, 0⟩
def MDR_CH_POS_KP_pos_kp (k : Nat) : Fld := ⟨mdrChBase k + 0x68, 19, 0⟩
def MDR_CH_REF_LEAD_ref_lead (k : Nat) : Fld := ⟨mdrChBase k + 0x6C, 19, 0⟩
def MDR_CH_REF_ref (k : Nat) : Fld := ⟨mdrChBase k + 0x80, 19, 0⟩
def MDR_CH_CMD_clear_counters (k : Nat) : Fld := ⟨mdrChBase k + 0x84, 3, 3⟩
def MDR_CH_CMD_clear (k : Nat) : Fld := ⟨mdrChBase k + 0x84, 2, 2⟩
def MDR_CH_CMD_stop (k : Nat) : Fld := ⟨mdrChBase k + 0x84, 1, 1⟩
def MDR_CH_CMD_start (k : Nat) : Fld := ⟨mdrChBase k + 0x84, 0, 0⟩
def MDR_CH_STATUS_catch_result (k : Nat) : Fld := ⟨mdrChBase k + 0x88, 11, 10⟩
def MDR_CH_STATUS_rev_hold (k : Nat) : Fld := ⟨mdrChBase k + 0x88, 9, 9⟩
def MDR_CH_STATUS_fw (k : Nat) : Fld := ⟨mdrChBase k + 0x88, 8, 8⟩
def MDR_CH_STATUS_sat (k : Nat) : Fld := ⟨mdrChBase k + 0x88, 7, 7⟩
def MDR_CH_STATUS_clamp (k : Nat) : Fld := ⟨mdrChBase k + 0x88, 6, 6⟩
def MDR_CH_STATUS_running (k : Nat) : Fld := ⟨mdrChBase k + 0x88, 5, 5⟩
def MDR_CH_STATUS_state (k : Nat) : Fld := ⟨mdrChBase k + 0x88, 2, 0⟩
def MDR_CH_EVENT_uv_s (k : Nat) : Fld := ⟨mdrChBase k + 0x8C, 6, 6⟩
def MDR_CH_EVENT_catch_fail_s (k : Nat) : Fld := ⟨mdrChBase k + 0x8C, 5, 5⟩
def MDR_CH_EVENT_fol_s (k : Nat) : Fld := ⟨mdrChBase k + 0x8C, 4, 4⟩
def MDR_CH_EVENT_fb_s (k : Nat) : Fld := ⟨mdrChBase k + 0x8C, 3, 3⟩
def MDR_CH_EVENT_gate_s (k : Nat) : Fld := ⟨mdrChBase k + 0x8C, 2, 2⟩
def MDR_CH_EVENT_oc_s (k : Nat) : Fld := ⟨mdrChBase k + 0x8C, 1, 1⟩
def MDR_CH_EVENT_write_reject (k : Nat) : Fld := ⟨mdrChBase k + 0x8C, 0, 0⟩
def MDR_CH_SPEED_speed (k : Nat) : Fld := ⟨mdrChBase k + 0x90, 19, 0⟩
def MDR_CH_REF_LIM_ref_lim (k : Nat) : Fld := ⟨mdrChBase k + 0x94, 19, 0⟩
def MDR_CH_ID_i_d (k : Nat) : Fld := ⟨mdrChBase k + 0x98, 19, 0⟩
def MDR_CH_IQ_i_q (k : Nat) : Fld := ⟨mdrChBase k + 0x9C, 19, 0⟩
def MDR_CH_VD_v_d (k : Nat) : Fld := ⟨mdrChBase k + 0xA0, 19, 0⟩
def MDR_CH_VQ_v_q (k : Nat) : Fld := ⟨mdrChBase k + 0xA4, 19, 0⟩
def MDR_CH_EANGLE_angle (k : Nat) : Fld := ⟨mdrChBase k + 0xA8, 19, 0⟩
def MDR_CH_MVW_CNT_mvw (k : Nat) : Fld := ⟨mdrChBase k + 0xAC, 19, 0⟩
def MDR_CH_REV_CNT_rev (k : Nat) : Fld := ⟨mdrChBase k + 0xB0, 19, 0⟩
def MDR_CH_FLT_CNT_flt (k : Nat) : Fld := ⟨mdrChBase k + 0xB4, 19, 0⟩
def AXS_CTRL_bus_en : Fld := ⟨0xD0000, 1, 1⟩
def AXS_CTRL_web_en : Fld := ⟨0xD0000, 0, 0⟩
def AXS_STATUS_write_reject : Fld := ⟨0xD0004, 5, 5⟩
def AXS_STATUS_clamp_track : Fld := ⟨0xD0004, 4, 4⟩
def AXS_STATUS_enforced : Fld := ⟨0xD0004, 3, 3⟩
def AXS_STATUS_web_state : Fld := ⟨0xD0004, 2, 0⟩
def AXS_WEB_TGT_web_tgt : Fld := ⟨0xD0008, 19, 0⟩
def AXS_WEB_VMAX_web_vmax : Fld := ⟨0xD000C, 19, 0⟩
def AXS_WEB_ACC_web_acc : Fld := ⟨0xD0010, 19, 0⟩
def AXS_WEB_DEC_web_dec : Fld := ⟨0xD0014, 19, 0⟩
def AXS_WEB_STOP_DEC_web_stop_dec : Fld := ⟨0xD0018, 19, 0⟩
def AXS_WEB_JERK_web_jerk : Fld := ⟨0xD001C, 19, 0⟩
def AXS_WEB_RATIO_web_ratio : Fld := ⟨0xD0020, 19, 0⟩
def AXS_WEB_LEAD_web_lead : Fld := ⟨0xD0024, 19, 0⟩
def AXS_WEB_PROF_v_prof : Fld := ⟨0xD0028, 19, 0⟩
def AXS_BUS_BAD_CNT_bad : Fld := ⟨0xD002C, 19, 0⟩
def AXS_CMD_clear_counters : Fld := ⟨0xD0030, 0, 0⟩
def AXS_AX_CFG_boost_en (x : Nat) : Fld := ⟨0xD0100 + 0x40 * x, 7, 7⟩
def AXS_AX_CFG_print_axis (x : Nat) : Fld := ⟨0xD0100 + 0x40 * x, 6, 6⟩
def AXS_AX_CFG_fclass (x : Nat) : Fld := ⟨0xD0100 + 0x40 * x, 5, 4⟩
def AXS_AX_CFG_enc_en (x : Nat) : Fld := ⟨0xD0100 + 0x40 * x, 3, 3⟩
def AXS_AX_CFG_inv (x : Nat) : Fld := ⟨0xD0100 + 0x40 * x, 2, 2⟩
def AXS_AX_CFG_mode (x : Nat) : Fld := ⟨0xD0100 + 0x40 * x, 0, 0⟩
def AXS_AX_VMAX_vmax (x : Nat) : Fld := ⟨0xD010C + 0x40 * x, 19, 0⟩
def AXS_AX_ACC_acc (x : Nat) : Fld := ⟨0xD0110 + 0x40 * x, 19, 0⟩
def AXS_AX_DEC_dec (x : Nat) : Fld := ⟨0xD0114 + 0x40 * x, 19, 0⟩
def AXS_AX_JERK_jerk (x : Nat) : Fld := ⟨0xD0118 + 0x40 * x, 19, 0⟩
def AXS_AX_REV_MAX_rev_max (x : Nat) : Fld := ⟨0xD011C + 0x40 * x, 19, 0⟩
def AXS_AX_ENC_enc_scale (x : Nat) : Fld := ⟨0xD0120 + 0x40 * x, 19, 4⟩
def AXS_AX_ENC_enc_hyst (x : Nat) : Fld := ⟨0xD0120 + 0x40 * x, 3, 0⟩
def AXS_AX_DEV_dev_n (x : Nat) : Fld := ⟨0xD0124 + 0x40 * x, 19, 16⟩
def AXS_AX_DEV_dev_win (x : Nat) : Fld := ⟨0xD0124 + 0x40 * x, 15, 0⟩
def AXS_AX_CMD_clear_counters (x : Nat) : Fld := ⟨0xD0128 + 0x40 * x, 4, 4⟩
def AXS_AX_CMD_preset (x : Nat) : Fld := ⟨0xD0128 + 0x40 * x, 3, 3⟩
def AXS_AX_CMD_clear (x : Nat) : Fld := ⟨0xD0128 + 0x40 * x, 2, 2⟩
def AXS_AX_CMD_disable (x : Nat) : Fld := ⟨0xD0128 + 0x40 * x, 1, 1⟩
def AXS_AX_CMD_enable (x : Nat) : Fld := ⟨0xD0128 + 0x40 * x, 0, 0⟩
def AXS_AX_STATUS_stage_flt_s (x : Nat) : Fld := ⟨0xD012C + 0x40 * x, 11, 11⟩
def AXS_AX_STATUS_lost_s (x : Nat) : Fld := ⟨0xD012C + 0x40 * x, 10, 10⟩
def AXS_AX_STATUS_stall_s (x : Nat) : Fld := ⟨0xD012C + 0x40 * x, 9, 9⟩
def AXS_AX_STATUS_ovs_s (x : Nat) : Fld := ⟨0xD012C + 0x40 * x, 8, 8⟩
def AXS_AX_STATUS_write_reject (x : Nat) : Fld := ⟨0xD012C + 0x40 * x, 7, 7⟩
def AXS_AX_STATUS_rev_hold (x : Nat) : Fld := ⟨0xD012C + 0x40 * x, 6, 6⟩
def AXS_AX_STATUS_cur (x : Nat) : Fld := ⟨0xD012C + 0x40 * x, 5, 4⟩
def AXS_AX_STATUS_state (x : Nat) : Fld := ⟨0xD012C + 0x40 * x, 2, 0⟩
def AXS_AX_VEL_vel (x : Nat) : Fld := ⟨0xD0138 + 0x40 * x, 19, 0⟩
def AXS_AX_CNT_back_cnt (x : Nat) : Fld := ⟨0xD013C + 0x40 * x, 19, 14⟩
def AXS_AX_CNT_rev_cnt (x : Nat) : Fld := ⟨0xD013C + 0x40 * x, 13, 7⟩
def AXS_AX_CNT_ovs_cnt (x : Nat) : Fld := ⟨0xD013C + 0x40 * x, 6, 0⟩
def AXS_AX_DEV_MAX_dev_max (x : Nat) : Fld := ⟨0xD0408 + 0x10 * x, 19, 0⟩
def THM_DIE_hottest : Fld := ⟨0x60000, 19, 17⟩
def THM_DIE_max : Fld := ⟨0x60000, 11, 0⟩
def THM_SENS_fail (i : Nat) : Fld := ⟨0x60004 + 0x4 * i, 19, 19⟩
def THM_SENS_temp (i : Nat) : Fld := ⟨0x60004 + 0x4 * i, 11, 0⟩
def THM_STATUS_sens_s : Fld := ⟨0x60040, 6, 6⟩
def THM_STATUS_write_reject : Fld := ⟨0x60040, 5, 5⟩
def THM_STATUS_charge_ok : Fld := ⟨0x60040, 4, 4⟩
def THM_STATUS_write_ok : Fld := ⟨0x60040, 3, 3⟩
def THM_STATUS_trip : Fld := ⟨0x60040, 2, 2⟩
def THM_STATUS_crit : Fld := ⟨0x60040, 1, 1⟩
def THM_STATUS_warn : Fld := ⟨0x60040, 0, 0⟩
def THM_LIN_t (i : Nat) : Fld := ⟨0x60100 + 0x4 * i, 11, 0⟩
def THM_EXT_CFG_role (j : Nat) : Fld := ⟨0x60050 + 0x4 * j, 1, 0⟩
def THM_EXT_TEMP_fail (j : Nat) : Fld := ⟨0x60060 + 0x4 * j, 19, 19⟩
def THM_EXT_TEMP_temp (j : Nat) : Fld := ⟨0x60060 + 0x4 * j, 11, 0⟩
def THM_WIN_WR_wr_hi : Fld := ⟨0x60070, 19, 10⟩
def THM_WIN_WR_wr_lo : Fld := ⟨0x60070, 9, 0⟩
def THM_WIN_CHG_chg_hi : Fld := ⟨0x60074, 19, 10⟩
def THM_WIN_CHG_chg_lo : Fld := ⟨0x60074, 9, 0⟩
def THM_PKG_die : Fld := ⟨0x60200, 19, 17⟩
def THM_PKG_sensor : Fld := ⟨0x60200, 16, 14⟩
def THM_PKG_max : Fld := ⟨0x60200, 11, 0⟩
def THM_WARN_warn : Fld := ⟨0x60204, 11, 0⟩
def THM_CRIT_crit : Fld := ⟨0x60208, 11, 0⟩
def THM_TRIP_trip : Fld := ⟨0x6020C, 11, 0⟩
def THM_HYST_n_conf : Fld := ⟨0x60210, 11, 8⟩
def THM_HYST_hyst : Fld := ⟨0x60210, 7, 0⟩
def THM_SLOW_V_slow_v : Fld := ⟨0x60214, 19, 0⟩
def THM_GRACE_grace : Fld := ⟨0x60218, 19, 0⟩
def THM_RELEASE_release : Fld := ⟨0x6021C, 19, 0⟩
def THM_ENFORCE_DECEL_enforce_decel : Fld := ⟨0x60220, 19, 0⟩
def THM_CRIT_BUDGET_crit_budget : Fld := ⟨0x60224, 19, 0⟩
def THM_PSTATUS_trip_s : Fld := ⟨0x60228, 10, 10⟩
def THM_PSTATUS_crit_s : Fld := ⟨0x60228, 9, 9⟩
def THM_PSTATUS_enf_s : Fld := ⟨0x60228, 8, 8⟩
def THM_PSTATUS_warn_s : Fld := ⟨0x60228, 7, 7⟩
def THM_PSTATUS_phase : Fld := ⟨0x60228, 6, 5⟩
def THM_PSTATUS_grace_run : Fld := ⟨0x60228, 4, 4⟩
def THM_PSTATUS_enforced : Fld := ⟨0x60228, 3, 3⟩
def THM_PSTATUS_slow_request : Fld := ⟨0x60228, 2, 2⟩
def THM_PSTATUS_crit : Fld := ⟨0x60228, 1, 1⟩
def THM_PSTATUS_warn : Fld := ⟨0x60228, 0, 0⟩
def THM_ENF_CNT_enf_cnt : Fld := ⟨0x6022C, 19, 0⟩
def THM_CMD_clear_counters : Fld := ⟨0x60230, 0, 0⟩
def FLT_STATUS_any : Fld := ⟨0x70000, 19, 0⟩
def FLT_STATUS_U_u : Fld := ⟨0x70004, 19, 0⟩
def FLT_STATUS_F_f : Fld := ⟨0x70008, 19, 0⟩
def FLT_F_ACTIVE_f_active : Fld := ⟨0x7000C, 19, 0⟩
def FLT_REACT_promote : Fld := ⟨0x70010, 19, 0⟩
def FLT_IRQ_EN_irq_en : Fld := ⟨0x70014, 19, 0⟩
def FLT_PIN_EN_pin_en : Fld := ⟨0x70018, 19, 0⟩
def FLT_PEND_pend : Fld := ⟨0x7001C, 19, 0⟩
def FLT_SHADOW_shadow : Fld := ⟨0x70020, 19, 0⟩
def FLT_LAST_src : Fld := ⟨0x70024, 19, 14⟩
def FLT_LAST_cls : Fld := ⟨0x70024, 13, 12⟩
def FLT_LAST_pos : Fld := ⟨0x70024, 4, 0⟩
def FLT_STAT2_esc_s : Fld := ⟨0x70028, 1, 1⟩
def FLT_STAT2_write_reject : Fld := ⟨0x70028, 0, 0⟩
def FLT_CMD_clear_counters : Fld := ⟨0x7002C, 1, 1⟩
def FLT_CMD_clear_f : Fld := ⟨0x7002C, 0, 0⟩
def FLT_RPT_CNT_rpt (p : Nat) : Fld := ⟨0x70100 + 0x4 * p, 19, 0⟩
def FLT_LATCH_CNT_latch (p : Nat) : Fld := ⟨0x70180 + 0x4 * p, 19, 0⟩
def FLT_SHADOWED_shadowed (p : Nat) : Fld := ⟨0x70200 + 0x4 * p, 19, 0⟩
def FLT_DIE_SUM_f_die : Fld := ⟨0x70400, 15, 8⟩
def FLT_DIE_SUM_u_die : Fld := ⟨0x70400, 7, 0⟩
def FLT_PKG_pin_mode : Fld := ⟨0x70404, 3, 3⟩
def FLT_PKG_trip : Fld := ⟨0x70404, 2, 2⟩
def FLT_PKG_state : Fld := ⟨0x70404, 1, 0⟩
def FLT_FIRST_F_src : Fld := ⟨0x70408, 19, 14⟩
def FLT_FIRST_F_die : Fld := ⟨0x70408, 13, 11⟩
def FLT_FIRST_F_pos : Fld := ⟨0x70408, 4, 0⟩
def FLT_PIN_HOLD_hold : Fld := ⟨0x7040C, 0, 0⟩
def FLT_PIN_CFG_pulse_w : Fld := ⟨0x70410, 9, 0⟩
def FLT_WIN_react_win : Fld := ⟨0x70414, 13, 0⟩
def FLT_ESC_CNT_esc : Fld := ⟨0x70418, 19, 0⟩
def MEM_STATUS_armed : Fld := ⟨0x80000, 2, 2⟩
def MEM_STATUS_flip_done_s : Fld := ⟨0x80000, 1, 1⟩
def MEM_STATUS_write_reject : Fld := ⟨0x80000, 0, 0⟩
def MEM_FLIP_A_mem : Fld := ⟨0x80004, 10, 8⟩
def MEM_FLIP_A_en : Fld := ⟨0x80004, 7, 7⟩
def MEM_FLIP_A_bit : Fld := ⟨0x80004, 6, 0⟩
def MEM_FLIP_B_en : Fld := ⟨0x80008, 7, 7⟩
def MEM_FLIP_B_bit : Fld := ⟨0x80008, 6, 0⟩
def MEM_CMD_clear_counters : Fld := ⟨0x8000C, 2, 2⟩
def MEM_CMD_disarm : Fld := ⟨0x8000C, 1, 1⟩
def MEM_CMD_arm : Fld := ⟨0x8000C, 0, 0⟩
def MEM_M_SCRUB_scrub_period (m : Nat) : Fld := ⟨0x80100 + 0x20 * m, 19, 0⟩
def MEM_M_STATUS_poison (m : Nat) : Fld := ⟨0x80104 + 0x20 * m, 12, 12⟩
def MEM_M_STATUS_scrub_late_s (m : Nat) : Fld := ⟨0x80104 + 0x20 * m, 11, 11⟩
def MEM_M_STATUS_scrub_ue_s (m : Nat) : Fld := ⟨0x80104 + 0x20 * m, 10, 10⟩
def MEM_M_STATUS_merge_ue_s (m : Nat) : Fld := ⟨0x80104 + 0x20 * m, 9, 9⟩
def MEM_M_STATUS_ue_s (m : Nat) : Fld := ⟨0x80104 + 0x20 * m, 8, 8⟩
def MEM_M_STATUS_syndrome (m : Nat) : Fld := ⟨0x80104 + 0x20 * m, 7, 0⟩
def MEM_M_CE_CNT_ce_cnt (m : Nat) : Fld := ⟨0x80108 + 0x20 * m, 19, 0⟩
def MEM_M_UE_CNT_ue_cnt (m : Nat) : Fld := ⟨0x8010C + 0x20 * m, 19, 0⟩
def MEM_M_PASS_CNT_passes (m : Nat) : Fld := ⟨0x80118 + 0x20 * m, 19, 0⟩
def EVR_CTRL_arc_en : Fld := ⟨0xF5000, 0, 0⟩
def EVR_STATUS_write_reject : Fld := ⟨0xF5004, 10, 10⟩
def EVR_STATUS_frz_s : Fld := ⟨0xF5004, 9, 9⟩
def EVR_STATUS_lost_s : Fld := ⟨0xF5004, 8, 8⟩
def EVR_STATUS_frozen : Fld := ⟨0xF5004, 7, 7⟩
def EVR_STATUS_q_level : Fld := ⟨0xF5004, 6, 0⟩
def EVR_HEAD_wrapped : Fld := ⟨0xF5008, 12, 12⟩
def EVR_HEAD_next : Fld := ⟨0xF5008, 11, 0⟩
def EVR_CURSOR_word : Fld := ⟨0xF500C, 14, 12⟩
def EVR_CURSOR_rec : Fld := ⟨0xF500C, 11, 0⟩
def EVR_WIN_data : Fld := ⟨0xF5010, 19, 0⟩
def EVR_LOST_lost : Fld := ⟨0xF5014, 19, 0⟩
def EVR_FRZ_CNT_frz : Fld := ⟨0xF5018, 19, 0⟩
def EVR_CMD_clear_counters : Fld := ⟨0xF501C, 2, 2⟩
def EVR_CMD_unfreeze : Fld := ⟨0xF501C, 1, 1⟩
def EVR_CMD_freeze : Fld := ⟨0xF501C, 0, 0⟩
def LOV_STATUS_rec_unlocked : Fld := ⟨0xF6000, 8, 8⟩
def LOV_STATUS_wfail_s : Fld := ⟨0xF6000, 7, 7⟩
def LOV_STATUS_torn_s : Fld := ⟨0xF6000, 6, 6⟩
def LOV_STATUS_write_reject : Fld := ⟨0xF6000, 5, 5⟩
def LOV_STATUS_compact : Fld := ⟨0xF6000, 4, 3⟩
def LOV_STATUS_jrn_lost : Fld := ⟨0xF6000, 2, 2⟩
def LOV_STATUS_busy : Fld := ⟨0xF6000, 1, 1⟩
def LOV_STATUS_ready : Fld := ⟨0xF6000, 0, 0⟩
def LOV_JCMD_type : Fld := ⟨0xF600C, 19, 12⟩
def LOV_JCMD_op : Fld := ⟨0xF600C, 11, 10⟩
def LOV_JCMD_len : Fld := ⟨0xF600C, 7, 0⟩
def LOV_JRESULT_len : Fld := ⟨0xF6010, 15, 8⟩
def LOV_JRESULT_result : Fld := ⟨0xF6010, 2, 0⟩
def LOV_STAGE_IDX_idx : Fld := ⟨0xF6014, 7, 0⟩
def LOV_STAGE_DATA_data : Fld := ⟨0xF6018, 19, 0⟩
def LOV_RD_ADDR_part : Fld := ⟨0xF601C, 19, 17⟩
def LOV_RD_ADDR_cw : Fld := ⟨0xF601C, 16, 0⟩
def LOV_RD_DATA_data : Fld := ⟨0xF6020, 19, 0⟩
def LOV_JRN_GEN_gen : Fld := ⟨0xF6024, 19, 0⟩
def LOV_JRN_FILL_fill : Fld := ⟨0xF6028, 19, 0⟩
def LOV_ARC_GEN_gen : Fld := ⟨0xF602C, 19, 0⟩
def LOV_ARC_FILL_fill : Fld := ⟨0xF6030, 19, 0⟩
def LOV_ARC_LOST_lost : Fld := ⟨0xF6034, 19, 0⟩
def LOV_CMD_clear_counters : Fld := ⟨0xF6038, 2, 2⟩
def LOV_CMD_compact_arc : Fld := ⟨0xF6038, 1, 1⟩
def LOV_CMD_compact_jrn : Fld := ⟨0xF6038, 0, 0⟩
def BOOT_CAUSE_src : Fld := ⟨0xF7000, 15, 12⟩
def BOOT_CAUSE_rec_reason : Fld := ⟨0xF7000, 11, 10⟩
def BOOT_CAUSE_rst_kind : Fld := ⟨0xF7000, 9, 8⟩
def BOOT_CAUSE_fail_cnt : Fld := ⟨0xF7000, 7, 4⟩
def BOOT_CAUSE_boot_sel : Fld := ⟨0xF7000, 3, 2⟩
def CFG_FAIL_code (i : Nat) : Fld := ⟨0xF7004 + 0x4 * i, 19, 0⟩
def CFG_STN_kind (n : Nat) : Fld := ⟨0xF7020 + 0x4 * (n - 1), 10, 9⟩
def CFG_STN_used (n : Nat) : Fld := ⟨0xF7020 + 0x4 * (n - 1), 8, 8⟩
def CFG_STN_colour (n : Nat) : Fld := ⟨0xF7020 + 0x4 * (n - 1), 7, 0⟩
def CFG_STATUS_write_reject : Fld := ⟨0xF7040, 6, 6⟩
def CFG_STATUS_rec_unlocked : Fld := ⟨0xF7040, 5, 5⟩
def CFG_STATUS_busy : Fld := ⟨0xF7040, 4, 4⟩
def CFG_STATUS_sel : Fld := ⟨0xF7040, 3, 3⟩
def CFG_STATUS_slot_b_ok : Fld := ⟨0xF7040, 2, 2⟩
def CFG_STATUS_slot_a_ok : Fld := ⟨0xF7040, 1, 1⟩
def CFG_STATUS_recovery : Fld := ⟨0xF7040, 0, 0⟩
def CFG_UPD_SRC_src : Fld := ⟨0xF7044, 17, 0⟩
def CFG_UPD_CMD_op : Fld := ⟨0xF7048, 2, 0⟩
def CFG_RESULT_result : Fld := ⟨0xF704C, 3, 0⟩
def CFG_NONCE_nonce : Fld := ⟨0xF7050, 19, 0⟩
def CFG_NONCE_HI_nonce_hi : Fld := ⟨0xF7054, 11, 0⟩
def BAY_STATUS_write_reject : Fld := ⟨0xF8000, 5, 5⟩
def BAY_STATUS_pf_s : Fld := ⟨0xF8000, 4, 4⟩
def BAY_STATUS_bay_por_s : Fld := ⟨0xF8000, 3, 3⟩
def BAY_STATUS_rtc_valid : Fld := ⟨0xF8000, 2, 2⟩
def BAY_STATUS_vmain_ok : Fld := ⟨0xF8000, 1, 1⟩
def BAY_STATUS_trip : Fld := ⟨0xF8000, 0, 0⟩
def BAY_CMP_CFG_pol (c : Nat) : Fld := ⟨0xF8004 + 0x4 * c, 3, 3⟩
def BAY_CMP_CFG_pwr_en (c : Nat) : Fld := ⟨0xF8004 + 0x4 * c, 2, 2⟩
def BAY_CMP_CFG_wake_en (c : Nat) : Fld := ⟨0xF8004 + 0x4 * c, 1, 1⟩
def BAY_CMP_CFG_en (c : Nat) : Fld := ⟨0xF8004 + 0x4 * c, 0, 0⟩
def BAY_VMAIN_THR_vmain_hyst : Fld := ⟨0xF8014, 19, 10⟩
def BAY_VMAIN_THR_vmain_thr : Fld := ⟨0xF8014, 9, 0⟩
def BAY_TEMP_THR_temp_hi : Fld := ⟨0xF8018, 15, 8⟩
def BAY_TEMP_THR_temp_lo : Fld := ⟨0xF8018, 7, 0⟩
def BAY_WAKE_CAUSE_ext : Fld := ⟨0xF801C, 5, 5⟩
def BAY_WAKE_CAUSE_alarm : Fld := ⟨0xF801C, 4, 4⟩
def BAY_WAKE_CAUSE_cmp : Fld := ⟨0xF801C, 3, 0⟩
def BAY_WAKE_SRC_ext_pwr : Fld := ⟨0xF8020, 3, 3⟩
def BAY_WAKE_SRC_alarm_pwr : Fld := ⟨0xF8020, 2, 2⟩
def BAY_WAKE_SRC_alarm_wake : Fld := ⟨0xF8020, 1, 1⟩
def BAY_WAKE_SRC_alarm_en : Fld := ⟨0xF8020, 0, 0⟩
def BAY_RTC_SUB_sub : Fld := ⟨0xF802C, 14, 0⟩
def BAY_PD_min_off : Fld := ⟨0xF8038, 19, 10⟩
def BAY_PD_pd_dly : Fld := ⟨0xF8038, 9, 0⟩
def BAY_CMD_clear_trip : Fld := ⟨0xF803C, 2, 2⟩
def BAY_CMD_clear_cause : Fld := ⟨0xF803C, 1, 1⟩
def BAY_CMD_standby : Fld := ⟨0xF803C, 0, 0⟩
def BAY_RET_word (i : Nat) : Fld := ⟨0xF8100 + 0x4 * i, 19, 0⟩
def HIF_ID_stepping : Fld := ⟨0xE0000, 19, 12⟩
def HIF_ID_dies : Fld := ⟨0xE0000, 11, 8⟩
def HIF_ID_family : Fld := ⟨0xE0000, 7, 0⟩
def HIF_STATUS_down_s : Fld := ⟨0xE0004, 9, 9⟩
def HIF_STATUS_bad_acc_s : Fld := ⟨0xE0004, 8, 8⟩
def HIF_STATUS_absent_s : Fld := ⟨0xE0004, 7, 7⟩
def HIF_STATUS_boot_window : Fld := ⟨0xE0004, 6, 6⟩
def HIF_STATUS_l1 : Fld := ⟨0xE0004, 5, 5⟩
def HIF_STATUS_width : Fld := ⟨0xE0004, 4, 2⟩
def HIF_STATUS_speed : Fld := ⟨0xE0004, 1, 0⟩
def HIF_ABSENT_CNT_absent : Fld := ⟨0xE0008, 19, 0⟩
def HIF_BAD_ACC_CNT_bad : Fld := ⟨0xE000C, 19, 0⟩
def HIF_DOWN_CNT_down : Fld := ⟨0xE0010, 19, 0⟩
def HIF_IRQ_PEND_pend (w : Nat) : Fld := ⟨0xE0020 + 0x4 * w, 15, 0⟩
def HIF_ILK_DLY_mot_dly : Fld := ⟨0xE0040, 19, 0⟩
def HIF_ILK_DISC_disc_ms : Fld := ⟨0xE0044, 19, 0⟩
def HIF_ILK_STATUS_disc_s : Fld := ⟨0xE0048, 6, 6⟩
def HIF_ILK_STATUS_open_s : Fld := ⟨0xE0048, 5, 5⟩
def HIF_ILK_STATUS_so_mot : Fld := ⟨0xE0048, 4, 4⟩
def HIF_ILK_STATUS_so_hv : Fld := ⟨0xE0048, 3, 3⟩
def HIF_ILK_STATUS_so_lsr : Fld := ⟨0xE0048, 2, 2⟩
def HIF_ILK_STATUS_ilk_b : Fld := ⟨0xE0048, 1, 1⟩
def HIF_ILK_STATUS_ilk_a : Fld := ⟨0xE0048, 0, 0⟩
def HIF_CMD_clear_counters : Fld := ⟨0xE004C, 0, 0⟩
def PLK_CTRL_retry_n : Fld := ⟨0xF0000, 5, 2⟩
def PLK_CTRL_en : Fld := ⟨0xF0000, 0, 0⟩
def PLK_ACK_TO_ack_to : Fld := ⟨0xF0004, 19, 0⟩
def PLK_STATUS_MS_status_ms : Fld := ⟨0xF0008, 19, 0⟩
def PLK_LOST_MS_lost_ms : Fld := ⟨0xF000C, 19, 0⟩
def PLK_STATUS_lost_s : Fld := ⟨0xF0010, 7, 7⟩
def PLK_STATUS_fail_s : Fld := ⟨0xF0010, 6, 6⟩
def PLK_STATUS_write_reject : Fld := ⟨0xF0010, 5, 5⟩
def PLK_STATUS_link_ok : Fld := ⟨0xF0010, 4, 4⟩
def PLK_STATUS_tx_busy : Fld := ⟨0xF0010, 3, 3⟩
def PLK_STATUS_rx_level : Fld := ⟨0xF0010, 2, 0⟩
def PLK_TX_IDX_idx : Fld := ⟨0xF0014, 5, 0⟩
def PLK_TX_DATA_data : Fld := ⟨0xF0018, 7, 0⟩
def PLK_TX_CMD_send : Fld := ⟨0xF001C, 7, 7⟩
def PLK_TX_CMD_len : Fld := ⟨0xF001C, 6, 0⟩
def PLK_TX_RESULT_result : Fld := ⟨0xF0020, 1, 0⟩
def PLK_RX_LEN_len : Fld := ⟨0xF0024, 6, 0⟩
def PLK_RX_DATA_data : Fld := ⟨0xF0028, 7, 0⟩
def PLK_RX_CMD_clear_counters : Fld := ⟨0xF002C, 1, 1⟩
def PLK_RX_CMD_pop : Fld := ⟨0xF002C, 0, 0⟩
def PLK_RX_ERR_CNT_rx_err : Fld := ⟨0xF0030, 19, 0⟩
def PLK_FAIL_CNT_fail : Fld := ⟨0xF0034, 19, 0⟩
def PLK_TX_LOST_tx_lost : Fld := ⟨0xF0038, 19, 0⟩
def ISP_CFG_tag_rate : Fld := ⟨0xF1000, 5, 4⟩
def ISP_CFG_tag_en : Fld := ⟨0xF1000, 3, 3⟩
def ISP_CFG_line_en : Fld := ⟨0xF1000, 2, 2⟩
def ISP_CFG_src1 : Fld := ⟨0xF1000, 1, 1⟩
def ISP_CFG_src0 : Fld := ⟨0xF1000, 0, 0⟩
def ISP_TRIG_W_trig_w : Fld := ⟨0xF1004, 9, 0⟩
def ISP_LINE_line_w : Fld := ⟨0xF1008, 19, 10⟩
def ISP_LINE_line_div : Fld := ⟨0xF1008, 9, 0⟩
def ISP_STATUS_tag_level : Fld := ⟨0xF1014, 7, 3⟩
def ISP_STATUS_tag_lost_s : Fld := ⟨0xF1014, 2, 2⟩
def ISP_STATUS_write_reject : Fld := ⟨0xF1014, 1, 1⟩
def ISP_TAG_LOST_lost : Fld := ⟨0xF1018, 19, 0⟩
def ISP_TAG_CNT_sent : Fld := ⟨0xF101C, 19, 0⟩
def ISP_CMD_clear_counters : Fld := ⟨0xF1020, 0, 0⟩
def FIN_CFG_wp_log2 : Fld := ⟨0xF2000, 7, 3⟩
def FIN_CFG_wp_en : Fld := ⟨0xF2000, 2, 2⟩
def FIN_CFG_mark_src : Fld := ⟨0xF2000, 0, 0⟩
def FIN_MARK_W_mark_w : Fld := ⟨0xF2004, 9, 0⟩
def FIN_REJ_W_rej_w : Fld := ⟨0xF2008, 9, 0⟩
def FIN_STATUS_rej1 : Fld := ⟨0xF200C, 3, 3⟩
def FIN_STATUS_rej0 : Fld := ⟨0xF200C, 2, 2⟩
def FIN_STATUS_merge_s : Fld := ⟨0xF200C, 1, 1⟩
def FIN_STATUS_write_reject : Fld := ⟨0xF200C, 0, 0⟩
def FIN_REJ_CNT_rej1_cnt : Fld := ⟨0xF2010, 19, 10⟩
def FIN_REJ_CNT_rej0_cnt : Fld := ⟨0xF2010, 9, 0⟩
def FIN_MERGE_CNT_merge : Fld := ⟨0xF2014, 19, 0⟩
def FIN_CMD_clear_counters : Fld := ⟨0xF2018, 0, 0⟩
def SVC_CFG_baud : Fld := ⟨0xF3000, 1, 0⟩
def SVC_STATUS_jtag_reject_s : Fld := ⟨0xF3004, 2, 2⟩
def SVC_STATUS_err_s : Fld := ⟨0xF3004, 1, 1⟩
def SVC_STATUS_test_mode : Fld := ⟨0xF3004, 0, 0⟩
def SVC_ERR_CNT_err : Fld := ⟨0xF3008, 19, 0⟩
def SVC_REQ_CNT_req : Fld := ⟨0xF300C, 19, 0⟩
def SVC_CMD_clear_counters : Fld := ⟨0xF3010, 0, 0⟩

end F

namespace P

def AXS_AX_TGT (x : Nat) : Nat := 0xD0104 + 0x40 * x
def AXS_AX_POS (x : Nat) : Nat := 0xD0130 + 0x40 * x
def AXS_AX_ENC_POS (x : Nat) : Nat := 0xD0400 + 0x10 * x
def MEM_M_ADDR (m : Nat) : Nat := 0x80110 + 0x20 * m
def LOV_JKEY : Nat := 0xF6004
def CFG_IMG_SERIAL : Nat := 0xF7010
def CFG_FLOOR : Nat := 0xF7058
def BAY_RTC_SEC : Nat := 0xF8024
def BAY_ALARM : Nat := 0xF8030
def ISP_LINE_OFS : Nat := 0xF100C

end P

end Sys2Proof.Machine
end

