-- ==== Sys2Proof/Machine/RegTabA.lean ====
section
/-! DEFINITION. The register tables of the chapters on the timebase, cues, frames, raster, transfer, scanner, line placement, clocks, laser and registration
(R58, R59, R81, R109, R110, R130, R131, R150, R151, R173, R193, R214, R215, R240, R256): offsets inside the die window, fields, access codes, classes and reset values as the tables give them. -/

namespace Sys2Proof.Machine

/-- WTB: registers of the hub die. -/
def wtbHubRegs : List Reg :=
  [ ⟨"WTB_CTRL", 0xA0000, [], [⟨3, 2, .rw, .fixed, 2⟩, ⟨1, 0, .rw, .fixed, 0⟩], .single, []⟩,
    ⟨"WTB_ENC_A_CFG", 0xA0004, [], [⟨11, 8, .rw, .fixed, 4⟩, ⟨7, 4, .rw, .fixed, 9⟩, ⟨1, 1, .rw, .fixed, 0⟩, ⟨0, 0, .rw, .fixed, 0⟩], .single, []⟩,
    ⟨"WTB_ENC_B_CFG", 0xA0008, [], [⟨11, 8, .rw, .fixed, 4⟩, ⟨7, 4, .rw, .fixed, 9⟩, ⟨1, 1, .rw, .fixed, 0⟩, ⟨0, 0, .rw, .fixed, 0⟩], .single, []⟩,
    ⟨"WTB_SCALE_A_LO", 0xA000C, [], [⟨19, 0, .rw, .fixed, 0⟩], .lo, []⟩,
    ⟨"WTB_SCALE_A_HI", 0xA0010, [], [⟨19, 0, .rw, .fixed, 256⟩], .hi, []⟩,
    ⟨"WTB_SCALE_B_LO", 0xA0014, [], [⟨19, 0, .rw, .fixed, 0⟩], .lo, []⟩,
    ⟨"WTB_SCALE_B_HI", 0xA0018, [], [⟨19, 0, .rw, .fixed, 256⟩], .hi, []⟩,
    ⟨"WTB_HYST", 0xA001C, [], [⟨3, 0, .rw, .live, 2⟩], .single, []⟩,
    ⟨"WTB_XCHK", 0xA0020, [], [⟨19, 16, .rw, .live, 3⟩, ⟨15, 12, .rw, .live, 4⟩, ⟨11, 0, .rw, .live, 1024⟩], .single, []⟩,
    ⟨"WTB_STATUS", 0xA0024, [], [⟨14, 14, .ro, .none, 0⟩, ⟨13, 13, .ro, .none, 0⟩, ⟨12, 12, .ro, .none, 0⟩, ⟨11, 11, .w1c, .none, 0⟩, ⟨10, 10, .ro, .none, 0⟩, ⟨9, 9, .w1c, .none, 0⟩, ⟨8, 8, .w1c, .none, 0⟩, ⟨7, 7, .w1c, .none, 0⟩, ⟨6, 6, .w1c, .none, 0⟩, ⟨5, 5, .w1c, .none, 0⟩, ⟨4, 4, .ro, .none, 0⟩, ⟨3, 3, .ro, .none, 0⟩, ⟨2, 2, .ro, .none, 0⟩, ⟨1, 1, .ro, .none, 0⟩, ⟨0, 0, .ro, .none, 0⟩], .single, []⟩,
    ⟨"WTB_POS_LO", 0xA0028, [], [⟨19, 0, .ro, .none, 0⟩], .lo, []⟩,
    ⟨"WTB_POS_HI", 0xA002C, [], [⟨19, 0, .ro, .none, 0⟩], .hi, []⟩,
    ⟨"WTB_VEL", 0xA0030, [], [⟨19, 0, .ro, .none, 0⟩], .single, []⟩,
    ⟨"WTB_PRESET_LO", 0xA0034, [], [⟨19, 0, .rw, .live, 0⟩], .lo, []⟩,
    ⟨"WTB_PRESET_HI", 0xA0038, [], [⟨19, 0, .rw, .live, 0⟩], .hi, []⟩,
    ⟨"WTB_CAPT_LO", 0xA0040, [], [⟨19, 0, .ro, .none, 0⟩], .lo, []⟩,
    ⟨"WTB_CAPT_HI", 0xA0044, [], [⟨19, 0, .ro, .none, 0⟩], .hi, []⟩,
    ⟨"WTB_CAPT_VEL", 0xA0048, [], [⟨19, 0, .ro, .none, 0⟩], .single, []⟩,
    ⟨"WTB_REV_DEPTH", 0xA004C, [], [⟨19, 0, .ro, .none, 0⟩], .single, []⟩,
    ⟨"WTB_CMD", 0xA003C, [], [⟨4, 4, .wo, .none, 0⟩, ⟨3, 3, .wo, .none, 0⟩, ⟨2, 2, .wo, .none, 0⟩, ⟨1, 1, .wo, .none, 0⟩, ⟨0, 0, .wo, .none, 0⟩], .single, []⟩,
    ⟨"WTB_ENC_ERR_CNT", 0xA0050, [], [⟨19, 10, .ro, .none, 0⟩, ⟨9, 0, .ro, .none, 0⟩], .single, []⟩,
    ⟨"WTB_LAT", 0xA0060, [(7, 0x4)], [⟨19, 16, .ro, .none, 0⟩, ⟨15, 0, .ro, .none, 0⟩], .single, []⟩,
    ⟨"WTB_MAINS_CFG", 0xA0080, [], [⟨0, 0, .rw, .live, 0⟩], .single, []⟩,
    ⟨"WTB_MAINS_PHASE", 0xA0084, [], [⟨19, 0, .ro, .none, 0⟩], .single, []⟩,
    ⟨"WTB_MAINS_PERIOD", 0xA0088, [], [⟨19, 0, .ro, .none, 0⟩], .single, []⟩,
    ⟨"WTB_MAINS_REJ", 0xA008C, [], [⟨19, 0, .ro, .none, 0⟩], .single, []⟩,
    ⟨"WTB_SHAFT_ANGLE", 0xA0090, [(4, 0x4)], [⟨19, 0, .ro, .none, 0⟩], .single, []⟩ ]

/-- CUE: registers of the hub and of every station. -/
def cueSharedRegs : List Reg :=
  [ ⟨"CUE_CTRL", 0x00000, [], [⟨11, 0, .rw, .live, 256⟩], .single, []⟩,
    ⟨"CUE_STATUS", 0x00004, [], [⟨7, 7, .w1c, .none, 0⟩, ⟨6, 6, .w1c, .none, 0⟩, ⟨5, 5, .w1c, .none, 0⟩, ⟨4, 4, .w1c, .none, 0⟩, ⟨3, 3, .w1c, .none, 0⟩, ⟨2, 2, .ro, .none, 0⟩, ⟨1, 1, .ro, .none, 0⟩, ⟨0, 0, .ro, .none, 0⟩], .single, []⟩,
    ⟨"CUE_LATE_TOL", 0x00008, [], [⟨19, 0, .rw, .live, 1000⟩], .single, []⟩,
    ⟨"CUE_CMD", 0x0000C, [], [⟨0, 0, .wo, .none, 0⟩], .single, []⟩,
    ⟨"CUE_EXEC_CNT", 0x00020, [], [⟨19, 0, .ro, .none, 0⟩], .single, []⟩,
    ⟨"CUE_LATE_CNT", 0x00024, [], [⟨19, 0, .ro, .none, 0⟩], .single, []⟩,
    ⟨"CUE_LATE_MAX", 0x00028, [], [⟨19, 0, .ro, .none, 0⟩], .single, []⟩,
    ⟨"CUE_SKIP_CNT", 0x0002C, [], [⟨19, 0, .ro, .none, 0⟩], .single, []⟩,
    ⟨"CUE_HARD_MISS_CNT", 0x00030, [], [⟨19, 0, .ro, .none, 0⟩], .single, []⟩,
    ⟨"CUE_SAMPLE_POS_LO", 0x00034, [], [⟨19, 0, .ro, .none, 0⟩], .lo, []⟩,
    ⟨"CUE_SAMPLE_POS_HI", 0x00038, [], [⟨19, 0, .ro, .none, 0⟩], .hi, []⟩,
    ⟨"CUE_SAMPLE_VEL", 0x0003C, [], [⟨19, 0, .ro, .none, 0⟩], .single, []⟩,
    ⟨"CUE_LIST_CFG", 0x00100, [(4, 0x4)], [⟨9, 9, .ro, .none, 1⟩, ⟨8, 8, .ro, .live, 1⟩, ⟨7, 6, .ro, .live, 1⟩, ⟨5, 4, .ro, .fixed, 0⟩, ⟨3, 2, .ro, .fixed, 0⟩], .single, []⟩,
    ⟨"CUE_LIST_CFG", 0x00110, [(12, 0x4)], [⟨9, 9, .ro, .none, 0⟩, ⟨8, 8, .rw, .live, 0⟩, ⟨7, 6, .rw, .live, 0⟩, ⟨5, 4, .rw, .fixed, 0⟩, ⟨3, 2, .rw, .fixed, 0⟩], .single, []⟩,
    ⟨"CUE_LIST_HEAD", 0x00140, [(16, 0x4)], [⟨13, 13, .ro, .none, 0⟩, ⟨12, 12, .ro, .none, 1⟩, ⟨11, 0, .rw, .live, 4095⟩], .single, []⟩,
    ⟨"CUE_LIST_LAST", 0x00180, [(16, 0x4)], [⟨11, 0, .ro, .none, 4095⟩], .single, []⟩,
    ⟨"CUE_LIST_CMD", 0x001C0, [], [⟨5, 4, .wo, .none, 0⟩, ⟨3, 0, .wo, .none, 0⟩], .single, []⟩,
    ⟨"CUE_EDIT_IDX", 0x00200, [], [⟨11, 0, .rw, .live, 0⟩], .single, []⟩,
    ⟨"CUE_EDIT_W", 0x00204, [(4, 0x4)], [⟨19, 0, .rw, .live, 0⟩], .single, []⟩,
    ⟨"CUE_EDIT_CMD", 0x00214, [], [⟨1, 0, .wo, .none, 0⟩], .single, []⟩,
    ⟨"CUE_EDIT_RESULT", 0x00218, [], [⟨2, 0, .ro, .none, 0⟩], .single, []⟩,
    ⟨"CUE_WTAB_ADDR", 0x00800, [(256, 0x8)], [⟨19, 18, .rw, .live, 0⟩, ⟨17, 0, .rw, .live, 0⟩], .single, []⟩,
    ⟨"CUE_WTAB_DATA", 0x00804, [(256, 0x8)], [⟨19, 0, .rw, .live, 0⟩], .single, []⟩,
    ⟨"CUE_BANK_STATUS", 0x0E000, [], [⟨19, 12, .ro, .none, 0⟩, ⟨11, 4, .ro, .none, 0⟩, ⟨2, 2, .w1c, .none, 0⟩, ⟨1, 1, .ro, .none, 0⟩, ⟨0, 0, .ro, .none, 0⟩], .single, []⟩,
    ⟨"CUE_ARM_SNAPSHOT", 0x0E004, [], [⟨19, 0, .ro, .none, 0⟩], .single, []⟩,
    ⟨"CUE_STAGE_WCNT", 0x0E008, [], [⟨19, 0, .ro, .none, 0⟩], .single, []⟩,
    ⟨"CUE_BANK_VIEW", 0x0E00C, [], [⟨1, 0, .rw, .live, 0⟩], .single, []⟩ ]

/-- CUE: registers of a station die. -/
def cueStnRegs : List Reg :=
  [ ⟨"CUE_REP_STATUS", 0x0F000, [], [⟨5, 5, .w1c, .none, 0⟩, ⟨4, 4, .w1c, .none, 0⟩, ⟨3, 3, .ro, .none, 0⟩, ⟨2, 2, .ro, .none, 1⟩, ⟨1, 1, .ro, .none, 0⟩, ⟨0, 0, .ro, .none, 0⟩], .single, []⟩,
    ⟨"CUE_REP_POS_LO", 0x0F004, [], [⟨19, 0, .ro, .none, 0⟩], .lo, []⟩,
    ⟨"CUE_REP_POS_HI", 0x0F008, [], [⟨19, 0, .ro, .none, 0⟩], .hi, []⟩,
    ⟨"CUE_REP_VEL", 0x0F00C, [], [⟨19, 0, .ro, .none, 0⟩], .single, []⟩,
    ⟨"CUE_REP_LAT", 0x0F010, [], [⟨15, 0, .ro, .none, 0⟩], .single, []⟩,
    ⟨"CUE_REP_ERR_MAX", 0x0F014, [], [⟨19, 0, .ro, .none, 0⟩], .single, []⟩,
    ⟨"CUE_REP_MISS_CNT", 0x0F018, [], [⟨19, 0, .ro, .none, 0⟩], .single, []⟩,
    ⟨"CUE_REP_COH_TOL", 0x0F01C, [], [⟨7, 0, .rw, .live, 48⟩], .single, []⟩,
    ⟨"CUE_SHAFT_ANGLE", 0x0F020, [(3, 0x4)], [⟨19, 0, .ro, .none, 0⟩], .single, []⟩ ]

/-- FRM: registers of the hub die. -/
def frmHubRegs : List Reg :=
  [ ⟨"FRM_CTRL", 0xB0000, [], [⟨0, 0, .rw, .live, 0⟩], .single, []⟩,
    ⟨"FRM_STATUS", 0xB0004, [], [⟨15, 15, .w1c, .none, 0⟩, ⟨14, 14, .w1c, .none, 0⟩, ⟨13, 13, .ro, .none, 0⟩, ⟨12, 12, .ro, .none, 0⟩, ⟨8, 0, .ro, .none, 0⟩], .single, []⟩,
    ⟨"FRM_SUB_W", 0xB0010, [(8, 0x4)], [⟨19, 0, .rw, .live, 0⟩], .single, []⟩,
    ⟨"FRM_SUB_CMD", 0xB0030, [], [⟨3, 3, .wo, .none, 0⟩, ⟨2, 2, .wo, .none, 0⟩, ⟨1, 1, .wo, .none, 0⟩, ⟨0, 0, .wo, .none, 0⟩], .single, []⟩,
    ⟨"FRM_ADMIT_STATUS", 0xB0034, [], [⟨3, 0, .ro, .none, 0⟩], .single, []⟩,
    ⟨"FRM_ADMIT_SERIAL", 0xB0038, [], [⟨19, 0, .ro, .none, 0⟩], .single, []⟩,
    ⟨"FRM_ADMIT_START_LO", 0xB003C, [], [⟨19, 0, .ro, .none, 0⟩], .lo, []⟩,
    ⟨"FRM_ADMIT_START_HI", 0xB0040, [], [⟨19, 0, .ro, .none, 0⟩], .hi, []⟩,
    ⟨"FRM_NEXT_SERIAL", 0xB0044, [], [⟨19, 0, .rw, .fixed, 0⟩], .single, []⟩,
    ⟨"FRM_ADMIT_TIME", 0xB0048, [], [⟨19, 0, .rw, .live, 2000⟩], .single, []⟩,
    ⟨"FRM_VMIN", 0xB004C, [], [⟨19, 0, .rw, .live, 4096⟩], .single, []⟩,
    ⟨"FRM_JOB_MIN", 0xB0050, [], [⟨19, 0, .rw, .live, 16384⟩], .single, []⟩,
    ⟨"FRM_HUB_OFS_LO", 0xB0054, [], [⟨19, 0, .rw, .fixed, 0⟩], .lo, []⟩,
    ⟨"FRM_HUB_OFS_HI", 0xB0058, [], [⟨19, 0, .rw, .fixed, 0⟩], .hi, []⟩,
    ⟨"FRM_CLOSE_OFS_LO", 0xB005C, [], [⟨19, 0, .rw, .fixed, 0⟩], .lo, []⟩,
    ⟨"FRM_CLOSE_OFS_HI", 0xB0060, [], [⟨19, 0, .rw, .fixed, 0⟩], .hi, []⟩,
    ⟨"FRM_STN_OFS_LO", 0xB0080, [(7, 0x8)], [⟨19, 0, .rw, .fixed, 0⟩], .lo, []⟩,
    ⟨"FRM_STN_OFS_HI", 0xB0084, [(7, 0x8)], [⟨19, 0, .rw, .fixed, 0⟩], .hi, []⟩,
    ⟨"FRM_FIN0_OFS_LO", 0xB00C0, [], [⟨19, 0, .rw, .fixed, 0⟩], .lo, []⟩,
    ⟨"FRM_FIN0_OFS_HI", 0xB00C4, [], [⟨19, 0, .rw, .fixed, 0⟩], .hi, []⟩,
    ⟨"FRM_FIN1_OFS_LO", 0xB00C8, [], [⟨19, 0, .rw, .fixed, 0⟩], .lo, []⟩,
    ⟨"FRM_FIN1_OFS_HI", 0xB00CC, [], [⟨19, 0, .rw, .fixed, 0⟩], .hi, []⟩,
    ⟨"FRM_DONE_W", 0xB0100, [(4, 0x4)], [⟨19, 0, .ro, .none, 0⟩], .single, []⟩,
    ⟨"FRM_DONE_LEVEL", 0xB0110, [], [⟨6, 0, .ro, .none, 0⟩], .single, []⟩,
    ⟨"FRM_POP_EMPTY_CNT", 0xB0114, [], [⟨19, 0, .ro, .none, 0⟩], .single, []⟩,
    ⟨"FRM_ADMIT_CNT", 0xB0120, [], [⟨19, 0, .ro, .none, 0⟩], .single, []⟩,
    ⟨"FRM_REFUSE_CNT", 0xB0124, [], [⟨19, 0, .ro, .none, 0⟩], .single, []⟩,
    ⟨"FRM_FLAG_CNT", 0xB0128, [], [⟨19, 0, .ro, .none, 0⟩], .single, []⟩,
    ⟨"FRM_CANCEL_CNT", 0xB012C, [], [⟨19, 0, .ro, .none, 0⟩], .single, []⟩,
    ⟨"FRM_SW_STATUS", 0xB0130, [], [⟨15, 8, .ro, .none, 0⟩, ⟨7, 0, .ro, .none, 0⟩], .single, []⟩ ]

/-- RIN: registers of the hub die. -/
def rinHubRegs : List Reg :=
  [ ⟨"RIN_WIN_CFG", 0x10000, [(8, 0x4)], [⟨9, 9, .rw, .live, 0⟩, ⟨8, 6, .rw, .live, 0⟩, ⟨5, 0, .rw, .live, 0⟩], .single, []⟩,
    ⟨"RIN_HSTATUS", 0x10040, [], [⟨1, 1, .w1c, .none, 0⟩, ⟨0, 0, .w1c, .none, 0⟩], .single, []⟩,
    ⟨"RIN_BAR2_DROP_CNT", 0x10044, [], [⟨19, 0, .ro, .none, 0⟩], .single, []⟩,
    ⟨"RIN_RSET_SEL", 0x10050, [], [⟨7, 0, .rw, .live, 0⟩], .single, []⟩,
    ⟨"RIN_RSET_STATE", 0x10054, [], [⟨19, 19, .ro, .none, 0⟩, ⟨15, 7, .ro, .none, 0⟩, ⟨6, 0, .ro, .none, 0⟩], .single, []⟩,
    ⟨"RIN_RSET_CMD", 0x10058, [], [⟨9, 8, .wo, .none, 0⟩, ⟨7, 0, .wo, .none, 0⟩], .single, []⟩,
    ⟨"RIN_RSET_RESULT", 0x1005C, [], [⟨1, 0, .ro, .none, 0⟩], .single, []⟩,
    ⟨"RIN_ADMIT_DIAG", 0x10060, [], [⟨19, 17, .ro, .none, 0⟩, ⟨16, 13, .ro, .none, 0⟩, ⟨7, 0, .ro, .none, 0⟩], .single, []⟩ ]

/-- RIN: registers of a station die. -/
def rinStnRegs : List Reg :=
  [ ⟨"RIN_STATUS", 0x10000, [], [⟨5, 5, .w1c, .none, 0⟩, ⟨4, 4, .w1c, .none, 0⟩, ⟨3, 3, .w1c, .none, 0⟩, ⟨2, 2, .w1c, .none, 0⟩, ⟨1, 1, .w1c, .none, 0⟩, ⟨0, 0, .w1c, .none, 0⟩], .single, []⟩,
    ⟨"RIN_DESC_IDX", 0x10010, [], [⟨7, 0, .rw, .live, 0⟩], .single, []⟩,
    ⟨"RIN_DESC_W", 0x10014, [(8, 0x4)], [⟨19, 0, .rw, .live, 0⟩], .single, []⟩,
    ⟨"RIN_DESC_CMD", 0x10034, [], [⟨1, 0, .wo, .none, 0⟩], .single, []⟩,
    ⟨"RIN_DESC_RESULT", 0x10038, [], [⟨2, 0, .ro, .none, 0⟩], .single, []⟩,
    ⟨"RIN_CTX_COMMIT", 0x10100, [(8, 0x10)], [⟨19, 0, .rw, .live, 0⟩], .single, []⟩,
    ⟨"RIN_CTX_REL", 0x10104, [(8, 0x10)], [⟨19, 0, .ro, .none, 0⟩], .single, []⟩,
    ⟨"RIN_CTX_NEXT", 0x10108, [(8, 0x10)], [⟨19, 0, .ro, .none, 0⟩], .single, []⟩,
    ⟨"RIN_CTX_STATE", 0x1010C, [(8, 0x10)], [⟨19, 18, .ro, .none, 0⟩, ⟨7, 0, .ro, .none, 0⟩], .single, []⟩,
    ⟨"RIN_UNDERRUN_CNT", 0x10200, [], [⟨19, 0, .ro, .none, 0⟩], .single, []⟩,
    ⟨"RIN_LATE_CNT", 0x10204, [], [⟨19, 0, .ro, .none, 0⟩], .single, []⟩,
    ⟨"RIN_DROP_CNT", 0x10208, [], [⟨19, 0, .ro, .none, 0⟩], .single, []⟩,
    ⟨"RIN_UE_CNT", 0x1020C, [], [⟨19, 0, .ro, .none, 0⟩], .single, []⟩,
    ⟨"RIN_UE_ADDR_LO", 0x10210, [], [⟨19, 0, .ro, .none, 0⟩], .lo, []⟩,
    ⟨"RIN_UE_ADDR_HI", 0x10214, [], [⟨19, 0, .ro, .none, 0⟩], .hi, []⟩,
    ⟨"RIN_CMD", 0x10218, [], [⟨0, 0, .wo, .none, 0⟩], .single, []⟩ ]

/-- XFR: registers of the hub and of every station. -/
def xfrSharedRegs : List Reg :=
  [ ⟨"XFR_CTRL", 0x20000, [], [⟨3, 0, .rw, .live, 1⟩], .single, []⟩,
    ⟨"XFR_STATUS", 0x20004, [], [⟨0, 0, .w1c, .none, 0⟩], .single, []⟩,
    ⟨"XFR_RES_SUM", 0x2000C, [], [⟨13, 0, .ro, .none, 0⟩], .single, []⟩,
    ⟨"XFR_HALT_LO", 0x20010, [], [⟨19, 0, .ro, .none, 0⟩], .lo, []⟩,
    ⟨"XFR_HALT_HI", 0x20014, [], [⟨19, 0, .ro, .none, 0⟩], .hi, []⟩,
    ⟨"XFR_DONE_LO", 0x20018, [], [⟨19, 0, .w1c, .none, 0⟩], .lo, []⟩,
    ⟨"XFR_DONE_HI", 0x2001C, [], [⟨19, 0, .w1c, .none, 0⟩], .hi, []⟩ ]

/-- XFR: registers of the hub die. -/
def xfrHubRegs : List Reg :=
  [ ⟨"XFR_RES_LIMIT", 0x20008, [], [⟨13, 0, .rw, .fixed, 10000⟩], .single, []⟩,
    ⟨"XFR_CH_CFG", 0x20100, [(32, 0x40)], [⟨19, 14, .rw, .fixed, 0⟩, ⟨13, 12, .rw, .live, 0⟩, ⟨11, 9, .rw, .live, 3⟩, ⟨6, 4, .rw, .live, 7⟩], .single, []⟩,
    ⟨"XFR_CH_STATUS", 0x20114, [(32, 0x40)], [⟨7, 7, .ro, .none, 0⟩, ⟨6, 6, .w1c, .none, 0⟩, ⟨5, 5, .w1c, .none, 0⟩, ⟨4, 4, .w1c, .none, 0⟩, ⟨3, 2, .ro, .none, 0⟩, ⟨1, 0, .ro, .none, 0⟩], .single, []⟩,
    ⟨"XFR_CH_RES", 0x20104, [(32, 0x40)], [⟨13, 0, .rw, .fixed, 0⟩], .single, []⟩,
    ⟨"XFR_CH_REQ", 0x20108, [(32, 0x40)], [⟨15, 0, .rw, .live, 1⟩], .single, []⟩,
    ⟨"XFR_CH_DESC", 0x2010C, [(32, 0x40)], [⟨18, 0, .rw, .live, 0⟩], .single, []⟩,
    ⟨"XFR_CH_CMD", 0x20110, [(32, 0x40)], [⟨3, 3, .wo, .none, 0⟩, ⟨2, 2, .wo, .none, 0⟩, ⟨1, 1, .wo, .none, 0⟩, ⟨0, 0, .wo, .none, 0⟩], .single, []⟩,
    ⟨"XFR_CH_CUR_DESC", 0x20118, [(32, 0x40)], [⟨18, 0, .ro, .none, 0⟩], .single, []⟩,
    ⟨"XFR_CH_SRC_LINE", 0x2011C, [(32, 0x40)], [⟨19, 0, .ro, .none, 0⟩], .single, []⟩,
    ⟨"XFR_CH_SRC_BYTE", 0x20120, [(32, 0x40)], [⟨19, 0, .ro, .none, 0⟩], .single, []⟩,
    ⟨"XFR_CH_DST_LINE", 0x20124, [(32, 0x40)], [⟨19, 0, .ro, .none, 0⟩], .single, []⟩,
    ⟨"XFR_CH_DST_BYTE", 0x20128, [(32, 0x40)], [⟨19, 0, .ro, .none, 0⟩], .single, []⟩,
    ⟨"XFR_CH_HOLD", 0x2012C, [(32, 0x40)], [⟨7, 0, .ro, .none, 0⟩], .single, []⟩,
    ⟨"XFR_CH_DONE_CNT", 0x20130, [(32, 0x40)], [⟨19, 0, .ro, .none, 0⟩], .single, []⟩,
    ⟨"XFR_CH_RETRY_CNT", 0x20134, [(32, 0x40)], [⟨19, 0, .ro, .none, 0⟩], .single, []⟩,
    ⟨"XFR_CH_REQ_DROP", 0x20138, [(32, 0x40)], [⟨19, 0, .ro, .none, 0⟩], .single, []⟩,
    ⟨"XFR_CH_POISON_CNT", 0x2013C, [(32, 0x40)], [⟨19, 0, .ro, .none, 0⟩], .single, []⟩ ]

/-- XFR: registers of a station die. -/
def xfrStnRegs : List Reg :=
  [ ⟨"XFR_RES_LIMIT", 0x20008, [], [], .single, []⟩,
    ⟨"XFR_CH_CFG", 0x20100, [(8, 0x40)], [⟨13, 12, .rw, .live, 0⟩, ⟨11, 9, .rw, .live, 3⟩, ⟨6, 4, .rw, .live, 7⟩], .single, []⟩,
    ⟨"XFR_CH_STATUS", 0x20114, [(8, 0x40)], [⟨7, 7, .ro, .none, 0⟩, ⟨6, 6, .w1c, .none, 0⟩, ⟨5, 5, .w1c, .none, 0⟩, ⟨4, 4, .w1c, .none, 0⟩, ⟨3, 2, .ro, .none, 0⟩, ⟨1, 0, .ro, .none, 0⟩], .single, []⟩,
    ⟨"XFR_CH_RES", 0x20104, [(8, 0x40)], [], .single, []⟩,
    ⟨"XFR_CH_REQ", 0x20108, [(8, 0x40)], [⟨15, 0, .rw, .live, 1⟩], .single, []⟩,
    ⟨"XFR_CH_DESC", 0x2010C, [(8, 0x40)], [⟨18, 0, .rw, .live, 0⟩], .single, []⟩,
    ⟨"XFR_CH_CMD", 0x20110, [(8, 0x40)], [⟨3, 3, .wo, .none, 0⟩, ⟨2, 2, .wo, .none, 0⟩, ⟨1, 1, .wo, .none, 0⟩, ⟨0, 0, .wo, .none, 0⟩], .single, []⟩,
    ⟨"XFR_CH_CUR_DESC", 0x20118, [(8, 0x40)], [⟨18, 0, .ro, .none, 0⟩], .single, []⟩,
    ⟨"XFR_CH_SRC_LINE", 0x2011C, [(8, 0x40)], [⟨19, 0, .ro, .none, 0⟩], .single, []⟩,
    ⟨"XFR_CH_SRC_BYTE", 0x20120, [(8, 0x40)], [⟨19, 0, .ro, .none, 0⟩], .single, []⟩,
    ⟨"XFR_CH_DST_LINE", 0x20124, [(8, 0x40)], [⟨19, 0, .ro, .none, 0⟩], .single, []⟩,
    ⟨"XFR_CH_DST_BYTE", 0x20128, [(8, 0x40)], [⟨19, 0, .ro, .none, 0⟩], .single, []⟩,
    ⟨"XFR_CH_HOLD", 0x2012C, [(8, 0x40)], [⟨7, 0, .ro, .none, 0⟩], .single, []⟩,
    ⟨"XFR_CH_DONE_CNT", 0x20130, [(8, 0x40)], [⟨19, 0, .ro, .none, 0⟩], .single, []⟩,
    ⟨"XFR_CH_RETRY_CNT", 0x20134, [(8, 0x40)], [⟨19, 0, .ro, .none, 0⟩], .single, []⟩,
    ⟨"XFR_CH_REQ_DROP", 0x20138, [(8, 0x40)], [⟨19, 0, .ro, .none, 0⟩], .single, []⟩,
    ⟨"XFR_CH_POISON_CNT", 0x2013C, [(8, 0x40)], [⟨19, 0, .ro, .none, 0⟩], .single, []⟩,
    ⟨"XFR_SDESC_IDX", 0x20040, [], [⟨5, 0, .rw, .live, 0⟩], .single, []⟩,
    ⟨"XFR_SDESC_W", 0x20044, [(16, 0x4)], [⟨19, 0, .rw, .live, 0⟩], .single, []⟩,
    ⟨"XFR_SDESC_CMD", 0x20084, [], [⟨1, 0, .wo, .none, 0⟩], .single, []⟩,
    ⟨"XFR_SDESC_RESULT", 0x20088, [], [⟨1, 0, .ro, .none, 0⟩], .single, []⟩ ]

/-- SCN: part 0 of its registers (Stn). -/
def scnStnRegs0 : List Reg :=
  [ ⟨"SCN_CFG", 0xA0000, [], [⟨7, 6, .rw, .fixed, 0⟩, ⟨5, 4, .rw, .fixed, 2⟩, ⟨3, 2, .rw, .fixed, 1⟩, ⟨1, 0, .rw, .fixed, 2⟩], .single, []⟩,
    ⟨"SCN_GEOM", 0xA0004, [(3, 0x4)], [⟨5, 0, .rw, .fixed, 0⟩], .single, []⟩,
    ⟨"SCN_DUTY", 0xA0010, [], [⟨9, 0, .rw, .fixed, 700⟩], .single, []⟩,
    ⟨"SCN_RPM_MAX", 0xA0014, [], [⟨19, 0, .rw, .fixed, 40000⟩], .single, []⟩,
    ⟨"SCN_RPM_MIN", 0xA0018, [], [⟨19, 0, .rw, .fixed, 3000⟩], .single, []⟩,
    ⟨"SCN_ACC", 0xA001C, [], [⟨19, 10, .rw, .live, 10⟩, ⟨9, 0, .rw, .live, 40⟩], .single, []⟩,
    ⟨"SCN_SOS_DLY", 0xA0020, [], [⟨19, 0, .rw, .live, 320000⟩], .single, []⟩,
    ⟨"SCN_BD", 0xA0024, [], [⟨11, 8, .rw, .live, 3⟩, ⟨7, 0, .rw, .live, 4⟩], .single, []⟩,
    ⟨"SCN_LOCK", 0xA0028, [], [⟨19, 16, .rw, .live, 3⟩, ⟨15, 10, .rw, .live, 4⟩, ⟨7, 0, .rw, .live, 32⟩], .single, []⟩,
    ⟨"SCN_RPH", 0xA002C, [], [⟨19, 16, .rw, .live, 4⟩, ⟨11, 0, .rw, .live, 64⟩], .single, []⟩,
    ⟨"SCN_RES_FN", 0xA0030, [], [⟨19, 0, .rw, .fixed, 0⟩], .single, []⟩,
    ⟨"SCN_RES_CFG", 0xA0034, [], [⟨19, 16, .rw, .fixed, 8⟩, ⟨15, 8, .rw, .fixed, 50⟩, ⟨5, 0, .rw, .fixed, 20⟩], .single, []⟩,
    ⟨"SCN_RES_FWD_OFS", 0xA0038, [], [⟨13, 0, .rw, .live, 0⟩], .single, []⟩,
    ⟨"SCN_RES_REV_OFS", 0xA003C, [], [⟨13, 0, .rw, .live, 0⟩], .single, []⟩,
    ⟨"SCN_RES_LAG", 0xA0040, [], [⟨19, 0, .rw, .live, 0⟩], .single, []⟩,
    ⟨"SCN_FACET_SIG", 0xA0044, [(10, 0x4)], [⟨19, 0, .rw, .fixed, 0⟩], .single, []⟩,
    ⟨"SCN_SPIN_TMO", 0xA006C, [], [⟨19, 0, .rw, .fixed, 10000⟩], .single, []⟩,
    ⟨"SCN_STATUS", 0xA0080, [], [⟨18, 16, .ro, .none, 0⟩, ⟨15, 12, .ro, .none, 0⟩, ⟨11, 11, .ro, .none, 0⟩, ⟨10, 10, .ro, .none, 0⟩, ⟨9, 9, .ro, .none, 0⟩, ⟨8, 8, .ro, .none, 0⟩, ⟨4, 3, .ro, .none, 0⟩, ⟨2, 0, .ro, .none, 0⟩], .single, []⟩,
    ⟨"SCN_EVENT", 0xA0084, [], [⟨6, 6, .w1c, .none, 0⟩, ⟨5, 5, .w1c, .none, 0⟩, ⟨4, 4, .w1c, .none, 0⟩, ⟨3, 3, .w1c, .none, 0⟩, ⟨2, 2, .w1c, .none, 0⟩, ⟨1, 1, .w1c, .none, 0⟩, ⟨0, 0, .w1c, .none, 0⟩], .single, []⟩,
    ⟨"SCN_CMD", 0xA0088, [], [⟨3, 3, .wo, .none, 0⟩, ⟨2, 2, .wo, .none, 0⟩, ⟨1, 1, .wo, .none, 0⟩, ⟨0, 0, .wo, .none, 0⟩], .single, []⟩,
    ⟨"SCN_JOB", 0xA008C, [], [⟨1, 0, .rw, .banked, 2⟩], .single, []⟩,
    ⟨"SCN_PHASE_ERR", 0xA0090, [], [⟨19, 0, .ro, .none, 0⟩], .single, []⟩,
    ⟨"SCN_PHASE_MAX", 0xA0094, [], [⟨19, 0, .ro, .none, 0⟩], .single, []⟩,
    ⟨"SCN_SPEED", 0xA0098, [], [⟨19, 0, .ro, .none, 0⟩], .single, []⟩,
    ⟨"SCN_AMP", 0xA009C, [], [⟨19, 0, .ro, .none, 0⟩], .single, []⟩,
    ⟨"SCN_VLO", 0xA00A0, [(3, 0x4)], [⟨19, 0, .ro, .none, 0⟩], .single, []⟩,
    ⟨"SCN_VHI", 0xA00B0, [(3, 0x4)], [⟨19, 0, .ro, .none, 0⟩], .single, []⟩,
    ⟨"SCN_RLK_DIST", 0xA00C0, [(3, 0x4)], [⟨19, 0, .ro, .none, 0⟩], .single, []⟩,
    ⟨"SCN_RPH_DIST", 0xA00CC, [], [⟨19, 0, .ro, .none, 0⟩], .single, []⟩,
    ⟨"SCN_BD_MISS_CNT", 0xA00D0, [], [⟨19, 0, .ro, .none, 0⟩], .single, []⟩,
    ⟨"SCN_FLY_CNT", 0xA00D4, [], [⟨19, 0, .ro, .none, 0⟩], .single, []⟩,
    ⟨"SCN_LOCK_LOST_CNT", 0xA00D8, [], [⟨19, 0, .ro, .none, 0⟩], .single, []⟩,
    ⟨"SCN_PRED_ERR_MAX", 0xA00DC, [], [⟨19, 0, .ro, .none, 0⟩], .single, []⟩,
    ⟨"SCN_MDR_CH_CFG", 0xA0800, [], [⟨19, 17, .ro, .fixed, 5⟩, ⟨16, 15, .rw, .fixed, 0⟩, ⟨14, 13, .rw, .fixed, 0⟩, ⟨12, 9, .rw, .fixed, 3⟩, ⟨8, 8, .rw, .fixed, 1⟩, ⟨7, 7, .rw, .fixed, 0⟩, ⟨6, 6, .rw, .fixed, 0⟩], .single, []⟩,
    ⟨"SCN_MDR_CH_PWM", 0xA0804, [], [⟨17, 11, .rw, .fixed, 20⟩, ⟨10, 0, .rw, .fixed, 500⟩], .single, []⟩,
    ⟨"SCN_MDR_CH_SMP", 0xA0808, [], [⟨19, 10, .rw, .fixed, 500⟩, ⟨9, 0, .rw, .fixed, 200⟩], .single, []⟩,
    ⟨"SCN_MDR_CH_ENC", 0xA080C, [], [⟨19, 16, .rw, .fixed, 9⟩, ⟨15, 12, .rw, .fixed, 4⟩], .single, []⟩,
    ⟨"SCN_MDR_CH_CPR", 0xA0810, [], [⟨19, 0, .rw, .fixed, 4096⟩], .single, []⟩,
    ⟨"SCN_MDR_CH_IFS", 0xA0814, [], [⟨19, 0, .rw, .fixed, 1000⟩], .single, []⟩,
    ⟨"SCN_MDR_CH_ILIM", 0xA0818, [], [⟨19, 0, .rw, .live, 393216⟩], .single, []⟩ ]

/-- SCN: part 1 of its registers (Stn). -/
def scnStnRegs1 : List Reg :=
  [ ⟨"SCN_MDR_CH_OC", 0xA081C, [], [⟨19, 0, .rw, .fixed, 458752⟩], .single, []⟩,
    ⟨"SCN_MDR_CH_KP_I", 0xA0820, [], [⟨19, 0, .rw, .live, 0⟩], .single, []⟩,
    ⟨"SCN_MDR_CH_KI_I", 0xA0824, [], [⟨19, 0, .rw, .live, 0⟩], .single, []⟩,
    ⟨"SCN_MDR_CH_KP_S", 0xA0828, [], [⟨19, 0, .rw, .live, 0⟩], .single, []⟩,
    ⟨"SCN_MDR_CH_KI_S", 0xA082C, [], [⟨19, 0, .rw, .live, 0⟩], .single, []⟩,
    ⟨"SCN_MDR_CH_SPD_DIV", 0xA0830, [], [⟨3, 0, .rw, .fixed, 4⟩], .single, []⟩,
    ⟨"SCN_MDR_CH_SPD_MAX", 0xA0834, [], [⟨19, 0, .rw, .fixed, 3000⟩], .single, []⟩,
    ⟨"SCN_MDR_CH_ACC_MAX", 0xA0838, [], [⟨19, 0, .rw, .live, 1000⟩], .single, []⟩,
    ⟨"SCN_MDR_CH_DEC_MAX", 0xA083C, [], [⟨19, 0, .rw, .live, 1000⟩], .single, []⟩,
    ⟨"SCN_MDR_CH_ACC_FS", 0xA0840, [], [⟨19, 0, .rw, .fixed, 10000⟩], .single, []⟩,
    ⟨"SCN_MDR_CH_FW", 0xA0844, [], [⟨19, 10, .rw, .live, 950⟩, ⟨9, 0, .rw, .live, 64⟩], .single, []⟩,
    ⟨"SCN_MDR_CH_FW_MAX", 0xA0848, [], [⟨19, 0, .rw, .live, 0⟩], .single, []⟩,
    ⟨"SCN_MDR_CH_REV_MAX", 0xA084C, [], [⟨19, 0, .rw, .live, 100⟩], .single, []⟩,
    ⟨"SCN_MDR_CH_CATCH", 0xA0850, [], [⟨19, 12, .rw, .live, 20⟩, ⟨11, 0, .rw, .live, 10⟩], .single, []⟩,
    ⟨"SCN_MDR_CH_FOL", 0xA0854, [], [⟨19, 12, .rw, .live, 50⟩, ⟨11, 0, .rw, .live, 200⟩], .single, []⟩,
    ⟨"SCN_MDR_CH_FOL_ANG", 0xA0858, [], [⟨19, 0, .rw, .live, 1024⟩], .single, []⟩,
    ⟨"SCN_MDR_CH_STOP_DEC", 0xA085C, [], [⟨19, 0, .rw, .live, 1000⟩], .single, []⟩,
    ⟨"SCN_MDR_CH_HOLD", 0xA0860, [], [⟨19, 0, .rw, .live, 500⟩], .single, []⟩,
    ⟨"SCN_MDR_CH_CIRC", 0xA0864, [], [⟨19, 0, .rw, .fixed, 0⟩], .single, []⟩,
    ⟨"SCN_MDR_CH_POS_KP", 0xA0868, [], [⟨19, 0, .rw, .live, 800⟩], .single, []⟩,
    ⟨"SCN_MDR_CH_REF_LEAD", 0xA086C, [], [⟨19, 0, .rw, .live, 50⟩], .single, []⟩,
    ⟨"SCN_MDR_CH_REF", 0xA0880, [], [⟨19, 0, .rw, .live, 0⟩], .single, []⟩,
    ⟨"SCN_MDR_CH_CMD", 0xA0884, [], [⟨3, 3, .wo, .none, 0⟩, ⟨2, 2, .wo, .none, 0⟩, ⟨1, 1, .wo, .none, 0⟩, ⟨0, 0, .wo, .none, 0⟩], .single, []⟩,
    ⟨"SCN_MDR_CH_STATUS", 0xA0888, [], [⟨11, 10, .ro, .none, 0⟩, ⟨9, 9, .ro, .none, 0⟩, ⟨8, 8, .ro, .none, 0⟩, ⟨7, 7, .ro, .none, 0⟩, ⟨6, 6, .ro, .none, 0⟩, ⟨5, 5, .ro, .none, 0⟩, ⟨2, 0, .ro, .none, 0⟩], .single, []⟩,
    ⟨"SCN_MDR_CH_EVENT", 0xA088C, [], [⟨6, 6, .w1c, .none, 0⟩, ⟨5, 5, .w1c, .none, 0⟩, ⟨4, 4, .w1c, .none, 0⟩, ⟨3, 3, .w1c, .none, 0⟩, ⟨2, 2, .w1c, .none, 0⟩, ⟨1, 1, .w1c, .none, 0⟩, ⟨0, 0, .w1c, .none, 0⟩], .single, []⟩,
    ⟨"SCN_MDR_CH_SPEED", 0xA0890, [], [⟨19, 0, .ro, .none, 0⟩], .single, []⟩,
    ⟨"SCN_MDR_CH_REF_LIM", 0xA0894, [], [⟨19, 0, .ro, .none, 0⟩], .single, []⟩,
    ⟨"SCN_MDR_CH_ID", 0xA0898, [], [⟨19, 0, .ro, .none, 0⟩], .single, []⟩,
    ⟨"SCN_MDR_CH_IQ", 0xA089C, [], [⟨19, 0, .ro, .none, 0⟩], .single, []⟩,
    ⟨"SCN_MDR_CH_VD", 0xA08A0, [], [⟨19, 0, .ro, .none, 0⟩], .single, []⟩,
    ⟨"SCN_MDR_CH_VQ", 0xA08A4, [], [⟨19, 0, .ro, .none, 0⟩], .single, []⟩,
    ⟨"SCN_MDR_CH_EANGLE", 0xA08A8, [], [⟨19, 0, .ro, .none, 0⟩], .single, []⟩,
    ⟨"SCN_MDR_CH_MVW_CNT", 0xA08AC, [], [⟨19, 0, .ro, .none, 0⟩], .single, []⟩,
    ⟨"SCN_MDR_CH_REV_CNT", 0xA08B0, [], [⟨19, 0, .ro, .none, 0⟩], .single, []⟩,
    ⟨"SCN_MDR_CH_FLT_CNT", 0xA08B4, [], [⟨19, 0, .ro, .none, 0⟩], .single, []⟩ ]

/-- SCN: its registers (Stn). -/
def scnStnRegs : List Reg := scnStnRegs0 ++ scnStnRegs1

/-- LPL: registers of a station die. -/
def lplStnRegs : List Reg :=
  [ ⟨"LPL_CFG", 0xB0000, [], [⟨5, 0, .rw, .fixed, 32⟩], .single, []⟩,
    ⟨"LPL_BEAM_PITCH_LO", 0xB0004, [], [⟨19, 0, .rw, .fixed, 338603⟩], .lo, []⟩,
    ⟨"LPL_BEAM_PITCH_HI", 0xB0008, [], [⟨19, 0, .rw, .fixed, 1⟩], .hi, []⟩,
    ⟨"LPL_ACTIVE_PX", 0xB000C, [], [⟨14, 0, .rw, .fixed, 16384⟩], .single, []⟩,
    ⟨"LPL_JOB", 0xB0010, [], [⟨1, 0, .rw, .banked, 0⟩], .single, []⟩,
    ⟨"LPL_REG_WEB", 0xB0014, [], [⟨19, 0, .rw, .live, 0⟩], .single, []⟩,
    ⟨"LPL_REG_SCAN", 0xB0018, [], [⟨19, 0, .rw, .live, 0⟩], .single, []⟩,
    ⟨"LPL_REG_LIM", 0xB001C, [], [⟨19, 10, .rw, .live, 256⟩, ⟨9, 0, .rw, .live, 32⟩], .single, []⟩,
    ⟨"LPL_SEG_CFG", 0xB0020, [], [⟨9, 0, .rw, .apply, 512⟩], .single, []⟩,
    ⟨"LPL_PLACE_TOL", 0xB0024, [], [⟨19, 0, .rw, .live, 16⟩], .single, []⟩,
    ⟨"LPL_CMD", 0xB0028, [], [⟨1, 1, .wo, .none, 0⟩, ⟨0, 0, .wo, .none, 0⟩], .single, []⟩,
    ⟨"LPL_STATUS", 0xB0030, [], [⟨4, 4, .w1c, .none, 0⟩, ⟨3, 3, .w1c, .none, 0⟩, ⟨2, 2, .ro, .none, 0⟩, ⟨1, 1, .w1c, .none, 0⟩, ⟨0, 0, .ro, .none, 0⟩], .single, []⟩,
    ⟨"LPL_RANGE", 0xB0034, [], [⟨11, 8, .ro, .none, 0⟩, ⟨7, 4, .ro, .none, 0⟩, ⟨3, 0, .ro, .none, 0⟩], .single, []⟩,
    ⟨"LPL_X0", 0xB0038, [(3, 0x4)], [⟨19, 0, .ro, .none, 0⟩], .single, []⟩,
    ⟨"LPL_SHIFT", 0xB0044, [], [⟨19, 0, .ro, .none, 0⟩], .single, []⟩,
    ⟨"LPL_BLANK_SWP_CNT", 0xB0048, [], [⟨19, 0, .ro, .none, 0⟩], .single, []⟩,
    ⟨"LPL_BYPASS_CNT", 0xB004C, [], [⟨19, 0, .ro, .none, 0⟩], .single, []⟩,
    ⟨"LPL_PLACE_FLAG_CNT", 0xB0050, [], [⟨19, 0, .ro, .none, 0⟩], .single, []⟩,
    ⟨"LPL_FACET_WEB", 0xB0080, [(10, 0x4)], [⟨19, 0, .rw, .apply, 0⟩], .single, []⟩,
    ⟨"LPL_FACET_SCAN", 0xB00C0, [(10, 0x4)], [⟨19, 0, .rw, .apply, 0⟩], .single, []⟩,
    ⟨"LPL_BEAM_DLY", 0xB0100, [(40, 0x4)], [⟨19, 0, .rw, .apply, 0⟩], .single, []⟩,
    ⟨"LPL_SEG", 0xB0400, [(10, 0x100), (33, 0x4)], [⟨19, 0, .rw, .apply, 0⟩], .single, []⟩,
    ⟨"LPL_LUT", 0xB0200, [(4, 0x40)], [⟨19, 14, .ro, .none, 0⟩, ⟨13, 7, .ro, .none, 0⟩, ⟨5, 0, .ro, .none, 0⟩], .single, []⟩,
    ⟨"LPL_LUT", 0xB0204, [(4, 0x40), (15, 0x4)], [⟨19, 14, .rw, .banked, 0⟩, ⟨13, 7, .rw, .banked, 0⟩, ⟨5, 0, .rw, .banked, 0⟩], .single, []⟩ ]

/-- CKS: registers of the hub and of every station. -/
def cksSharedRegs : List Reg :=
  [ ⟨"CKS_SYS_STATUS", 0x90000, [], [⟨4, 4, .w1c, .none, 0⟩, ⟨3, 3, .w1c, .none, 0⟩, ⟨2, 2, .ro, .none, 0⟩, ⟨1, 1, .ro, .none, 1⟩, ⟨0, 0, .ro, .none, 0⟩], .single, []⟩,
    ⟨"CKS_SYS_LOST_CNT", 0x90004, [], [⟨19, 0, .ro, .none, 0⟩], .single, []⟩,
    ⟨"CKS_SYS_CMD", 0x90008, [], [⟨0, 0, .wo, .none, 0⟩], .single, []⟩ ]

/-- CKS: registers of a station die. -/
def cksStnRegs : List Reg :=
  [ ⟨"CKS_PX_CFG", 0x90100, [], [⟨3, 3, .rw, .live, 0⟩, ⟨2, 2, .rw, .fixed, 1⟩, ⟨1, 0, .rw, .fixed, 2⟩], .single, []⟩,
    ⟨"CKS_PX_STATUS", 0x9010C, [], [⟨5, 5, .w1c, .none, 0⟩, ⟨4, 4, .w1c, .none, 0⟩, ⟨3, 3, .w1c, .none, 0⟩, ⟨2, 2, .ro, .none, 0⟩, ⟨1, 1, .ro, .none, 1⟩, ⟨0, 0, .ro, .none, 0⟩], .single, []⟩,
    ⟨"CKS_PX_SEED", 0x90104, [], [⟨19, 0, .rw, .live, 370085⟩], .single, []⟩,
    ⟨"CKS_PX_RETUNE", 0x90108, [], [⟨5, 0, .rw, .live, 50⟩], .single, []⟩,
    ⟨"CKS_PX_FW_LO", 0x90110, [], [⟨19, 0, .ro, .none, 0⟩], .single, []⟩,
    ⟨"CKS_PX_FW_HI", 0x90114, [], [⟨7, 0, .ro, .none, 0⟩], .single, []⟩,
    ⟨"CKS_PX_PDIV", 0x90118, [], [⟨8, 0, .ro, .none, 0⟩], .single, []⟩,
    ⟨"CKS_PX_FREQ", 0x9011C, [], [⟨19, 0, .ro, .none, 0⟩], .single, []⟩,
    ⟨"CKS_PX_ERR_EST", 0x90120, [], [⟨19, 0, .ro, .none, 0⟩], .single, []⟩,
    ⟨"CKS_PX_LOST_CNT", 0x90124, [], [⟨19, 0, .ro, .none, 0⟩], .single, []⟩,
    ⟨"CKS_PX_RELOCK_CNT", 0x90128, [], [⟨19, 10, .ro, .none, 0⟩, ⟨9, 0, .ro, .none, 0⟩], .single, []⟩,
    ⟨"CKS_PX_CMD", 0x9012C, [], [⟨1, 1, .wo, .none, 0⟩, ⟨0, 0, .wo, .none, 0⟩], .single, []⟩,
    ⟨"CKS_PX_LIN_SUM_LO", 0x90130, [], [⟨19, 0, .ro, .none, 0⟩], .lo, []⟩,
    ⟨"CKS_PX_LIN_SUM_HI", 0x90134, [], [⟨19, 0, .ro, .none, 0⟩], .hi, []⟩,
    ⟨"CKS_FACET_TRIM", 0x90140, [(10, 0x4)], [⟨19, 0, .rw, .apply, 0⟩], .single, []⟩,
    ⟨"CKS_FACET_AUTO", 0x90180, [(10, 0x4)], [⟨19, 0, .ro, .none, 0⟩], .single, []⟩,
    ⟨"CKS_LIN", 0x90400, [(256, 0x4)], [⟨19, 0, .rw, .apply, 65536⟩], .single, []⟩ ]

/-- LSR: registers of a station die. -/
def lsrStnRegs : List Reg :=
  [ ⟨"LSR_CFG", 0xC0000, [], [⟨11, 6, .rw, .fixed, 0⟩, ⟨1, 0, .rw, .fixed, 0⟩], .single, []⟩,
    ⟨"LSR_STATUS", 0xC0004, [], [⟨13, 13, .w1c, .none, 0⟩, ⟨12, 12, .w1c, .none, 0⟩, ⟨11, 11, .w1c, .none, 0⟩, ⟨10, 10, .w1c, .none, 0⟩, ⟨9, 9, .w1c, .none, 0⟩, ⟨8, 8, .w1c, .none, 0⟩, ⟨7, 7, .w1c, .none, 0⟩, ⟨6, 6, .w1c, .none, 0⟩, ⟨5, 5, .ro, .none, 0⟩, ⟨4, 4, .ro, .none, 0⟩, ⟨3, 3, .ro, .none, 0⟩, ⟨2, 2, .ro, .none, 0⟩, ⟨1, 1, .ro, .none, 1⟩, ⟨0, 0, .ro, .none, 0⟩], .single, []⟩,
    ⟨"LSR_CMD", 0xC0008, [], [⟨3, 3, .wo, .none, 0⟩, ⟨2, 2, .wo, .none, 0⟩, ⟨1, 1, .wo, .none, 0⟩, ⟨0, 0, .wo, .none, 0⟩], .single, []⟩,
    ⟨"LSR_TEST", 0xC000C, [], [⟨1, 0, .rw, .live, 0⟩], .single, []⟩,
    ⟨"LSR_WD", 0xC0010, [], [⟨19, 8, .rw, .live, 64⟩, ⟨7, 0, .rw, .live, 20⟩], .single, []⟩,
    ⟨"LSR_WRITE_REENTRY_TIME", 0xC0014, [], [⟨19, 0, .rw, .live, 1000⟩], .single, []⟩,
    ⟨"LSR_TRAIN_TMO", 0xC0018, [], [⟨19, 0, .rw, .live, 10⟩], .single, []⟩,
    ⟨"LSR_APC_CFG", 0xC001C, [], [⟨19, 15, .rw, .fixed, 1⟩, ⟨14, 10, .rw, .fixed, 0⟩, ⟨9, 6, .rw, .live, 2⟩, ⟨5, 0, .rw, .live, 8⟩], .single, []⟩,
    ⟨"LSR_APC_LVL", 0xC0020, [], [⟨19, 16, .rw, .live, 8⟩, ⟨11, 0, .rw, .live, 512⟩], .single, []⟩,
    ⟨"LSR_APC_DLY", 0xC0024, [], [⟨19, 0, .rw, .live, 2000⟩], .single, []⟩,
    ⟨"LSR_DRV_MAX", 0xC0028, [], [⟨11, 0, .rw, .fixed, 4095⟩], .single, []⟩,
    ⟨"LSR_WD_CNT", 0xC0040, [], [⟨19, 0, .ro, .none, 0⟩], .single, []⟩,
    ⟨"LSR_DRV_SAFEOFF_CNT", 0xC0044, [], [⟨19, 0, .ro, .none, 0⟩], .single, []⟩,
    ⟨"LSR_FORBID_SWP_CNT", 0xC0048, [], [⟨19, 0, .ro, .none, 0⟩], .single, []⟩,
    ⟨"LSR_TRAIN_CNT", 0xC004C, [], [⟨19, 10, .ro, .none, 0⟩, ⟨9, 0, .ro, .none, 0⟩], .single, []⟩,
    ⟨"LSR_SWEEP_SEQ", 0xC0050, [], [⟨7, 0, .ro, .none, 0⟩], .single, []⟩,
    ⟨"LSR_APC_SET", 0xC0100, [(40, 0x4)], [⟨19, 0, .rw, .live, 262144⟩], .single, []⟩,
    ⟨"LSR_APC_MEAS", 0xC0200, [(40, 0x4)], [⟨19, 0, .ro, .none, 0⟩], .single, []⟩,
    ⟨"LSR_DRV", 0xC0300, [(40, 0x4)], [⟨11, 0, .rw, .live, 0⟩], .single, []⟩,
    ⟨"LSR_PWR_LVL", 0xC0400, [(64, 0x4)], [⟨11, 0, .rw, .fixed, 0⟩], .single, []⟩ ]

/-- RGC: registers of the hub die. -/
def rgcHubRegs : List Reg :=
  [ ⟨"RGC_CTRL", 0xC0000, [], [⟨7, 7, .rw, .live, 0⟩, ⟨6, 6, .rw, .live, 0⟩, ⟨5, 5, .rw, .live, 0⟩, ⟨4, 4, .rw, .live, 0⟩, ⟨2, 0, .rw, .banked, 0⟩], .single, []⟩,
    ⟨"RGC_LOOP", 0xC0004, [], [⟨19, 15, .rw, .live, 16⟩, ⟨14, 8, .rw, .live, 8⟩, ⟨7, 4, .rw, .live, 4⟩], .single, []⟩,
    ⟨"RGC_WIN", 0xC0008, [], [⟨11, 8, .rw, .live, 4⟩, ⟨7, 0, .rw, .live, 8⟩], .single, []⟩,
    ⟨"RGC_STEP", 0xC000C, [], [⟨19, 10, .rw, .live, 64⟩, ⟨9, 0, .rw, .live, 64⟩], .single, []⟩,
    ⟨"RGC_OOT", 0xC0010, [], [⟨19, 0, .rw, .live, 16384⟩], .single, []⟩,
    ⟨"RGC_STATUS", 0xC0014, [], [⟨4, 4, .w1c, .none, 0⟩, ⟨3, 3, .w1c, .none, 0⟩, ⟨2, 2, .w1c, .none, 0⟩, ⟨1, 1, .w1c, .none, 0⟩, ⟨0, 0, .ro, .none, 0⟩], .single, []⟩,
    ⟨"RGC_CMD", 0xC0018, [], [⟨2, 2, .wo, .none, 0⟩, ⟨1, 1, .wo, .none, 0⟩, ⟨0, 0, .wo, .none, 0⟩], .single, []⟩,
    ⟨"RGC_SENS_CFG", 0xC0020, [(8, 0x4)], [⟨15, 8, .rw, .live, 0⟩, ⟨7, 4, .rw, .fixed, 4⟩, ⟨1, 1, .rw, .fixed, 0⟩, ⟨0, 0, .rw, .fixed, 0⟩], .single, []⟩,
    ⟨"RGC_SENS_POS_LO", 0xC0040, [(8, 0x8)], [⟨19, 0, .rw, .fixed, 0⟩], .lo, []⟩,
    ⟨"RGC_SENS_POS_HI", 0xC0044, [(8, 0x8)], [⟨19, 0, .rw, .fixed, 0⟩], .hi, []⟩,
    ⟨"RGC_MARK_W", 0xC0100, [(7, 0x10), (3, 0x4)], [⟨19, 0, .rw, .banked, 0⟩], .single, []⟩,
    ⟨"RGC_STR_CFG", 0xC0180, [], [⟨19, 14, .rw, .fixed, 0⟩, ⟨13, 8, .rw, .live, 10⟩, ⟨7, 0, .rw, .live, 50⟩], .single, []⟩,
    ⟨"RGC_STR_REF", 0xC0184, [], [⟨19, 0, .rw, .live, 0⟩], .single, []⟩,
    ⟨"RGC_STR_GAIN", 0xC0190, [(7, 0x4)], [⟨19, 0, .rw, .live, 0⟩], .single, []⟩,
    ⟨"RGC_CORR_WEB", 0xC0200, [(7, 0x20)], [⟨19, 0, .rw, .live, 0⟩], .single, []⟩,
    ⟨"RGC_CORR_SCAN", 0xC0204, [(7, 0x20)], [⟨19, 0, .rw, .live, 0⟩], .single, []⟩,
    ⟨"RGC_ERR_WEB", 0xC0208, [(7, 0x20)], [⟨19, 0, .ro, .none, 0⟩], .single, []⟩,
    ⟨"RGC_ERR_SCAN", 0xC020C, [(7, 0x20)], [⟨19, 0, .ro, .none, 0⟩], .single, []⟩,
    ⟨"RGC_SET_CNT", 0xC0210, [(7, 0x20)], [⟨19, 0, .ro, .none, 0⟩], .single, []⟩,
    ⟨"RGC_INV_CNT", 0xC0214, [(7, 0x20)], [⟨19, 0, .ro, .none, 0⟩], .single, []⟩,
    ⟨"RGC_STATE", 0xC0218, [(7, 0x20)], [⟨8, 8, .ro, .none, 0⟩, ⟨7, 7, .ro, .none, 0⟩, ⟨6, 0, .ro, .none, 0⟩], .single, []⟩,
    ⟨"RGC_RAW_W0", 0xC0300, [], [⟨19, 0, .ro, .none, 0⟩], .single, []⟩,
    ⟨"RGC_RAW_W1", 0xC0304, [], [⟨19, 17, .ro, .none, 0⟩, ⟨16, 14, .ro, .none, 0⟩, ⟨13, 11, .ro, .none, 0⟩], .single, []⟩,
    ⟨"RGC_RAW_W2", 0xC0308, [], [⟨19, 0, .ro, .none, 0⟩], .single, []⟩,
    ⟨"RGC_RAW_W3", 0xC030C, [], [⟨19, 0, .ro, .none, 0⟩], .single, []⟩,
    ⟨"RGC_RAW_W4", 0xC0310, [], [⟨19, 0, .ro, .none, 0⟩], .single, []⟩,
    ⟨"RGC_RAW_LEVEL", 0xC0314, [], [⟨8, 0, .ro, .none, 0⟩], .single, []⟩,
    ⟨"RGC_RAW_LOST", 0xC0318, [], [⟨19, 0, .ro, .none, 0⟩], .single, []⟩,
    ⟨"RGC_DIAG_DROP", 0xC031C, [], [⟨19, 0, .ro, .none, 0⟩], .single, []⟩ ]

end Sys2Proof.Machine
end

