-- ==== Sys2Proof/Machine/RegTabB.lean ====
section
/-! DEFINITION. The register tables of the chapters on loops, electrostatics, motors, axes, thermal, faults, memory, recorder, image, Bay and ports
(R276, R289, R290, R312, R313, R331, R342, R360, R361, R369, R381, R382, R402, R413, R432, R433, R434). -/

namespace Sys2Proof.Machine

/-- LPE: registers of the hub and of every station. -/
def lpeSharedRegs : List Reg :=
  [ ⟨"LPE_STATUS", 0x30000, [], [⟨0, 0, .w1c, .none, 0⟩], .single, []⟩,
    ⟨"LPE_LOAD", 0x30004, [], [⟨3, 0, .ro, .none, 0⟩], .single, []⟩,
    ⟨"LPE_FAULT", 0x30008, [(3, 0x4)], [⟨19, 0, .ro, .none, 0⟩], .single, []⟩,
    ⟨"LPE_CMD", 0x30014, [], [⟨0, 0, .wo, .none, 0⟩], .single, []⟩ ]

/-- LPE: registers of the hub die. -/
def lpeHubRegs : List Reg :=
  [ ⟨"LPE_SLOT_CFG", 0x30100, [(48, 0x80)], [⟨19, 18, .rw, .fixed, 0⟩, ⟨17, 16, .rw, .fixed, 0⟩, ⟨15, 15, .rw, .fixed, 0⟩, ⟨14, 14, .rw, .fixed, 0⟩, ⟨13, 13, .rw, .fixed, 0⟩, ⟨12, 11, .rw, .fixed, 0⟩, ⟨10, 9, .rw, .fixed, 1⟩, ⟨8, 8, .rw, .fixed, 0⟩, ⟨5, 0, .rw, .fixed, 0⟩], .single, []⟩,
    ⟨"LPE_SLOT_SRC", 0x30104, [(48, 0x80)], [⟨19, 14, .rw, .fixed, 63⟩, ⟨13, 8, .rw, .fixed, 62⟩, ⟨7, 5, .rw, .fixed, 0⟩], .single, []⟩,
    ⟨"LPE_SLOT_PERIOD", 0x30108, [(48, 0x80)], [⟨19, 0, .rw, .fixed, 1000⟩], .single, []⟩,
    ⟨"LPE_SLOT_TGT", 0x3010C, [(48, 0x80)], [⟨19, 0, .rw, .live, 0⟩], .single, []⟩,
    ⟨"LPE_SLOT_SLOPE", 0x30110, [(48, 0x80)], [⟨19, 0, .rw, .live, 0⟩], .single, []⟩,
    ⟨"LPE_SLOT_KP", 0x30114, [(48, 0x80)], [⟨19, 0, .rw, .live, 0⟩], .single, []⟩,
    ⟨"LPE_SLOT_KI", 0x30118, [(48, 0x80)], [⟨19, 0, .rw, .live, 0⟩], .single, []⟩,
    ⟨"LPE_SLOT_KFF", 0x3011C, [(48, 0x80)], [⟨19, 0, .rw, .live, 0⟩], .single, []⟩,
    ⟨"LPE_SLOT_LIM_HI", 0x30120, [(48, 0x80)], [⟨19, 0, .rw, .live, 0⟩], .single, []⟩,
    ⟨"LPE_SLOT_LIM_LO", 0x30124, [(48, 0x80)], [⟨19, 0, .rw, .live, 0⟩], .single, []⟩,
    ⟨"LPE_SLOT_HW_HI", 0x30128, [(48, 0x80)], [⟨19, 0, .rw, .fixed, 0⟩], .single, []⟩,
    ⟨"LPE_SLOT_HW_LO", 0x3012C, [(48, 0x80)], [⟨19, 0, .rw, .fixed, 0⟩], .single, []⟩,
    ⟨"LPE_SLOT_SAFE", 0x30130, [(48, 0x80)], [⟨19, 0, .rw, .fixed, 0⟩], .single, []⟩,
    ⟨"LPE_SLOT_KM", 0x30134, [(48, 0x80)], [⟨19, 0, .rw, .fixed, 65536⟩], .single, []⟩,
    ⟨"LPE_SLOT_ALPHA", 0x30138, [(48, 0x80)], [⟨19, 0, .rw, .fixed, 0⟩], .single, []⟩,
    ⟨"LPE_SLOT_PLAUS", 0x3013C, [(48, 0x80)], [⟨19, 12, .rw, .live, 8⟩, ⟨11, 0, .rw, .live, 16⟩], .single, []⟩,
    ⟨"LPE_SLOT_RES_WIN", 0x30140, [(48, 0x80)], [⟨19, 0, .rw, .live, 524287⟩], .single, []⟩,
    ⟨"LPE_SLOT_CMD", 0x30144, [(48, 0x80)], [⟨2, 2, .wo, .none, 0⟩, ⟨1, 1, .wo, .none, 0⟩, ⟨0, 0, .wo, .none, 0⟩], .single, []⟩,
    ⟨"LPE_SLOT_STATUS", 0x30148, [(48, 0x80)], [⟨8, 8, .w1c, .none, 0⟩, ⟨7, 7, .w1c, .none, 0⟩, ⟨6, 6, .w1c, .none, 0⟩, ⟨5, 5, .ro, .none, 0⟩, ⟨4, 4, .ro, .none, 0⟩, ⟨3, 3, .ro, .none, 0⟩, ⟨2, 0, .ro, .none, 0⟩], .single, []⟩,
    ⟨"LPE_SLOT_SETPT", 0x30150, [(48, 0x80)], [⟨19, 0, .ro, .none, 0⟩], .single, []⟩,
    ⟨"LPE_SLOT_FB", 0x30154, [(48, 0x80)], [⟨19, 0, .ro, .none, 0⟩], .single, []⟩,
    ⟨"LPE_SLOT_OUT", 0x30158, [(48, 0x80)], [⟨19, 0, .ro, .none, 0⟩], .single, []⟩,
    ⟨"LPE_SLOT_ERR", 0x3015C, [(48, 0x80)], [⟨19, 0, .ro, .none, 0⟩], .single, []⟩,
    ⟨"LPE_SLOT_RESID", 0x30160, [(48, 0x80)], [⟨19, 0, .ro, .none, 0⟩], .single, []⟩,
    ⟨"LPE_SLOT_OVR_CNT", 0x30164, [(48, 0x80)], [⟨19, 0, .ro, .none, 0⟩], .single, []⟩,
    ⟨"LPE_SLOT_SAT_CNT", 0x30168, [(48, 0x80)], [⟨19, 0, .ro, .none, 0⟩], .single, []⟩,
    ⟨"LPE_SLOT_FLT_CNT", 0x3016C, [(48, 0x80)], [⟨19, 0, .ro, .none, 0⟩], .single, []⟩,
    ⟨"LPE_SLOT_SMP_CNT", 0x30170, [(48, 0x80)], [⟨19, 0, .ro, .none, 0⟩], .single, []⟩,
    ⟨"LPE_GAIN", 0x32000, [(48, 0x100), (33, 0x4)], [⟨19, 0, .rw, .fixed, 262144⟩], .single, []⟩ ]

/-- LPE: registers of a station die. -/
def lpeStnRegs : List Reg :=
  [ ⟨"LPE_SLOT_CFG", 0x30100, [(24, 0x80)], [⟨19, 18, .rw, .fixed, 0⟩, ⟨17, 16, .rw, .fixed, 0⟩, ⟨15, 15, .rw, .fixed, 0⟩, ⟨14, 14, .rw, .fixed, 0⟩, ⟨13, 13, .rw, .fixed, 0⟩, ⟨12, 11, .rw, .fixed, 0⟩, ⟨10, 9, .rw, .fixed, 1⟩, ⟨8, 8, .rw, .fixed, 0⟩, ⟨5, 0, .rw, .fixed, 0⟩], .single, []⟩,
    ⟨"LPE_SLOT_SRC", 0x30104, [(24, 0x80)], [⟨19, 14, .rw, .fixed, 63⟩, ⟨13, 8, .rw, .fixed, 62⟩, ⟨7, 5, .rw, .fixed, 0⟩], .single, []⟩,
    ⟨"LPE_SLOT_PERIOD", 0x30108, [(24, 0x80)], [⟨19, 0, .rw, .fixed, 1000⟩], .single, []⟩,
    ⟨"LPE_SLOT_TGT", 0x3010C, [(24, 0x80)], [⟨19, 0, .rw, .live, 0⟩], .single, []⟩,
    ⟨"LPE_SLOT_SLOPE", 0x30110, [(24, 0x80)], [⟨19, 0, .rw, .live, 0⟩], .single, []⟩,
    ⟨"LPE_SLOT_KP", 0x30114, [(24, 0x80)], [⟨19, 0, .rw, .live, 0⟩], .single, []⟩,
    ⟨"LPE_SLOT_KI", 0x30118, [(24, 0x80)], [⟨19, 0, .rw, .live, 0⟩], .single, []⟩,
    ⟨"LPE_SLOT_KFF", 0x3011C, [(24, 0x80)], [⟨19, 0, .rw, .live, 0⟩], .single, []⟩,
    ⟨"LPE_SLOT_LIM_HI", 0x30120, [(24, 0x80)], [⟨19, 0, .rw, .live, 0⟩], .single, []⟩,
    ⟨"LPE_SLOT_LIM_LO", 0x30124, [(24, 0x80)], [⟨19, 0, .rw, .live, 0⟩], .single, []⟩,
    ⟨"LPE_SLOT_HW_HI", 0x30128, [(24, 0x80)], [⟨19, 0, .rw, .fixed, 0⟩], .single, []⟩,
    ⟨"LPE_SLOT_HW_LO", 0x3012C, [(24, 0x80)], [⟨19, 0, .rw, .fixed, 0⟩], .single, []⟩,
    ⟨"LPE_SLOT_SAFE", 0x30130, [(24, 0x80)], [⟨19, 0, .rw, .fixed, 0⟩], .single, []⟩,
    ⟨"LPE_SLOT_KM", 0x30134, [(24, 0x80)], [⟨19, 0, .rw, .fixed, 65536⟩], .single, []⟩,
    ⟨"LPE_SLOT_ALPHA", 0x30138, [(24, 0x80)], [⟨19, 0, .rw, .fixed, 0⟩], .single, []⟩,
    ⟨"LPE_SLOT_PLAUS", 0x3013C, [(24, 0x80)], [⟨19, 12, .rw, .live, 8⟩, ⟨11, 0, .rw, .live, 16⟩], .single, []⟩,
    ⟨"LPE_SLOT_RES_WIN", 0x30140, [(24, 0x80)], [⟨19, 0, .rw, .live, 524287⟩], .single, []⟩,
    ⟨"LPE_SLOT_CMD", 0x30144, [(24, 0x80)], [⟨2, 2, .wo, .none, 0⟩, ⟨1, 1, .wo, .none, 0⟩, ⟨0, 0, .wo, .none, 0⟩], .single, []⟩,
    ⟨"LPE_SLOT_STATUS", 0x30148, [(24, 0x80)], [⟨8, 8, .w1c, .none, 0⟩, ⟨7, 7, .w1c, .none, 0⟩, ⟨6, 6, .w1c, .none, 0⟩, ⟨5, 5, .ro, .none, 0⟩, ⟨4, 4, .ro, .none, 0⟩, ⟨3, 3, .ro, .none, 0⟩, ⟨2, 0, .ro, .none, 0⟩], .single, []⟩,
    ⟨"LPE_SLOT_SETPT", 0x30150, [(24, 0x80)], [⟨19, 0, .ro, .none, 0⟩], .single, []⟩,
    ⟨"LPE_SLOT_FB", 0x30154, [(24, 0x80)], [⟨19, 0, .ro, .none, 0⟩], .single, []⟩,
    ⟨"LPE_SLOT_OUT", 0x30158, [(24, 0x80)], [⟨19, 0, .ro, .none, 0⟩], .single, []⟩,
    ⟨"LPE_SLOT_ERR", 0x3015C, [(24, 0x80)], [⟨19, 0, .ro, .none, 0⟩], .single, []⟩,
    ⟨"LPE_SLOT_RESID", 0x30160, [(24, 0x80)], [⟨19, 0, .ro, .none, 0⟩], .single, []⟩,
    ⟨"LPE_SLOT_OVR_CNT", 0x30164, [(24, 0x80)], [⟨19, 0, .ro, .none, 0⟩], .single, []⟩,
    ⟨"LPE_SLOT_SAT_CNT", 0x30168, [(24, 0x80)], [⟨19, 0, .ro, .none, 0⟩], .single, []⟩,
    ⟨"LPE_SLOT_FLT_CNT", 0x3016C, [(24, 0x80)], [⟨19, 0, .ro, .none, 0⟩], .single, []⟩,
    ⟨"LPE_SLOT_SMP_CNT", 0x30170, [(24, 0x80)], [⟨19, 0, .ro, .none, 0⟩], .single, []⟩,
    ⟨"LPE_GAIN", 0x32000, [(24, 0x100), (33, 0x4)], [⟨19, 0, .rw, .fixed, 262144⟩], .single, []⟩ ]

/-- HVC: registers of the hub and of every station. -/
def hvcSharedRegs : List Reg :=
  [ ⟨"HVC_STATUS", 0x40004, [], [⟨7, 5, .ro, .none, 0⟩, ⟨4, 4, .w1c, .none, 0⟩, ⟨3, 3, .w1c, .none, 0⟩, ⟨2, 2, .ro, .none, 0⟩, ⟨1, 1, .ro, .none, 0⟩, ⟨0, 0, .ro, .none, 1⟩], .single, []⟩,
    ⟨"HVC_DIS", 0x40080, [], [⟨19, 12, .rw, .live, 50⟩, ⟨11, 0, .rw, .live, 500⟩], .single, []⟩ ]

/-- HVC: registers of the hub die. -/
def hvcHubRegs : List Reg :=
  [ ⟨"HVC_CH_CFG", 0x40010, [(8, 0x4)], [⟨13, 2, .rw, .fixed, 200⟩, ⟨1, 0, .rw, .fixed, 0⟩], .single, []⟩,
    ⟨"HVC_CH_CODE", 0x40040, [(8, 0x4)], [⟨11, 0, .ro, .none, 0⟩], .single, []⟩,
    ⟨"HVC_CH_FB", 0x40060, [(8, 0x4)], [⟨19, 0, .ro, .none, 0⟩], .single, []⟩ ]

/-- HVC: registers of a station die. -/
def hvcStnRegs : List Reg :=
  [ ⟨"HVC_CTRL", 0x40000, [], [⟨3, 0, .rw, .fixed, 1⟩], .single, []⟩,
    ⟨"HVC_CH_CFG", 0x40010, [(4, 0x4)], [⟨13, 2, .rw, .fixed, 200⟩, ⟨1, 0, .rw, .fixed, 0⟩], .single, []⟩,
    ⟨"HVC_CH_CODE", 0x40040, [(4, 0x4)], [⟨11, 0, .ro, .none, 0⟩], .single, []⟩,
    ⟨"HVC_CH_FB", 0x40060, [(4, 0x4)], [⟨19, 0, .ro, .none, 0⟩], .single, []⟩,
    ⟨"HVC_CHG_ARC", 0x40084, [], [⟨19, 0, .rw, .live, 100000⟩], .single, []⟩ ]

/-- FSR: registers of the hub die. -/
def fsrHubRegs : List Reg :=
  [ ⟨"FSR_CTRL", 0xF4000, [], [⟨0, 0, .rw, .live, 0⟩], .single, []⟩,
    ⟨"FSR_STATUS", 0xF4004, [], [⟨7, 7, .w1c, .none, 0⟩, ⟨6, 6, .w1c, .none, 0⟩, ⟨5, 5, .w1c, .none, 0⟩, ⟨4, 4, .w1c, .none, 0⟩, ⟨3, 3, .ro, .none, 0⟩, ⟨2, 0, .ro, .none, 0⟩], .single, []⟩,
    ⟨"FSR_CMD", 0xF4008, [], [⟨4, 4, .wo, .none, 0⟩, ⟨3, 3, .wo, .none, 0⟩, ⟨2, 2, .wo, .none, 0⟩, ⟨1, 1, .wo, .none, 0⟩, ⟨0, 0, .wo, .none, 0⟩], .single, []⟩,
    ⟨"FSR_HTR_CFG", 0xF4010, [(4, 0x4)], [⟨17, 12, .rw, .fixed, 0⟩, ⟨11, 9, .rw, .fixed, 0⟩, ⟨8, 8, .rw, .fixed, 0⟩, ⟨1, 0, .rw, .fixed, 0⟩], .single, []⟩,
    ⟨"FSR_BAND", 0xF4020, [(4, 0x4)], [⟨19, 10, .rw, .live, 50⟩, ⟨9, 0, .rw, .live, 50⟩], .single, []⟩,
    ⟨"FSR_STBY_TGT", 0xF4030, [(4, 0x4)], [⟨19, 0, .rw, .live, 0⟩], .single, []⟩,
    ⟨"FSR_TEMP", 0xF4040, [(6, 0x4)], [⟨19, 0, .ro, .none, 0⟩], .single, []⟩,
    ⟨"FSR_TMAX", 0xF4060, [], [⟨11, 0, .rw, .fixed, 2500⟩], .single, []⟩,
    ⟨"FSR_GUARD", 0xF4064, [], [⟨7, 0, .rw, .live, 200⟩], .single, []⟩,
    ⟨"FSR_READY", 0xF4068, [], [⟨19, 0, .rw, .live, 2000⟩], .single, []⟩,
    ⟨"FSR_IDLE", 0xF406C, [], [⟨19, 0, .rw, .live, 300⟩], .single, []⟩,
    ⟨"FSR_MAINS_VRMS", 0xF4070, [], [⟨19, 0, .ro, .none, 0⟩], .single, []⟩,
    ⟨"FSR_CUE_IGN_CNT", 0xF4074, [], [⟨19, 0, .ro, .none, 0⟩], .single, []⟩,
    ⟨"FSR_PA", 0xF4100, [(33, 0x4)], [⟨19, 0, .rw, .fixed, 0⟩], .single, [524288, 434437, 409700, 391707, 376899, 363991, 352350, 341612, 331544, 321988, 312826, 303969, 295347, 286901, 278581, 270343, 262144, 253945, 245707, 237387, 228941, 220319, 211462, 202300, 192744, 182676, 171938, 160297, 147389, 132581, 114588, 89851, 0]⟩ ]

/-- MDR: registers of the hub and of every station. -/
def mdrSharedRegs : List Reg :=
  [ ⟨"MDR_STATUS", 0x50000, [], [⟨7, 7, .w1c, .none, 0⟩, ⟨6, 6, .w1c, .none, 0⟩, ⟨5, 5, .w1c, .none, 0⟩, ⟨4, 4, .w1c, .none, 0⟩, ⟨3, 3, .ro, .none, 0⟩, ⟨2, 2, .ro, .none, 0⟩, ⟨1, 1, .ro, .none, 0⟩, ⟨0, 0, .ro, .none, 0⟩], .single, []⟩,
    ⟨"MDR_BUS_V", 0x50004, [], [⟨19, 0, .ro, .none, 0⟩], .single, []⟩,
    ⟨"MDR_BUS_NOM", 0x50008, [], [⟨19, 0, .rw, .fixed, 5600⟩], .single, []⟩,
    ⟨"MDR_BUS_UV", 0x5000C, [], [⟨19, 0, .rw, .live, 4200⟩], .single, []⟩,
    ⟨"MDR_BUS_TRIP", 0x50010, [], [⟨19, 0, .rw, .fixed, 7800⟩], .single, []⟩,
    ⟨"MDR_BUS_P", 0x50028, [], [⟨19, 0, .ro, .none, 0⟩], .single, []⟩,
    ⟨"MDR_CMD", 0x5002C, [], [⟨1, 1, .wo, .none, 0⟩, ⟨0, 0, .wo, .none, 0⟩], .single, []⟩,
    ⟨"MDR_CLAMP_CNT", 0x50030, [], [⟨19, 0, .ro, .none, 0⟩], .single, []⟩ ]

/-- MDR: the chopper of the hub (R305). -/
def mdrChopRegs : List Reg :=
  [ ⟨"MDR_CHOP_ON", 0x50014, [], [⟨19, 0, .rw, .live, 6800⟩], .single, []⟩,
    ⟨"MDR_CHOP_OFF", 0x50018, [], [⟨19, 0, .rw, .live, 6500⟩], .single, []⟩,
    ⟨"MDR_CHOP_DET", 0x5001C, [], [⟨19, 10, .rw, .live, 50⟩, ⟨9, 0, .rw, .live, 100⟩], .single, []⟩,
    ⟨"MDR_CHOP_IMIN", 0x50020, [], [⟨19, 0, .rw, .live, 50⟩], .single, []⟩,
    ⟨"MDR_P_DISS", 0x50024, [], [⟨19, 0, .rw, .live, 0⟩], .single, []⟩ ]

/-- MDR: the chopper registers of a station, whose fields read zero (R312). -/
def mdrNoChopRegs : List Reg :=
  [ ⟨"MDR_CHOP_ON", 0x50014, [], [], .single, []⟩, ⟨"MDR_CHOP_OFF", 0x50018, [], [], .single, []⟩,
    ⟨"MDR_CHOP_DET", 0x5001C, [], [], .single, []⟩, ⟨"MDR_CHOP_IMIN", 0x50020, [], [], .single, []⟩, ⟨"MDR_P_DISS", 0x50024, [], [], .single, []⟩ ]

/-- MDR: part 0 of its registers (Hub). -/
def mdrHubRegs0 : List Reg :=
  [ ⟨"MDR_CH_CFG", 0x50800, [(4, 0x800)], [⟨19, 17, .rw, .fixed, 2⟩, ⟨16, 15, .rw, .fixed, 0⟩, ⟨14, 13, .rw, .fixed, 0⟩, ⟨12, 9, .rw, .fixed, 3⟩, ⟨8, 8, .rw, .fixed, 1⟩, ⟨7, 7, .rw, .fixed, 0⟩, ⟨6, 6, .rw, .fixed, 0⟩], .single, []⟩,
    ⟨"MDR_CH_PWM", 0x50804, [(4, 0x800)], [⟨17, 11, .rw, .fixed, 20⟩, ⟨10, 0, .rw, .fixed, 500⟩], .single, []⟩,
    ⟨"MDR_CH_SMP", 0x50808, [(4, 0x800)], [⟨19, 10, .rw, .fixed, 500⟩, ⟨9, 0, .rw, .fixed, 200⟩], .single, []⟩,
    ⟨"MDR_CH_ENC", 0x5080C, [(4, 0x800)], [⟨19, 16, .rw, .fixed, 9⟩, ⟨15, 12, .rw, .fixed, 4⟩], .single, []⟩,
    ⟨"MDR_CH_CPR", 0x50810, [(4, 0x800)], [⟨19, 0, .rw, .fixed, 4096⟩], .single, []⟩,
    ⟨"MDR_CH_IFS", 0x50814, [(4, 0x800)], [⟨19, 0, .rw, .fixed, 1000⟩], .single, []⟩,
    ⟨"MDR_CH_ILIM", 0x50818, [(4, 0x800)], [⟨19, 0, .rw, .live, 393216⟩], .single, []⟩,
    ⟨"MDR_CH_OC", 0x5081C, [(4, 0x800)], [⟨19, 0, .rw, .fixed, 458752⟩], .single, []⟩,
    ⟨"MDR_CH_KP_I", 0x50820, [(4, 0x800)], [⟨19, 0, .rw, .live, 0⟩], .single, []⟩,
    ⟨"MDR_CH_KI_I", 0x50824, [(4, 0x800)], [⟨19, 0, .rw, .live, 0⟩], .single, []⟩,
    ⟨"MDR_CH_KP_S", 0x50828, [(4, 0x800)], [⟨19, 0, .rw, .live, 0⟩], .single, []⟩,
    ⟨"MDR_CH_KI_S", 0x5082C, [(4, 0x800)], [⟨19, 0, .rw, .live, 0⟩], .single, []⟩,
    ⟨"MDR_CH_SPD_DIV", 0x50830, [(4, 0x800)], [⟨3, 0, .rw, .fixed, 4⟩], .single, []⟩,
    ⟨"MDR_CH_SPD_MAX", 0x50834, [(4, 0x800)], [⟨19, 0, .rw, .fixed, 3000⟩], .single, []⟩,
    ⟨"MDR_CH_ACC_MAX", 0x50838, [(4, 0x800)], [⟨19, 0, .rw, .live, 1000⟩], .single, []⟩,
    ⟨"MDR_CH_DEC_MAX", 0x5083C, [(4, 0x800)], [⟨19, 0, .rw, .live, 1000⟩], .single, []⟩,
    ⟨"MDR_CH_ACC_FS", 0x50840, [(4, 0x800)], [⟨19, 0, .rw, .fixed, 10000⟩], .single, []⟩,
    ⟨"MDR_CH_FW", 0x50844, [(4, 0x800)], [⟨19, 10, .rw, .live, 950⟩, ⟨9, 0, .rw, .live, 64⟩], .single, []⟩,
    ⟨"MDR_CH_FW_MAX", 0x50848, [(4, 0x800)], [⟨19, 0, .rw, .live, 0⟩], .single, []⟩,
    ⟨"MDR_CH_REV_MAX", 0x5084C, [(4, 0x800)], [⟨19, 0, .rw, .live, 100⟩], .single, []⟩,
    ⟨"MDR_CH_CATCH", 0x50850, [(4, 0x800)], [⟨19, 12, .rw, .live, 20⟩, ⟨11, 0, .rw, .live, 10⟩], .single, []⟩,
    ⟨"MDR_CH_FOL", 0x50854, [(4, 0x800)], [⟨19, 12, .rw, .live, 50⟩, ⟨11, 0, .rw, .live, 200⟩], .single, []⟩,
    ⟨"MDR_CH_FOL_ANG", 0x50858, [(4, 0x800)], [⟨19, 0, .rw, .live, 1024⟩], .single, []⟩,
    ⟨"MDR_CH_STOP_DEC", 0x5085C, [(4, 0x800)], [⟨19, 0, .rw, .live, 1000⟩], .single, []⟩,
    ⟨"MDR_CH_HOLD", 0x50860, [(4, 0x800)], [⟨19, 0, .rw, .live, 500⟩], .single, []⟩,
    ⟨"MDR_CH_CIRC", 0x50864, [(4, 0x800)], [⟨19, 0, .rw, .fixed, 0⟩], .single, []⟩,
    ⟨"MDR_CH_POS_KP", 0x50868, [(4, 0x800)], [⟨19, 0, .rw, .live, 800⟩], .single, []⟩,
    ⟨"MDR_CH_REF_LEAD", 0x5086C, [(4, 0x800)], [⟨19, 0, .rw, .live, 50⟩], .single, []⟩,
    ⟨"MDR_CH_REF", 0x50880, [(4, 0x800)], [⟨19, 0, .rw, .live, 0⟩], .single, []⟩,
    ⟨"MDR_CH_CMD", 0x50884, [(4, 0x800)], [⟨3, 3, .wo, .none, 0⟩, ⟨2, 2, .wo, .none, 0⟩, ⟨1, 1, .wo, .none, 0⟩, ⟨0, 0, .wo, .none, 0⟩], .single, []⟩,
    ⟨"MDR_CH_STATUS", 0x50888, [(4, 0x800)], [⟨11, 10, .ro, .none, 0⟩, ⟨9, 9, .ro, .none, 0⟩, ⟨8, 8, .ro, .none, 0⟩, ⟨7, 7, .ro, .none, 0⟩, ⟨6, 6, .ro, .none, 0⟩, ⟨5, 5, .ro, .none, 0⟩, ⟨2, 0, .ro, .none, 0⟩], .single, []⟩,
    ⟨"MDR_CH_EVENT", 0x5088C, [(4, 0x800)], [⟨6, 6, .w1c, .none, 0⟩, ⟨5, 5, .w1c, .none, 0⟩, ⟨4, 4, .w1c, .none, 0⟩, ⟨3, 3, .w1c, .none, 0⟩, ⟨2, 2, .w1c, .none, 0⟩, ⟨1, 1, .w1c, .none, 0⟩, ⟨0, 0, .w1c, .none, 0⟩], .single, []⟩,
    ⟨"MDR_CH_SPEED", 0x50890, [(4, 0x800)], [⟨19, 0, .ro, .none, 0⟩], .single, []⟩,
    ⟨"MDR_CH_REF_LIM", 0x50894, [(4, 0x800)], [⟨19, 0, .ro, .none, 0⟩], .single, []⟩,
    ⟨"MDR_CH_ID", 0x50898, [(4, 0x800)], [⟨19, 0, .ro, .none, 0⟩], .single, []⟩,
    ⟨"MDR_CH_IQ", 0x5089C, [(4, 0x800)], [⟨19, 0, .ro, .none, 0⟩], .single, []⟩,
    ⟨"MDR_CH_VD", 0x508A0, [(4, 0x800)], [⟨19, 0, .ro, .none, 0⟩], .single, []⟩,
    ⟨"MDR_CH_VQ", 0x508A4, [(4, 0x800)], [⟨19, 0, .ro, .none, 0⟩], .single, []⟩,
    ⟨"MDR_CH_EANGLE", 0x508A8, [(4, 0x800)], [⟨19, 0, .ro, .none, 0⟩], .single, []⟩,
    ⟨"MDR_CH_MVW_CNT", 0x508AC, [(4, 0x800)], [⟨19, 0, .ro, .none, 0⟩], .single, []⟩ ]

/-- MDR: part 1 of its registers (Hub). -/
def mdrHubRegs1 : List Reg :=
  [ ⟨"MDR_CH_REV_CNT", 0x508B0, [(4, 0x800)], [⟨19, 0, .ro, .none, 0⟩], .single, []⟩,
    ⟨"MDR_CH_FLT_CNT", 0x508B4, [(4, 0x800)], [⟨19, 0, .ro, .none, 0⟩], .single, []⟩ ]

/-- MDR: its registers (Hub). -/
def mdrHubRegs : List Reg := mdrChopRegs ++ mdrHubRegs0 ++ mdrHubRegs1

/-- MDR: part 0 of its registers (Stn). -/
def mdrStnRegs0 : List Reg :=
  [ ⟨"MDR_CH_CFG", 0x50800, [], [⟨19, 17, .ro, .fixed, 3⟩, ⟨16, 15, .rw, .fixed, 0⟩, ⟨14, 13, .rw, .fixed, 0⟩, ⟨12, 9, .rw, .fixed, 3⟩, ⟨8, 8, .rw, .fixed, 1⟩, ⟨7, 7, .rw, .fixed, 0⟩, ⟨6, 6, .rw, .fixed, 0⟩], .single, []⟩,
    ⟨"MDR_CH_CFG", 0x51000, [], [⟨19, 17, .ro, .fixed, 4⟩, ⟨16, 15, .rw, .fixed, 0⟩, ⟨14, 13, .rw, .fixed, 0⟩, ⟨12, 9, .rw, .fixed, 3⟩, ⟨8, 8, .rw, .fixed, 1⟩, ⟨7, 7, .rw, .fixed, 0⟩, ⟨6, 6, .rw, .fixed, 0⟩], .single, []⟩,
    ⟨"MDR_CH_PWM", 0x50804, [(2, 0x800)], [⟨17, 11, .rw, .fixed, 20⟩, ⟨10, 0, .rw, .fixed, 500⟩], .single, []⟩,
    ⟨"MDR_CH_SMP", 0x50808, [(2, 0x800)], [⟨19, 10, .rw, .fixed, 500⟩, ⟨9, 0, .rw, .fixed, 200⟩], .single, []⟩,
    ⟨"MDR_CH_ENC", 0x5080C, [(2, 0x800)], [⟨19, 16, .rw, .fixed, 9⟩, ⟨15, 12, .rw, .fixed, 4⟩], .single, []⟩,
    ⟨"MDR_CH_CPR", 0x50810, [(2, 0x800)], [⟨19, 0, .rw, .fixed, 4096⟩], .single, []⟩,
    ⟨"MDR_CH_IFS", 0x50814, [(2, 0x800)], [⟨19, 0, .rw, .fixed, 1000⟩], .single, []⟩,
    ⟨"MDR_CH_ILIM", 0x50818, [(2, 0x800)], [⟨19, 0, .rw, .live, 393216⟩], .single, []⟩,
    ⟨"MDR_CH_OC", 0x5081C, [(2, 0x800)], [⟨19, 0, .rw, .fixed, 458752⟩], .single, []⟩,
    ⟨"MDR_CH_KP_I", 0x50820, [(2, 0x800)], [⟨19, 0, .rw, .live, 0⟩], .single, []⟩,
    ⟨"MDR_CH_KI_I", 0x50824, [(2, 0x800)], [⟨19, 0, .rw, .live, 0⟩], .single, []⟩,
    ⟨"MDR_CH_KP_S", 0x50828, [(2, 0x800)], [⟨19, 0, .rw, .live, 0⟩], .single, []⟩,
    ⟨"MDR_CH_KI_S", 0x5082C, [(2, 0x800)], [⟨19, 0, .rw, .live, 0⟩], .single, []⟩,
    ⟨"MDR_CH_SPD_DIV", 0x50830, [(2, 0x800)], [⟨3, 0, .rw, .fixed, 4⟩], .single, []⟩,
    ⟨"MDR_CH_SPD_MAX", 0x50834, [(2, 0x800)], [⟨19, 0, .rw, .fixed, 3000⟩], .single, []⟩,
    ⟨"MDR_CH_ACC_MAX", 0x50838, [(2, 0x800)], [⟨19, 0, .rw, .live, 1000⟩], .single, []⟩,
    ⟨"MDR_CH_DEC_MAX", 0x5083C, [(2, 0x800)], [⟨19, 0, .rw, .live, 1000⟩], .single, []⟩,
    ⟨"MDR_CH_ACC_FS", 0x50840, [(2, 0x800)], [⟨19, 0, .rw, .fixed, 10000⟩], .single, []⟩,
    ⟨"MDR_CH_FW", 0x50844, [(2, 0x800)], [⟨19, 10, .rw, .live, 950⟩, ⟨9, 0, .rw, .live, 64⟩], .single, []⟩,
    ⟨"MDR_CH_FW_MAX", 0x50848, [(2, 0x800)], [⟨19, 0, .rw, .live, 0⟩], .single, []⟩,
    ⟨"MDR_CH_REV_MAX", 0x5084C, [(2, 0x800)], [⟨19, 0, .rw, .live, 100⟩], .single, []⟩,
    ⟨"MDR_CH_CATCH", 0x50850, [(2, 0x800)], [⟨19, 12, .rw, .live, 20⟩, ⟨11, 0, .rw, .live, 10⟩], .single, []⟩,
    ⟨"MDR_CH_FOL", 0x50854, [(2, 0x800)], [⟨19, 12, .rw, .live, 50⟩, ⟨11, 0, .rw, .live, 200⟩], .single, []⟩,
    ⟨"MDR_CH_FOL_ANG", 0x50858, [(2, 0x800)], [⟨19, 0, .rw, .live, 1024⟩], .single, []⟩,
    ⟨"MDR_CH_STOP_DEC", 0x5085C, [(2, 0x800)], [⟨19, 0, .rw, .live, 1000⟩], .single, []⟩,
    ⟨"MDR_CH_HOLD", 0x50860, [(2, 0x800)], [⟨19, 0, .rw, .live, 500⟩], .single, []⟩,
    ⟨"MDR_CH_CIRC", 0x50864, [(2, 0x800)], [⟨19, 0, .rw, .fixed, 0⟩], .single, []⟩,
    ⟨"MDR_CH_POS_KP", 0x50868, [(2, 0x800)], [⟨19, 0, .rw, .live, 800⟩], .single, []⟩,
    ⟨"MDR_CH_REF_LEAD", 0x5086C, [(2, 0x800)], [⟨19, 0, .rw, .live, 50⟩], .single, []⟩,
    ⟨"MDR_CH_REF", 0x50880, [(2, 0x800)], [⟨19, 0, .rw, .live, 0⟩], .single, []⟩,
    ⟨"MDR_CH_CMD", 0x50884, [(2, 0x800)], [⟨3, 3, .wo, .none, 0⟩, ⟨2, 2, .wo, .none, 0⟩, ⟨1, 1, .wo, .none, 0⟩, ⟨0, 0, .wo, .none, 0⟩], .single, []⟩,
    ⟨"MDR_CH_STATUS", 0x50888, [(2, 0x800)], [⟨11, 10, .ro, .none, 0⟩, ⟨9, 9, .ro, .none, 0⟩, ⟨8, 8, .ro, .none, 0⟩, ⟨7, 7, .ro, .none, 0⟩, ⟨6, 6, .ro, .none, 0⟩, ⟨5, 5, .ro, .none, 0⟩, ⟨2, 0, .ro, .none, 0⟩], .single, []⟩,
    ⟨"MDR_CH_EVENT", 0x5088C, [(2, 0x800)], [⟨6, 6, .w1c, .none, 0⟩, ⟨5, 5, .w1c, .none, 0⟩, ⟨4, 4, .w1c, .none, 0⟩, ⟨3, 3, .w1c, .none, 0⟩, ⟨2, 2, .w1c, .none, 0⟩, ⟨1, 1, .w1c, .none, 0⟩, ⟨0, 0, .w1c, .none, 0⟩], .single, []⟩,
    ⟨"MDR_CH_SPEED", 0x50890, [(2, 0x800)], [⟨19, 0, .ro, .none, 0⟩], .single, []⟩,
    ⟨"MDR_CH_REF_LIM", 0x50894, [(2, 0x800)], [⟨19, 0, .ro, .none, 0⟩], .single, []⟩,
    ⟨"MDR_CH_ID", 0x50898, [(2, 0x800)], [⟨19, 0, .ro, .none, 0⟩], .single, []⟩,
    ⟨"MDR_CH_IQ", 0x5089C, [(2, 0x800)], [⟨19, 0, .ro, .none, 0⟩], .single, []⟩,
    ⟨"MDR_CH_VD", 0x508A0, [(2, 0x800)], [⟨19, 0, .ro, .none, 0⟩], .single, []⟩,
    ⟨"MDR_CH_VQ", 0x508A4, [(2, 0x800)], [⟨19, 0, .ro, .none, 0⟩], .single, []⟩,
    ⟨"MDR_CH_EANGLE", 0x508A8, [(2, 0x800)], [⟨19, 0, .ro, .none, 0⟩], .single, []⟩ ]

/-- MDR: part 1 of its registers (Stn). -/
def mdrStnRegs1 : List Reg :=
  [ ⟨"MDR_CH_MVW_CNT", 0x508AC, [(2, 0x800)], [⟨19, 0, .ro, .none, 0⟩], .single, []⟩,
    ⟨"MDR_CH_REV_CNT", 0x508B0, [(2, 0x800)], [⟨19, 0, .ro, .none, 0⟩], .single, []⟩,
    ⟨"MDR_CH_FLT_CNT", 0x508B4, [(2, 0x800)], [⟨19, 0, .ro, .none, 0⟩], .single, []⟩ ]

/-- MDR: its registers (Stn). -/
def mdrStnRegs : List Reg := mdrNoChopRegs ++ mdrStnRegs0 ++ mdrStnRegs1

/-- AXS: registers of the hub die. -/
def axsHubRegs : List Reg :=
  [ ⟨"AXS_CTRL", 0xD0000, [], [⟨1, 1, .rw, .fixed, 0⟩, ⟨0, 0, .rw, .live, 0⟩], .single, []⟩,
    ⟨"AXS_STATUS", 0xD0004, [], [⟨5, 5, .w1c, .none, 0⟩, ⟨4, 4, .ro, .none, 0⟩, ⟨3, 3, .ro, .none, 0⟩, ⟨2, 0, .ro, .none, 0⟩], .single, []⟩,
    ⟨"AXS_WEB_TGT", 0xD0008, [], [⟨19, 0, .rw, .live, 0⟩], .single, []⟩,
    ⟨"AXS_WEB_VMAX", 0xD000C, [], [⟨19, 0, .rw, .fixed, 49152⟩], .single, []⟩,
    ⟨"AXS_WEB_ACC", 0xD0010, [], [⟨19, 0, .rw, .live, 500⟩], .single, []⟩,
    ⟨"AXS_WEB_DEC", 0xD0014, [], [⟨19, 0, .rw, .live, 500⟩], .single, []⟩,
    ⟨"AXS_WEB_STOP_DEC", 0xD0018, [], [⟨19, 0, .rw, .live, 2000⟩], .single, []⟩,
    ⟨"AXS_WEB_JERK", 0xD001C, [], [⟨19, 0, .rw, .live, 5000⟩], .single, []⟩,
    ⟨"AXS_WEB_RATIO", 0xD0020, [], [⟨19, 0, .rw, .fixed, 0⟩], .single, []⟩,
    ⟨"AXS_WEB_LEAD", 0xD0024, [], [⟨19, 0, .rw, .live, 512⟩], .single, []⟩,
    ⟨"AXS_WEB_PROF", 0xD0028, [], [⟨19, 0, .ro, .none, 0⟩], .single, []⟩,
    ⟨"AXS_BUS_BAD_CNT", 0xD002C, [], [⟨19, 0, .ro, .none, 0⟩], .single, []⟩,
    ⟨"AXS_CMD", 0xD0030, [], [⟨0, 0, .wo, .none, 0⟩], .single, []⟩,
    ⟨"AXS_AX_CFG", 0xD0100, [(8, 0x40)], [⟨7, 7, .rw, .fixed, 0⟩, ⟨6, 6, .rw, .fixed, 0⟩, ⟨5, 4, .rw, .fixed, 1⟩, ⟨3, 3, .rw, .fixed, 0⟩, ⟨2, 2, .rw, .fixed, 0⟩, ⟨0, 0, .rw, .fixed, 0⟩], .single, []⟩,
    ⟨"AXS_AX_TGT_LO", 0xD0104, [(8, 0x40)], [⟨19, 0, .rw, .live, 0⟩], .lo, []⟩,
    ⟨"AXS_AX_TGT_HI", 0xD0108, [(8, 0x40)], [⟨19, 0, .rw, .live, 0⟩], .hi, []⟩,
    ⟨"AXS_AX_VMAX", 0xD010C, [(8, 0x40)], [⟨19, 0, .rw, .live, 100000⟩], .single, []⟩,
    ⟨"AXS_AX_ACC", 0xD0110, [(8, 0x40)], [⟨19, 0, .rw, .live, 10000⟩], .single, []⟩,
    ⟨"AXS_AX_DEC", 0xD0114, [(8, 0x40)], [⟨19, 0, .rw, .live, 10000⟩], .single, []⟩,
    ⟨"AXS_AX_JERK", 0xD0118, [(8, 0x40)], [⟨19, 0, .rw, .live, 10000⟩], .single, []⟩,
    ⟨"AXS_AX_REV_MAX", 0xD011C, [(8, 0x40)], [⟨19, 0, .rw, .live, 20000⟩], .single, []⟩,
    ⟨"AXS_AX_ENC", 0xD0120, [(8, 0x40)], [⟨19, 4, .rw, .fixed, 4096⟩, ⟨3, 0, .rw, .live, 2⟩], .single, []⟩,
    ⟨"AXS_AX_DEV", 0xD0124, [(8, 0x40)], [⟨19, 16, .rw, .live, 4⟩, ⟨15, 0, .rw, .live, 512⟩], .single, []⟩,
    ⟨"AXS_AX_CMD", 0xD0128, [(8, 0x40)], [⟨4, 4, .wo, .none, 0⟩, ⟨3, 3, .wo, .none, 0⟩, ⟨2, 2, .wo, .none, 0⟩, ⟨1, 1, .wo, .none, 0⟩, ⟨0, 0, .wo, .none, 0⟩], .single, []⟩,
    ⟨"AXS_AX_STATUS", 0xD012C, [(8, 0x40)], [⟨11, 11, .w1c, .none, 0⟩, ⟨10, 10, .w1c, .none, 0⟩, ⟨9, 9, .w1c, .none, 0⟩, ⟨8, 8, .w1c, .none, 0⟩, ⟨7, 7, .w1c, .none, 0⟩, ⟨6, 6, .ro, .none, 0⟩, ⟨5, 4, .ro, .none, 0⟩, ⟨2, 0, .ro, .none, 0⟩], .single, []⟩,
    ⟨"AXS_AX_POS_LO", 0xD0130, [(8, 0x40)], [⟨19, 0, .ro, .none, 0⟩], .lo, []⟩,
    ⟨"AXS_AX_POS_HI", 0xD0134, [(8, 0x40)], [⟨19, 0, .ro, .none, 0⟩], .hi, []⟩,
    ⟨"AXS_AX_VEL", 0xD0138, [(8, 0x40)], [⟨19, 0, .ro, .none, 0⟩], .single, []⟩,
    ⟨"AXS_AX_CNT", 0xD013C, [(8, 0x40)], [⟨19, 14, .ro, .none, 0⟩, ⟨13, 7, .ro, .none, 0⟩, ⟨6, 0, .ro, .none, 0⟩], .single, []⟩,
    ⟨"AXS_AX_ENC_POS_LO", 0xD0400, [(8, 0x10)], [⟨19, 0, .ro, .none, 0⟩], .lo, []⟩,
    ⟨"AXS_AX_ENC_POS_HI", 0xD0404, [(8, 0x10)], [⟨19, 0, .ro, .none, 0⟩], .hi, []⟩,
    ⟨"AXS_AX_DEV_MAX", 0xD0408, [(8, 0x10)], [⟨19, 0, .ro, .none, 0⟩], .single, []⟩ ]

/-- THM: registers of the hub and of every station. -/
def thmSharedRegs : List Reg :=
  [ ⟨"THM_DIE", 0x60000, [], [⟨19, 17, .ro, .none, 0⟩, ⟨11, 0, .ro, .none, 0⟩], .single, []⟩,
    ⟨"THM_SENS", 0x60004, [(8, 0x4)], [⟨19, 19, .ro, .none, 0⟩, ⟨11, 0, .ro, .none, 0⟩], .single, []⟩,
    ⟨"THM_STATUS", 0x60040, [], [⟨6, 6, .w1c, .none, 0⟩, ⟨5, 5, .w1c, .none, 0⟩, ⟨4, 4, .ro, .none, 0⟩, ⟨3, 3, .ro, .none, 0⟩, ⟨2, 2, .ro, .none, 0⟩, ⟨1, 1, .ro, .none, 0⟩, ⟨0, 0, .ro, .none, 0⟩], .single, []⟩,
    ⟨"THM_LIN", 0x60100, [(33, 0x4)], [⟨11, 0, .rw, .fixed, 0⟩], .single, []⟩ ]

/-- THM: registers of the hub die. -/
def thmHubRegs : List Reg :=
  [ ⟨"THM_PKG", 0x60200, [], [⟨19, 17, .ro, .none, 0⟩, ⟨16, 14, .ro, .none, 0⟩, ⟨11, 0, .ro, .none, 0⟩], .single, []⟩,
    ⟨"THM_WARN", 0x60204, [], [⟨11, 0, .rw, .live, 920⟩], .single, []⟩,
    ⟨"THM_CRIT", 0x60208, [], [⟨11, 0, .rw, .fixed, 1020⟩], .single, []⟩,
    ⟨"THM_TRIP", 0x6020C, [], [⟨11, 0, .rw, .fixed, 1100⟩], .single, []⟩,
    ⟨"THM_HYST", 0x60210, [], [⟨11, 8, .rw, .fixed, 4⟩, ⟨7, 0, .rw, .live, 30⟩], .single, []⟩,
    ⟨"THM_SLOW_V", 0x60214, [], [⟨19, 0, .rw, .live, 24576⟩], .single, []⟩,
    ⟨"THM_GRACE", 0x60218, [], [⟨19, 0, .rw, .live, 100⟩], .single, []⟩,
    ⟨"THM_RELEASE", 0x6021C, [], [⟨19, 0, .rw, .live, 30⟩], .single, []⟩,
    ⟨"THM_ENFORCE_DECEL", 0x60220, [], [⟨19, 0, .rw, .live, 1000⟩], .single, []⟩,
    ⟨"THM_CRIT_BUDGET", 0x60224, [], [⟨19, 0, .rw, .live, 2000⟩], .single, []⟩,
    ⟨"THM_PSTATUS", 0x60228, [], [⟨10, 10, .w1c, .none, 0⟩, ⟨9, 9, .w1c, .none, 0⟩, ⟨8, 8, .w1c, .none, 0⟩, ⟨7, 7, .w1c, .none, 0⟩, ⟨6, 5, .ro, .none, 0⟩, ⟨4, 4, .ro, .none, 0⟩, ⟨3, 3, .ro, .none, 0⟩, ⟨2, 2, .ro, .none, 0⟩, ⟨1, 1, .ro, .none, 0⟩, ⟨0, 0, .ro, .none, 0⟩], .single, []⟩,
    ⟨"THM_ENF_CNT", 0x6022C, [], [⟨19, 0, .ro, .none, 0⟩], .single, []⟩,
    ⟨"THM_CMD", 0x60230, [], [⟨0, 0, .wo, .none, 0⟩], .single, []⟩ ]

/-- THM: registers of a station die. -/
def thmStnRegs : List Reg :=
  [ ⟨"THM_EXT_CFG", 0x60050, [(4, 0x4)], [⟨1, 0, .rw, .fixed, 0⟩], .single, []⟩,
    ⟨"THM_EXT_TEMP", 0x60060, [(4, 0x4)], [⟨19, 19, .ro, .none, 0⟩, ⟨11, 0, .ro, .none, 0⟩], .single, []⟩,
    ⟨"THM_WIN_WR", 0x60070, [], [⟨19, 10, .rw, .fixed, 450⟩, ⟨9, 0, .rw, .fixed, 100⟩], .single, []⟩,
    ⟨"THM_WIN_CHG", 0x60074, [], [⟨19, 10, .rw, .fixed, 500⟩, ⟨9, 0, .rw, .fixed, 50⟩], .single, []⟩ ]

/-- FLT: registers of the hub and of every station. -/
def fltSharedRegs : List Reg :=
  [ ⟨"FLT_STATUS", 0x70000, [], [⟨19, 0, .w1c, .none, 0⟩], .single, []⟩,
    ⟨"FLT_STATUS_U", 0x70004, [], [⟨19, 0, .w1c, .none, 0⟩], .single, []⟩,
    ⟨"FLT_STATUS_F", 0x70008, [], [⟨19, 0, .ro, .none, 0⟩], .single, []⟩,
    ⟨"FLT_F_ACTIVE", 0x7000C, [], [⟨19, 0, .ro, .none, 0⟩], .single, []⟩,
    ⟨"FLT_REACT", 0x70010, [], [⟨19, 0, .rw, .fixed, 0⟩], .single, []⟩,
    ⟨"FLT_IRQ_EN", 0x70014, [], [⟨19, 0, .rw, .live, 0⟩], .single, []⟩,
    ⟨"FLT_PIN_EN", 0x70018, [], [⟨19, 0, .rw, .live, 1048575⟩], .single, []⟩,
    ⟨"FLT_PEND", 0x7001C, [], [⟨19, 0, .ro, .none, 0⟩], .single, []⟩,
    ⟨"FLT_SHADOW", 0x70020, [], [⟨19, 0, .ro, .none, 0⟩], .single, []⟩,
    ⟨"FLT_LAST", 0x70024, [], [⟨19, 14, .ro, .none, 0⟩, ⟨13, 12, .ro, .none, 0⟩, ⟨4, 0, .ro, .none, 0⟩], .single, []⟩,
    ⟨"FLT_STAT2", 0x70028, [], [⟨1, 1, .w1c, .none, 0⟩, ⟨0, 0, .w1c, .none, 0⟩], .single, []⟩,
    ⟨"FLT_CMD", 0x7002C, [], [⟨1, 1, .wo, .none, 0⟩, ⟨0, 0, .wo, .none, 0⟩], .single, []⟩,
    ⟨"FLT_RPT_CNT", 0x70100, [(20, 0x4)], [⟨19, 0, .ro, .none, 0⟩], .single, []⟩,
    ⟨"FLT_LATCH_CNT", 0x70180, [(20, 0x4)], [⟨19, 0, .ro, .none, 0⟩], .single, []⟩,
    ⟨"FLT_SHADOWED", 0x70200, [(20, 0x4)], [⟨19, 0, .ro, .none, 0⟩], .single, []⟩ ]

/-- FLT: registers of the hub die. -/
def fltHubRegs : List Reg :=
  [ ⟨"FLT_DIE_SUM", 0x70400, [], [⟨15, 8, .ro, .none, 0⟩, ⟨7, 0, .ro, .none, 0⟩], .single, []⟩,
    ⟨"FLT_PKG", 0x70404, [], [⟨3, 3, .ro, .none, 0⟩, ⟨2, 2, .ro, .none, 0⟩, ⟨1, 0, .ro, .none, 0⟩], .single, []⟩,
    ⟨"FLT_FIRST_F", 0x70408, [], [⟨19, 14, .ro, .none, 0⟩, ⟨13, 11, .ro, .none, 0⟩, ⟨4, 0, .ro, .none, 0⟩], .single, []⟩,
    ⟨"FLT_PIN_HOLD", 0x7040C, [], [⟨0, 0, .rw, .live, 0⟩], .single, []⟩,
    ⟨"FLT_PIN_CFG", 0x70410, [], [⟨9, 0, .rw, .live, 1⟩], .single, []⟩,
    ⟨"FLT_WIN", 0x70414, [], [⟨13, 0, .rw, .live, 1000⟩], .single, []⟩,
    ⟨"FLT_ESC_CNT", 0x70418, [], [⟨19, 0, .ro, .none, 0⟩], .single, []⟩ ]

/-- MEM: registers of the hub and of every station. -/
def memSharedRegs : List Reg :=
  [ ⟨"MEM_STATUS", 0x80000, [], [⟨2, 2, .ro, .none, 0⟩, ⟨1, 1, .w1c, .none, 0⟩, ⟨0, 0, .w1c, .none, 0⟩], .single, []⟩,
    ⟨"MEM_FLIP_A", 0x80004, [], [⟨10, 8, .rw, .live, 0⟩, ⟨7, 7, .rw, .live, 0⟩, ⟨6, 0, .rw, .live, 0⟩], .single, []⟩,
    ⟨"MEM_FLIP_B", 0x80008, [], [⟨7, 7, .rw, .live, 0⟩, ⟨6, 0, .rw, .live, 0⟩], .single, []⟩,
    ⟨"MEM_CMD", 0x8000C, [], [⟨2, 2, .wo, .none, 0⟩, ⟨1, 1, .wo, .none, 0⟩, ⟨0, 0, .wo, .none, 0⟩], .single, []⟩,
    ⟨"MEM_M_SCRUB", 0x80100, [], [⟨19, 0, .rw, .live, 2000⟩], .single, []⟩,
    ⟨"MEM_M_SCRUB", 0x80120, [(6, 0x20)], [⟨19, 0, .rw, .live, 100⟩], .single, []⟩,
    ⟨"MEM_M_STATUS", 0x80104, [(7, 0x20)], [⟨12, 12, .ro, .none, 0⟩, ⟨11, 11, .w1c, .none, 0⟩, ⟨10, 10, .w1c, .none, 0⟩, ⟨9, 9, .w1c, .none, 0⟩, ⟨8, 8, .w1c, .none, 0⟩, ⟨7, 0, .ro, .none, 0⟩], .single, []⟩,
    ⟨"MEM_M_CE_CNT", 0x80108, [(7, 0x20)], [⟨19, 0, .ro, .none, 0⟩], .single, []⟩,
    ⟨"MEM_M_UE_CNT", 0x8010C, [(7, 0x20)], [⟨19, 0, .ro, .none, 0⟩], .single, []⟩,
    ⟨"MEM_M_ADDR_LO", 0x80110, [(7, 0x20)], [⟨19, 0, .ro, .none, 0⟩], .lo, []⟩,
    ⟨"MEM_M_ADDR_HI", 0x80114, [(7, 0x20)], [⟨19, 0, .ro, .none, 0⟩], .hi, []⟩,
    ⟨"MEM_M_PASS_CNT", 0x80118, [(7, 0x20)], [⟨19, 0, .ro, .none, 0⟩], .single, []⟩ ]

/-- EVR: registers of the hub die. -/
def evrHubRegs : List Reg :=
  [ ⟨"EVR_CTRL", 0xF5000, [], [⟨0, 0, .rw, .live, 1⟩], .single, []⟩,
    ⟨"EVR_STATUS", 0xF5004, [], [⟨10, 10, .w1c, .none, 0⟩, ⟨9, 9, .w1c, .none, 0⟩, ⟨8, 8, .w1c, .none, 0⟩, ⟨7, 7, .ro, .none, 0⟩, ⟨6, 0, .ro, .none, 0⟩], .single, []⟩,
    ⟨"EVR_HEAD", 0xF5008, [], [⟨12, 12, .ro, .none, 0⟩, ⟨11, 0, .ro, .none, 0⟩], .single, []⟩,
    ⟨"EVR_CURSOR", 0xF500C, [], [⟨14, 12, .rw, .live, 0⟩, ⟨11, 0, .rw, .live, 0⟩], .single, []⟩,
    ⟨"EVR_WIN", 0xF5010, [], [⟨19, 0, .ro, .none, 0⟩], .single, []⟩,
    ⟨"EVR_LOST", 0xF5014, [], [⟨19, 0, .ro, .none, 0⟩], .single, []⟩,
    ⟨"EVR_FRZ_CNT", 0xF5018, [], [⟨19, 0, .ro, .none, 0⟩], .single, []⟩,
    ⟨"EVR_CMD", 0xF501C, [], [⟨2, 2, .wo, .none, 0⟩, ⟨1, 1, .wo, .none, 0⟩, ⟨0, 0, .wo, .none, 0⟩], .single, []⟩ ]

/-- LOV: registers of the hub die. -/
def lovHubRegs : List Reg :=
  [ ⟨"LOV_STATUS", 0xF6000, [], [⟨8, 8, .ro, .none, 0⟩, ⟨7, 7, .w1c, .none, 0⟩, ⟨6, 6, .w1c, .none, 0⟩, ⟨5, 5, .w1c, .none, 0⟩, ⟨4, 3, .ro, .none, 0⟩, ⟨2, 2, .ro, .none, 0⟩, ⟨1, 1, .ro, .none, 0⟩, ⟨0, 0, .ro, .none, 0⟩], .single, []⟩,
    ⟨"LOV_JKEY_LO", 0xF6004, [], [⟨19, 0, .rw, .live, 0⟩], .lo, []⟩,
    ⟨"LOV_JKEY_HI", 0xF6008, [], [⟨19, 0, .rw, .live, 0⟩], .hi, []⟩,
    ⟨"LOV_JCMD", 0xF600C, [], [⟨19, 12, .wo, .none, 0⟩, ⟨11, 10, .wo, .none, 0⟩, ⟨7, 0, .wo, .none, 0⟩], .single, []⟩,
    ⟨"LOV_JRESULT", 0xF6010, [], [⟨15, 8, .ro, .none, 0⟩, ⟨2, 0, .ro, .none, 0⟩], .single, []⟩,
    ⟨"LOV_STAGE_IDX", 0xF6014, [], [⟨7, 0, .rw, .live, 0⟩], .single, []⟩,
    ⟨"LOV_STAGE_DATA", 0xF6018, [], [⟨19, 0, .rw, .live, 0⟩], .single, []⟩,
    ⟨"LOV_RD_ADDR", 0xF601C, [], [⟨19, 17, .rw, .live, 0⟩, ⟨16, 0, .rw, .live, 0⟩], .single, []⟩,
    ⟨"LOV_RD_DATA", 0xF6020, [], [⟨19, 0, .ro, .none, 0⟩], .single, []⟩,
    ⟨"LOV_JRN_GEN", 0xF6024, [], [⟨19, 0, .ro, .none, 0⟩], .single, []⟩,
    ⟨"LOV_JRN_FILL", 0xF6028, [], [⟨19, 0, .ro, .none, 0⟩], .single, []⟩,
    ⟨"LOV_ARC_GEN", 0xF602C, [], [⟨19, 0, .ro, .none, 0⟩], .single, []⟩,
    ⟨"LOV_ARC_FILL", 0xF6030, [], [⟨19, 0, .ro, .none, 0⟩], .single, []⟩,
    ⟨"LOV_ARC_LOST", 0xF6034, [], [⟨19, 0, .ro, .none, 0⟩], .single, []⟩,
    ⟨"LOV_CMD", 0xF6038, [], [⟨2, 2, .wo, .none, 0⟩, ⟨1, 1, .wo, .none, 0⟩, ⟨0, 0, .wo, .none, 0⟩], .single, []⟩ ]

/-- CFG: registers of the hub die. -/
def cfgHubRegs : List Reg :=
  [ ⟨"BOOT_CAUSE", 0xF7000, [], [⟨15, 12, .ro, .none, 15⟩, ⟨11, 10, .ro, .none, 0⟩, ⟨9, 8, .ro, .none, 0⟩, ⟨7, 4, .ro, .none, 0⟩, ⟨3, 2, .ro, .none, 0⟩], .single, []⟩,
    ⟨"CFG_FAIL", 0xF7004, [(3, 0x4)], [⟨19, 0, .ro, .none, 0⟩], .single, []⟩,
    ⟨"CFG_IMG_SERIAL_LO", 0xF7010, [], [⟨19, 0, .ro, .none, 0⟩], .lo, []⟩,
    ⟨"CFG_IMG_SERIAL_HI", 0xF7014, [], [⟨19, 0, .ro, .none, 0⟩], .hi, []⟩,
    ⟨"CFG_STN", 0xF7020, [(7, 0x4)], [⟨10, 9, .ro, .none, 2⟩, ⟨8, 8, .ro, .none, 0⟩, ⟨7, 0, .ro, .none, 0⟩], .single, []⟩,
    ⟨"CFG_STATUS", 0xF7040, [], [⟨6, 6, .w1c, .none, 0⟩, ⟨5, 5, .ro, .none, 0⟩, ⟨4, 4, .ro, .none, 0⟩, ⟨3, 3, .ro, .none, 0⟩, ⟨2, 2, .ro, .none, 0⟩, ⟨1, 1, .ro, .none, 0⟩, ⟨0, 0, .ro, .none, 0⟩], .single, []⟩,
    ⟨"CFG_UPD_SRC", 0xF7044, [], [⟨17, 0, .rw, .live, 0⟩], .single, []⟩,
    ⟨"CFG_UPD_CMD", 0xF7048, [], [⟨2, 0, .wo, .none, 0⟩], .single, []⟩,
    ⟨"CFG_RESULT", 0xF704C, [], [⟨3, 0, .ro, .none, 0⟩], .single, []⟩,
    ⟨"CFG_NONCE", 0xF7050, [], [⟨19, 0, .ro, .none, 0⟩], .single, []⟩,
    ⟨"CFG_NONCE_HI", 0xF7054, [], [⟨11, 0, .ro, .none, 0⟩], .single, []⟩,
    ⟨"CFG_FLOOR_LO", 0xF7058, [], [⟨19, 0, .ro, .none, 0⟩], .lo, []⟩,
    ⟨"CFG_FLOOR_HI", 0xF705C, [], [⟨19, 0, .ro, .none, 0⟩], .hi, []⟩ ]

/-- BAY: registers of the hub die. -/
def bayHubRegs : List Reg :=
  [ ⟨"BAY_STATUS", 0xF8000, [], [⟨5, 5, .w1c, .none, 0⟩, ⟨4, 4, .w1c, .none, 0⟩, ⟨3, 3, .w1c, .none, 1⟩, ⟨2, 2, .ro, .none, 0⟩, ⟨1, 1, .ro, .none, 0⟩, ⟨0, 0, .ro, .none, 0⟩], .single, []⟩,
    ⟨"BAY_CMP_CFG", 0xF8004, [], [⟨3, 3, .rw, .live, 0⟩, ⟨2, 2, .rw, .live, 0⟩, ⟨1, 1, .rw, .live, 0⟩, ⟨0, 0, .rw, .live, 1⟩], .single, []⟩,
    ⟨"BAY_CMP_CFG", 0xF8008, [], [⟨3, 3, .rw, .live, 0⟩, ⟨2, 2, .rw, .live, 0⟩, ⟨1, 1, .rw, .live, 0⟩, ⟨0, 0, .rw, .live, 0⟩], .single, []⟩,
    ⟨"BAY_CMP_CFG", 0xF800C, [], [⟨3, 3, .rw, .live, 0⟩, ⟨2, 2, .rw, .live, 0⟩, ⟨1, 1, .rw, .live, 0⟩, ⟨0, 0, .rw, .live, 0⟩], .single, []⟩,
    ⟨"BAY_CMP_CFG", 0xF8010, [], [⟨3, 3, .rw, .live, 0⟩, ⟨2, 2, .rw, .live, 0⟩, ⟨1, 1, .rw, .live, 0⟩, ⟨0, 0, .rw, .live, 1⟩], .single, []⟩,
    ⟨"BAY_VMAIN_THR", 0xF8014, [], [⟨19, 10, .rw, .live, 10⟩, ⟨9, 0, .rw, .live, 300⟩], .single, []⟩,
    ⟨"BAY_TEMP_THR", 0xF8018, [], [⟨15, 8, .rw, .live, 70⟩, ⟨7, 0, .rw, .live, 226⟩], .single, []⟩,
    ⟨"BAY_WAKE_CAUSE", 0xF801C, [], [⟨5, 5, .w1c, .none, 0⟩, ⟨4, 4, .w1c, .none, 0⟩, ⟨3, 0, .w1c, .none, 0⟩], .single, []⟩,
    ⟨"BAY_WAKE_SRC", 0xF8020, [], [⟨3, 3, .rw, .live, 0⟩, ⟨2, 2, .rw, .live, 0⟩, ⟨1, 1, .rw, .live, 0⟩, ⟨0, 0, .rw, .live, 0⟩], .single, []⟩,
    ⟨"BAY_RTC_SEC_LO", 0xF8024, [], [⟨19, 0, .rw, .live, 0⟩], .lo, []⟩,
    ⟨"BAY_RTC_SEC_HI", 0xF8028, [], [⟨19, 0, .rw, .live, 0⟩], .hi, []⟩,
    ⟨"BAY_RTC_SUB", 0xF802C, [], [⟨14, 0, .ro, .none, 0⟩], .single, []⟩,
    ⟨"BAY_ALARM_LO", 0xF8030, [], [⟨19, 0, .rw, .live, 0⟩], .lo, []⟩,
    ⟨"BAY_ALARM_HI", 0xF8034, [], [⟨19, 0, .rw, .live, 0⟩], .hi, []⟩,
    ⟨"BAY_PD", 0xF8038, [], [⟨19, 10, .rw, .live, 100⟩, ⟨9, 0, .rw, .live, 10⟩], .single, []⟩,
    ⟨"BAY_CMD", 0xF803C, [], [⟨2, 2, .wo, .none, 0⟩, ⟨1, 1, .wo, .none, 0⟩, ⟨0, 0, .wo, .none, 0⟩], .single, []⟩,
    ⟨"BAY_RET", 0xF8100, [(60, 0x4)], [⟨19, 0, .rw, .live, 0⟩], .single, []⟩,
    ⟨"BAY_RET", 0xF81F0, [(4, 0x4)], [⟨19, 0, .ro, .live, 0⟩], .single, []⟩ ]

/-- HIF: registers of the hub die. -/
def hifHubRegs : List Reg :=
  [ ⟨"HIF_ID", 0xE0000, [], [⟨19, 12, .ro, .none, 177⟩, ⟨11, 8, .ro, .none, 8⟩, ⟨7, 0, .ro, .none, 120⟩], .single, []⟩,
    ⟨"HIF_STATUS", 0xE0004, [], [⟨9, 9, .w1c, .none, 0⟩, ⟨8, 8, .w1c, .none, 0⟩, ⟨7, 7, .w1c, .none, 0⟩, ⟨6, 6, .ro, .none, 0⟩, ⟨5, 5, .ro, .none, 0⟩, ⟨4, 2, .ro, .none, 0⟩, ⟨1, 0, .ro, .none, 0⟩], .single, []⟩,
    ⟨"HIF_ABSENT_CNT", 0xE0008, [], [⟨19, 0, .ro, .none, 0⟩], .single, []⟩,
    ⟨"HIF_BAD_ACC_CNT", 0xE000C, [], [⟨19, 0, .ro, .none, 0⟩], .single, []⟩,
    ⟨"HIF_DOWN_CNT", 0xE0010, [], [⟨19, 0, .ro, .none, 0⟩], .single, []⟩,
    ⟨"HIF_IRQ_PEND", 0xE0020, [(4, 0x4)], [⟨15, 0, .w1c, .none, 0⟩], .single, []⟩,
    ⟨"HIF_ILK_DLY", 0xE0040, [], [⟨19, 0, .rw, .live, 2000⟩], .single, []⟩,
    ⟨"HIF_ILK_DISC", 0xE0044, [], [⟨19, 0, .rw, .live, 50⟩], .single, []⟩,
    ⟨"HIF_ILK_STATUS", 0xE0048, [], [⟨6, 6, .w1c, .none, 0⟩, ⟨5, 5, .w1c, .none, 0⟩, ⟨4, 4, .ro, .none, 1⟩, ⟨3, 3, .ro, .none, 1⟩, ⟨2, 2, .ro, .none, 1⟩, ⟨1, 1, .ro, .none, 0⟩, ⟨0, 0, .ro, .none, 0⟩], .single, []⟩,
    ⟨"HIF_CMD", 0xE004C, [], [⟨0, 0, .wo, .none, 0⟩], .single, []⟩ ]

/-- PLK: registers of the hub die. -/
def plkHubRegs : List Reg :=
  [ ⟨"PLK_CTRL", 0xF0000, [], [⟨5, 2, .rw, .live, 3⟩, ⟨0, 0, .rw, .fixed, 0⟩], .single, []⟩,
    ⟨"PLK_ACK_TO", 0xF0004, [], [⟨19, 0, .rw, .live, 100⟩], .single, []⟩,
    ⟨"PLK_STATUS_MS", 0xF0008, [], [⟨19, 0, .rw, .live, 10⟩], .single, []⟩,
    ⟨"PLK_LOST_MS", 0xF000C, [], [⟨19, 0, .rw, .live, 100⟩], .single, []⟩,
    ⟨"PLK_STATUS", 0xF0010, [], [⟨7, 7, .w1c, .none, 0⟩, ⟨6, 6, .w1c, .none, 0⟩, ⟨5, 5, .w1c, .none, 0⟩, ⟨4, 4, .ro, .none, 0⟩, ⟨3, 3, .ro, .none, 0⟩, ⟨2, 0, .ro, .none, 0⟩], .single, []⟩,
    ⟨"PLK_TX_IDX", 0xF0014, [], [⟨5, 0, .rw, .live, 0⟩], .single, []⟩,
    ⟨"PLK_TX_DATA", 0xF0018, [], [⟨7, 0, .rw, .live, 0⟩], .single, []⟩,
    ⟨"PLK_TX_CMD", 0xF001C, [], [⟨7, 7, .wo, .none, 0⟩, ⟨6, 0, .wo, .none, 0⟩], .single, []⟩,
    ⟨"PLK_TX_RESULT", 0xF0020, [], [⟨1, 0, .ro, .none, 0⟩], .single, []⟩,
    ⟨"PLK_RX_LEN", 0xF0024, [], [⟨6, 0, .ro, .none, 0⟩], .single, []⟩,
    ⟨"PLK_RX_DATA", 0xF0028, [], [⟨7, 0, .ro, .none, 0⟩], .single, []⟩,
    ⟨"PLK_RX_CMD", 0xF002C, [], [⟨1, 1, .wo, .none, 0⟩, ⟨0, 0, .wo, .none, 0⟩], .single, []⟩,
    ⟨"PLK_RX_ERR_CNT", 0xF0030, [], [⟨19, 0, .ro, .none, 0⟩], .single, []⟩,
    ⟨"PLK_FAIL_CNT", 0xF0034, [], [⟨19, 0, .ro, .none, 0⟩], .single, []⟩,
    ⟨"PLK_TX_LOST", 0xF0038, [], [⟨19, 0, .ro, .none, 0⟩], .single, []⟩ ]

/-- ISP: registers of the hub die. -/
def ispHubRegs : List Reg :=
  [ ⟨"ISP_CFG", 0xF1000, [], [⟨5, 4, .rw, .fixed, 0⟩, ⟨3, 3, .rw, .fixed, 0⟩, ⟨2, 2, .rw, .live, 0⟩, ⟨1, 1, .rw, .fixed, 0⟩, ⟨0, 0, .rw, .fixed, 0⟩], .single, []⟩,
    ⟨"ISP_TRIG_W", 0xF1004, [], [⟨9, 0, .rw, .live, 10⟩], .single, []⟩,
    ⟨"ISP_LINE", 0xF1008, [], [⟨19, 10, .rw, .live, 100⟩, ⟨9, 0, .rw, .live, 1⟩], .single, []⟩,
    ⟨"ISP_LINE_OFS_LO", 0xF100C, [], [⟨19, 0, .rw, .live, 0⟩], .lo, []⟩,
    ⟨"ISP_LINE_OFS_HI", 0xF1010, [], [⟨19, 0, .rw, .live, 0⟩], .hi, []⟩,
    ⟨"ISP_STATUS", 0xF1014, [], [⟨7, 3, .ro, .none, 0⟩, ⟨2, 2, .w1c, .none, 0⟩, ⟨1, 1, .w1c, .none, 0⟩], .single, []⟩,
    ⟨"ISP_TAG_LOST", 0xF1018, [], [⟨19, 0, .ro, .none, 0⟩], .single, []⟩,
    ⟨"ISP_TAG_CNT", 0xF101C, [], [⟨19, 0, .ro, .none, 0⟩], .single, []⟩,
    ⟨"ISP_CMD", 0xF1020, [], [⟨0, 0, .wo, .none, 0⟩], .single, []⟩ ]

/-- FIN: registers of the hub die. -/
def finHubRegs : List Reg :=
  [ ⟨"FIN_CFG", 0xF2000, [], [⟨7, 3, .rw, .fixed, 16⟩, ⟨2, 2, .rw, .fixed, 0⟩, ⟨0, 0, .rw, .fixed, 0⟩], .single, []⟩,
    ⟨"FIN_MARK_W", 0xF2004, [], [⟨9, 0, .rw, .live, 10⟩], .single, []⟩,
    ⟨"FIN_REJ_W", 0xF2008, [], [⟨9, 0, .rw, .live, 10⟩], .single, []⟩,
    ⟨"FIN_STATUS", 0xF200C, [], [⟨3, 3, .ro, .none, 0⟩, ⟨2, 2, .ro, .none, 0⟩, ⟨1, 1, .w1c, .none, 0⟩, ⟨0, 0, .w1c, .none, 0⟩], .single, []⟩,
    ⟨"FIN_REJ_CNT", 0xF2010, [], [⟨19, 10, .ro, .none, 0⟩, ⟨9, 0, .ro, .none, 0⟩], .single, []⟩,
    ⟨"FIN_MERGE_CNT", 0xF2014, [], [⟨19, 0, .ro, .none, 0⟩], .single, []⟩,
    ⟨"FIN_CMD", 0xF2018, [], [⟨0, 0, .wo, .none, 0⟩], .single, []⟩ ]

/-- SVC: registers of the hub die. -/
def svcHubRegs : List Reg :=
  [ ⟨"SVC_CFG", 0xF3000, [], [⟨1, 0, .rw, .live, 0⟩], .single, []⟩,
    ⟨"SVC_STATUS", 0xF3004, [], [⟨2, 2, .w1c, .none, 0⟩, ⟨1, 1, .w1c, .none, 0⟩, ⟨0, 0, .ro, .none, 0⟩], .single, []⟩,
    ⟨"SVC_ERR_CNT", 0xF3008, [], [⟨19, 0, .ro, .none, 0⟩], .single, []⟩,
    ⟨"SVC_REQ_CNT", 0xF300C, [], [⟨19, 0, .ro, .none, 0⟩], .single, []⟩,
    ⟨"SVC_CMD", 0xF3010, [], [⟨0, 0, .wo, .none, 0⟩], .single, []⟩ ]

end Sys2Proof.Machine
end

