-- ==== Sys2Proof/Machine/RegMap.lean ====
section
/-! DEFINITION. The block windows of the hub and station dies (R444 to R446) and the look-up of a register by die and offset (R447). -/

namespace Sys2Proof.Machine

/-- The registers of one slot of the hub die (R446). -/
def hubSlotRegs (slot sub : Nat) : List Reg :=
  match slot with
  | 0 => cueSharedRegs
  | 1 => rinHubRegs
  | 2 => xfrSharedRegs ++ xfrHubRegs
  | 3 => lpeSharedRegs ++ lpeHubRegs
  | 4 => hvcSharedRegs ++ hvcHubRegs
  | 5 => mdrSharedRegs ++ mdrHubRegs
  | 6 => thmSharedRegs ++ thmHubRegs
  | 7 => fltSharedRegs ++ fltHubRegs
  | 8 => memSharedRegs
  | 9 => cksSharedRegs
  | 10 => wtbHubRegs
  | 11 => frmHubRegs
  | 12 => rgcHubRegs
  | 13 => axsHubRegs
  | 14 => hifHubRegs
  | 15 =>
    match sub with
    | 0 => plkHubRegs
    | 1 => ispHubRegs
    | 2 => finHubRegs
    | 3 => svcHubRegs
    | 4 => fsrHubRegs
    | 5 => evrHubRegs
    | 6 => lovHubRegs
    | 7 => cfgHubRegs
    | 8 => bayHubRegs
    | _ => []
  | _ => []

/-- The registers of one slot of a station die (R445). -/
def stnSlotRegs (slot : Nat) : List Reg :=
  match slot with
  | 0 => cueSharedRegs ++ cueStnRegs
  | 1 => rinStnRegs
  | 2 => xfrSharedRegs ++ xfrStnRegs
  | 3 => lpeSharedRegs ++ lpeStnRegs
  | 4 => hvcSharedRegs ++ hvcStnRegs
  | 5 => mdrSharedRegs ++ mdrStnRegs
  | 6 => thmSharedRegs ++ thmStnRegs
  | 7 => fltSharedRegs
  | 8 => memSharedRegs
  | 9 => cksSharedRegs ++ cksStnRegs
  | 10 => scnStnRegs
  | 11 => lplStnRegs
  | 12 => lsrStnRegs
  | _ => []

/-- The tables a die-relative offset falls into: its slot, or its sub-window of slot 15 on the hub (R444). -/
def windowRegs (die off : Nat) : List Reg :=
  if die = 0 then hubSlotRegs (off / 0x10000) (off % 0x10000 / 0x1000) else stnSlotRegs (off / 0x10000)

/-- The register at a die-relative offset, with its index in each dimension (R447: none where no table lists the offset). -/
def findReg (die off : Nat) : Option (Reg × List Nat) :=
  (windowRegs die off).findSome? fun r => (r.indexOf off).map fun ix => (r, ix)

/-- The reset value of the word at a die-relative offset (the Reset column; zero where nothing is listed, R447). -/
def resetWord (die off : Nat) : Word :=
  match findReg die off with
  | some (r, ix) => r.resetValue ix
  | none => 0

/-- The reset value of the word that a store keeps under a key: a BAR0 byte offset (R25). -/
def keyReset (k : Nat) : Word := resetWord (k / 0x100000) (k % 0x100000)

end Sys2Proof.Machine
end

