-- ==== Sys2Proof/Machine/TypesWeb.lean ====
section
/-! DEFINITION. The state that the chapters on the web position, the cue engine and the frame manager give the part beside its
registers: encoder accumulators and the estimator (R42 to R48), die links and replicas (R51 to R55), cue memory and lists (R60 to R79),
frames, completion records and switches (R82 to R107). -/

namespace Sys2Proof.Machine

/-- Fault classes (R22). -/
inductive FClass where
  | c | u | f
  deriving DecidableEq, Repr

/-- The blocks that drive an error line (R344). `dlk` is the link slave of a station and, on the hub, position 19: the link masters, the supply
sources and the interlock. -/
inductive Blk where
  | hif | plk | isp | fin | svc | wtb | cue | frm | rin | xfr | rgc | lpe | hvc | fsr | mdr | axs | thm | mem | evr | lov | cfg | cks
  | scn | lpl | lsr | flt | bay | ilk | dlk
  deriving DecidableEq, Repr

/-- An event on an error line on its way to the hub collector (R343), with the frames its row of R103 flags (by admission number), the
cause bits of R103 and the position and time of the event. -/
structure Report where
  die : Nat
  pos : Nat
  src : Nat
  cls : FClass
  cause : Nat
  frames : List Nat
  at40 : Nat
  time : Nat
  /-- decided at the hub: escalated by R349, or promoted by R347 -/
  esc : Bool := false
  hubF : Bool := false
  /-- THM_CRIT: safe-off and stop follow the phases of R338 -/
  orderly : Bool := false
  deriving DecidableEq, Repr

/-- One encoder input of WTB. Counts are signed; `acc` is the measured position with 24 fractional bits (R42). -/
structure Encoder where
  count : Int := 0
  acc : Int := 0
  /-- the largest count the input has reached (R45) -/
  hw : Int := 0
  /-- levels of the lines A and B, and the same behind the glitch filter (R39) -/
  lineA : Bool := false
  lineB : Bool := false
  filtA : Bool := false
  filtB : Bool := false
  /-- phase of the last sample within the radius, 2^-20 of a signal period (R39) -/
  phase : Option Nat := none
  /-- consecutive samples outside the radius (R40), and the times of the illegal transitions of the last ms, latest first (R41), ns -/
  badRun : Nat := 0
  illegal : List Nat := []
  /-- the condition of a signal fault has been met and the fault is still to be raised; the time of the last exception to R40 or R41 -/
  due : Bool := false
  lastBad : Nat := 0
  deriving DecidableEq, Repr

/-- The hub timebase beside its registers. Positions are unwrapped integers; `pEst` is in 2^-48 tick and `vEst` in 2^-48 tick per ns. -/
structure Wtb where
  encA : Encoder := {}
  encB : Encoder := {}
  /-- added to the selected accumulator so that a failover continues from the present value (R48) -/
  selOfs : Int := 0
  pEst : Int := 0
  vEst : Int := 0
  /-- published position, unwrapped -/
  pub : Int := 0
  /-- the published velocity has been zero since, ns (R338, R352) -/
  zeroSince : Option Nat := some 0
  /-- baselines of the cross-check span in progress, with 24 fractional bits (R47) -/
  spanA : Int := 0
  spanB : Int := 0
  missRun : Nat := 0
  /-- WTB_XCHK as taken at the start of the span in progress; before WTB runs the register stands (R58) -/
  spanCfg : Option Word := none
  /-- cross-check suspended for good after failover (R48) -/
  xchkOff : Bool := false
  /-- a failover to B waits for the next update (R48) -/
  failover : Bool := false
  /-- WTB has run since boot step 3 (R58) -/
  runs : Bool := false
  /-- tb_ok at the last update, the valid bit of the broadcasts that follow it (R51) -/
  valid : Bool := false
  /-- an accepted preset waits for the next update, with the value WTB_PRESET had at the command (R50, R58) -/
  presetPend : Option Nat := none
  /-- the next broadcast carries the preset bit (R50) -/
  presetBit : Bool := false
  /-- the part of a ns, in parts of a cycle, that the update intervals on the bypass clock have left over (R209) -/
  frac : Nat := 0
  /-- sequence number of the next broadcast (R51) -/
  seq : Nat := 0
  /-- selected mains input and its last accepted crossing, ns (R56) -/
  mainsSrc : Nat := 0
  mainsLast : Option Nat := none
  /-- the last crossing while no mains is tracked -/
  mainsCand : Option Nat := none
  mainsPeriod : Nat := 0
  deriving DecidableEq, Repr

/-- Payload of a position broadcast (R51). -/
structure Bcast where
  pos : Nat
  vel : Nat
  seq : Nat
  valid : Bool
  reverse : Bool
  preset : Bool
  synth : Bool
  degraded : Bool
  deriving DecidableEq, Repr

/-- The die link of a station and its replica timebase. Replica positions are in 1/4,096,000 tick, modulo 2^40 ticks: the unit in which a
velocity of 1/256 tick per µs over 1/16 ns is whole (R51). -/
structure Link where
  flit : Option Bcast := none
  lastSeq : Nat := 0
  seqKnown : Bool := false
  missRun : Nat := 0
  lastArrival : Nat := 0
  degraded : Bool := false
  lost : Bool := false
  hubLost : Bool := false
  cohRun : Nat := 0
  /-- the first real broadcast after a calibration is loaded as a preset (R55) -/
  loadNext : Bool := false
  /-- the time of the last advance of the station's own clock, ns (R51, R74) -/
  clock : Nat := 0
  /-- corrected position, which the replica never moves back from -/
  target : Nat := 0
  rep : Nat := 0
  /-- a broadcast with valid clear, or with reverse set, blanks later sweeps (R51, R46) -/
  blank : Bool := false
  deriving DecidableEq, Repr

/-- A cue entry: its four words (R62). -/
structure CueEntry where
  w0 : Nat
  w1 : Nat
  w2 : Nat
  w3 : Nat
  deriving DecidableEq, Repr

/-- A cue entry that FRM has placed on a die (R84, R89): its list, tick, action, argument, the frame it belongs to (by admission number)
and its entry number. `order` puts cues of one tick in the order FRAME_END, BANK_SWITCH, FRAME_START. -/
structure FrmCue where
  list : Nat
  tick : Nat
  order : Nat
  action : Nat
  arg : Nat
  frame : Nat
  entry : Nat
  issued : Bool := false
  deriving DecidableEq, Repr

/-- An action that its cue engine has issued and its target block has not yet carried out (R66, R70). -/
structure Issued where
  action : Nat
  arg : Nat
  /-- the tick a tick-stamped action carries (R66) -/
  tick : Option Nat
  list : Nat
  entry : Nat
  instant : Nat
  deriving DecidableEq, Repr

/-- One cue list beside its registers. -/
structure CueList where
  /-- the list is watched: the enable bit at the last update (R79) -/
  on : Bool := false
  /-- the head waits for its first evaluation (R68) -/
  fresh : Bool := false
  /-- the head is due, at this instant in ns (R66, R67) -/
  due : Option Nat := none
  /-- the angle of a firing, from which the next crossing is looked for while it lies in the present sample (R67) -/
  fired : Option Nat := none
  /-- firings still to come of a repeating head (R62) -/
  firesLeft : Option Nat := none
  /-- a stop waits for the next update (R79) -/
  stopPend : Bool := false
  deriving DecidableEq, Repr

/-- The cue engine of one die. Entries not listed read as blank ones. -/
structure Cue where
  mem : List (Nat × CueEntry) := []
  /-- miss_win as taken at the last update (R68, R81) -/
  missWin : Nat := 0x100
  lists : List CueList := List.replicate 16 {}
  frm : List FrmCue := []
  issued : List Issued := []
  /-- times of the last issues, latest first (R70) -/
  recent : List Nat := []
  /-- the previous and the present sample of the mains phase and of the shaft angles (R67) -/
  prevMains : Nat := 0
  prevShaft : List Nat := [0, 0, 0, 0]
  curMains : Nat := 0
  curShaft : List Nat := [0, 0, 0, 0]
  /-- the requester paths' copies of CUE_BANK_VIEW: host, service (R110) -/
  viewSvc : Nat := 0
  /-- switch numbers whose arm FRM holds for this die, oldest first (R94) -/
  armQ : List Nat := []
  /-- a completed switch the die has not yet reported to FRM (R98) -/
  swDone : Option Nat := none
  /-- BANK_SWITCH has applied and waits for the die's natural boundary (R98) -/
  swPend : Option Nat := none
  /-- a bank miss waits for the late arm of this switch (R100) -/
  missed : Option Nat := none
  deriving DecidableEq, Repr

/-- A frame that FRM holds (R82, R85). `id` is its admission number, which names it in this model only. -/
structure Frame where
  id : Nat
  slot : Nat
  serial : Nat
  job : Nat
  addr : Nat
  mask : Nat
  start : Nat
  stop : Nat
  lines : Nat
  rset : Nat
  tag : Nat
  /-- the switch it opens a job with -/
  sw : Option Nat := none
  /-- FRAME_START has been applied on the hub or a station -/
  started : Bool := false
  /-- stations (bit n - 1) on which its first sweep has started, and on which its last sweep has ended (R83) -/
  onStn : Nat := 0
  offStn : Nat := 0
  /-- the hub has applied FRAME_START -/
  onHub : Bool := false
  flagged : Bool := false
  cancelled : Bool := false
  withdrawn : Bool := false
  stnFlag : Nat := 0
  cause : Nat := 0
  deriving DecidableEq, Repr

/-- A completion record (R106). -/
structure DoneRec where
  serial : Nat
  w1 : Nat
  cause : Nat
  tag : Nat
  deriving DecidableEq, Repr

/-- A bank switch in use: its number, the frame that opens its job, and the dies that have not completed it (R94, R101). -/
structure Switch where
  num : Nat
  frame : Nat
  dies : List Nat
  /-- the switch position B (R97) and the addressability of its job (R173) -/
  pos : Nat
  addr : Nat
  /-- the switch position of the job change before it (R88, check 12) -/
  before : Option Nat := none
  deriving DecidableEq, Repr

/-- FRM beside its registers. -/
structure Frm where
  frames : List Frame := []
  /-- retired frames whose record waits for the completion FIFO, in order of retirement (R108) -/
  waiting : List Frame := []
  fifo : List DoneRec := []
  nextId : Nat := 0
  /-- admissions that may be the job frame, latest first: number, job, addressability (R85) -/
  jobs : List (Nat × Nat × Nat) := []
  /-- switch position of the last job change (R88, check 12) -/
  bPrev : Option Nat := none
  switches : List Switch := []
  /-- an F-class fault is uncleared (R88, check 11) -/
  fHeld : Bool := false
  deriving DecidableEq, Repr

end Sys2Proof.Machine
end

