-- ==== Sys2Proof/Machine/TypesSys.lean ====
section
/-! DEFINITION. The state of the fault collectors (R343 to R358), the event recorder (R370 to R374) and the requester paths (R16, R451)
beside their registers. -/

namespace Sys2Proof.Machine

/-- The fault collectors beside their registers. -/
structure Flt where
  /-- reports on their way to the hub, in order of arrival -/
  inbox : List Report := []
  /-- positions whose reaction is in progress: die, position, class and its start in ns (R348) -/
  busy : List (Nat × Nat × FClass × Nat) := []
  /-- latched reports, merged per position (R348) -/
  latched : List Report := []
  /-- the last U report of a source: die, position, source, time in ns (R349) -/
  lastU : List (Nat × Nat × Nat × Nat) := []
  shadows : List Shadow := []
  /-- the ends, ns, of the shadows that an interval bounds (R354) -/
  shadowT : List (Shadow × Nat) := []
  /-- the interlock closed, or the trip latch cleared, last, ns (R354) -/
  closedAt : Nat := 0
  /-- detections inside a shadow that report at its end if still asserted (R354) -/
  held : List (Detector × Report) := []
  /-- dies on their way to a class-2 safe-off (R352, step 2) -/
  safeOffQ : List Nat := []
  /-- a FAULT_N pulse is running (R356) -/
  pulse : Bool := false
  /-- its start, and its width, ns -/
  pulseAt : Nat := 0
  pulseNs : Nat := 0
  /-- the first F report since clear_f has been taken -/
  firstTaken : Bool := false
  /-- what holds the f_active level of hub position 19: link n, 8 the interlock, 9 VMAIN, 10 a fault of the Bay -/
  hub19 : List Nat := []
  /-- the cause bits of the F reports since clear_f (R104) -/
  fCause : Nat := 0
  deriving DecidableEq, Repr

/-- A request to the event recorder (R370, R371): the source is its kind with its word 1. -/
structure EvrReq where
  kind : Nat
  crit : Bool
  ident : Nat
  at40 : Nat
  time : Nat
  rep : Nat
  arg : Nat
  deriving DecidableEq, Repr

/-- The event recorder beside its registers. A ring slot not listed is empty; a slot holds its eight words (R370). -/
structure Evr where
  queue : List EvrReq := []
  pendLost : Nat := 0
  frozen : Bool := false
  frzRefused : Nat := 0
  ring : List (Nat × List Nat) := []
  next : Nat := 0
  lap : Nat := 0
  /-- critical records waiting for the archive, oldest first (R372) -/
  arcQ : List (List Nat) := []
  latch : Option (List Nat) := none
  deriving DecidableEq, Repr

/-- The latch and the hold registers of one requester path, one of each per die (R16, R451). -/
structure PathRegs where
  latch : List Nat := List.replicate 8 0
  hold : List (Option Nat) := List.replicate 8 none
  /-- what the last read of this path returned: a word, or bytes of BAR2 -/
  data : List Nat := []
  deriving DecidableEq, Repr

/-- The host interface beside its registers: masked MSI-X vectors (all of them after a function reset), the table's address and data words, the PBA bits, and the messages sent (R418). -/
structure Hif where
  masked : List Nat := List.range 64
  table : List (Nat × Nat) := []
  pba : List Nat := []
  lastMsg : Option Nat := none
  msgCount : Nat := 0
  deriving DecidableEq, Repr

end Sys2Proof.Machine
end

