-- ==== Sys2Proof/Machine/TypesLoop.lean ====
section
/-! DEFINITION. The state of the loop engines (R257 to R273), of the high-voltage blocks (R280 to R282) and of a station's writing (R233,
R237) beside their registers. -/

namespace Sys2Proof.Machine

/-- One slot of a loop engine beside its registers. `u`, `r` and `yhat` are Q1.39; `ePrev` and `fPrev` are Q1.19. -/
structure Slot where
  /-- triggered and waiting for the sequencer, with the time of the trigger (R260) -/
  ready : Option Nat := none
  /-- an owner trigger held until 10 µs have passed (R259) -/
  held : Option Nat := none
  lastTrig : Option Nat := none
  lastSample : Option Nat := none
  ovrRun : Nat := 0
  seeded : Bool := false
  u : Int := 0
  r : Int := 0
  ePrev : Int := 0
  fPrev : Int := 0
  yhat : Int := 0
  uPrev : Int := 0
  /-- samples since the start (R272) -/
  count : Nat := 0
  outside : Nat := 0
  /-- plaus_hold as taken at the start (R276) -/
  hold : Nat := 0
  goal : Int := 0
  /-- the owner's sample of the trigger that is ready or held, and the channel of a context slot that it serves (R269) -/
  own : OwnerSample := {}
  chan : Option Nat := none
  /-- the last output, Q1.19 -/
  out : Int := 0
  deriving DecidableEq, Repr

/-- A loop engine. Slots not listed are as at reset. -/
structure Lpe where
  slots : List (Nat × Slot) := []
  /-- times of the last updates, latest first (LPE_LOAD) -/
  updates : List Nat := []
  deriving DecidableEq, Repr

/-- Causes that hold the safe-off line of a station low (R233). -/
inductive LineCause where
  | fclass
  | beam
  | motor (role : Nat)
  | farEnd
  deriving DecidableEq, Repr

/-- The high-voltage block of a die beside its registers. -/
structure Hvc where
  /-- causes of the safe-off in force (R280, and the motor row of R103) -/
  causes : List LineCause := [.fclass]
  /-- channels watched after a safe-off: channel and time of the safe-off, ns (R281) -/
  watch : List (Nat × Nat) := []
  /-- tick of the station's timebase at which the last gated slot reached RUN again after a charge forbid (R282) -/
  rerun : Option Nat := none
  /-- dis_thr as taken at the last safe-off, chg_arc as taken at the last return of charge_ok (R289) -/
  disThr : Nat := 50
  disMs : Nat := 500
  arc : Nat := 100000
  deriving DecidableEq, Repr

/-- The fuser beside its registers (R283 to R286). -/
structure Fsr where
  /-- temperature inputs under SENSOR_FAULT -/
  bad : List Nat := []
  /-- burst accumulators, Q1.19; heater h starts at h / 4 -/
  acc : List Int := [0, 131072, 262144, 393216]
  /-- heaters whose burst fires in this cycle -/
  fire : List Bool := [false, false, false, false]
  /-- outputs asserted -/
  out : List Bool := [false, false, false, false]
  /-- the second half-cycle has begun -/
  second : Bool := false
  /-- phase heaters whose firing the last zero crossing decided (R284) -/
  phase : List Bool := [false, false, false, false]
  /-- auto_stby as taken at the last frame close, or as FSR left OFF (R19, R290) -/
  autoStby : Bool := false
  /-- the firing delays and end_guard of the present half-cycle as decided at its zero crossing, and its time, ns (R284) -/
  delay : List Nat := [0, 0, 0, 0]
  guard : Nat := 200
  halfAt : Nat := 0
  /-- every zone has been within its band since, with ready_ms as taken there; each zone has been outside since, ns (R285) -/
  inAt : Option Nat := none
  readyMs : Nat := 2000
  outAt : List (Option Nat) := [none, none, none, none]
  /-- no frame has been in progress since, ns, and idle_s as taken there (R285) -/
  idleAt : Nat := 0
  idleS : Nat := 300
  deriving DecidableEq, Repr

/-- A motor channel beside its registers. -/
structure Chan where
  /-- commanded acceleration, rpm/s (R300) -/
  accel : Int := 0
  /-- mechanical angle at the last period, 2^-20 revolution, and the revolutions turned with it, unwrapped -/
  angle : Nat := 0
  turned : Int := 0
  /-- the same at the last speed sample, and the last raw speed (R299) -/
  turnedAt : Int := 0
  rawSpeed : Int := 0
  /-- the feedback angle that counts as electrical zero, after an alignment or a catch (R303) -/
  zero : Nat := 0
  /-- the encoder behind its input, the count at the first index, and an index too far from a multiple of cpr since the last period (R299) -/
  enc : Encoder := {}
  zRef : Option Int := none
  zBad : Bool := false
  /-- what the feedback does in the present period and has not done yet, each with its time, ns -/
  fbq : List (Nat × FbEvent) := []
  /-- the feedback angle in the positive direction, and the one at which the shaft angle is 0: the last index, or the first commutation edge
  after the start (R57) -/
  mech : Nat := 0
  shaftZero : Nat := 0
  shaftSet : Bool := false
  /-- the hall levels, and whether they were 000 or 111 at the last period; it lost the feedback, or found GFLT_N low (R299, R313) -/
  hall : Nat := 1
  hallBad : Bool := false
  fbBad : Bool := false
  gateLow : Bool := false
  /-- the edges of each phase in the last period, ns: the high side turns on and off, and the low side off and on; and the instants of the two
  shunt samples (R293 to R295) -/
  edges : List (Int × Int) := []
  lows : List (Int × Int) := []
  shuntAt : List Int := []
  /-- periods since the last speed sample (R299) -/
  since : Nat := 0
  /-- the speed has been out of fol_tol since, ns, with fol_ms as taken there, and the angle beyond fol_ang at the last sample (R300, R301) -/
  folAt : Option Nat := none
  folMs : Nat := 50
  folAng : Bool := false
  /-- the last estimates of CATCH, amplitude, speed and electrical angle, latest first; its beginning, ns, and catch_ms as taken there (R303) -/
  ests : List (Nat × Int × Nat) := []
  catchAt : Nat := 0
  catchMs : Nat := 20
  /-- zero has been held since, ns, and hold_ms as taken at the stop (R308, R309) -/
  holdAt : Option Nat := none
  holdMs : Nat := 500
  /-- the reference still comes from the speed at which the gate released (R304) -/
  fromGate : Bool := false
  /-- duties of the last period, 2^-20 of the period, by phase (R294) -/
  duty : List Int := [0, 0, 0]
  /-- the shunt samples of OFF, latest first, and the offset that a start takes from them (R296) -/
  offs : List Int := []
  offset : Int := 0
  /-- integrators of the current laws and the speed law, Q1.39, and their last errors -/
  ud : Int := 0
  uq : Int := 0
  us : Int := 0
  ed : Int := 0
  eq : Int := 0
  es : Int := 0
  idRef : Int := 0
  iqDemand : Int := 0
  /-- the bus power of the last period, W, had its current not been scaled (R305) -/
  want : Int := 0
  /-- the reference after the ramp limiter, 1/8 nrpm -/
  lim : Int := 0
  /-- bus power of the last period, W (R305) -/
  power : Int := 0
  /-- periods since ALIGN or RUN began -/
  periods : Nat := 0
  /-- web-locked start: angle and timebase position (R301) -/
  theta0 : Int := 0
  p0 : Nat := 0
  /-- the last stop followed a fault of the channel (R308) -/
  faulted : Bool := false
  /-- bemf_min as taken at the start (R303, R312) -/
  bemfMin : Nat := 0
  /-- the F-class stop has been ordered (R309) -/
  fStop : Bool := false
  /-- the torque reference of a tension or auxiliary channel ramps to zero since a time, ns, from a value (R309) -/
  unload : Option (Nat × Int) := none
  deriving DecidableEq, Repr

/-- The motor bus of a die beside its registers (R305, R306). -/
structure Bus where
  /-- the last 101 samples, latest first, 0.1 V; a sample is taken every µs -/
  hist : List Nat := []
  /-- samples for which the open-chopper, slope and shorted-chopper conditions have held, with chop_det as taken at the last (R306) -/
  openRun : Nat := 0
  slopeRun : Nat := 0
  shortRun : Nat := 0
  det : Nat := 100
  /-- samples below uv (R307) -/
  uvRun : Nat := 0
  sampled : Bool := false
  lastSwitch : Nat := 0
  chopFault : Bool := false
  deriving DecidableEq, Repr

/-- Why a station's later sweeps blank until a frame start (R103). -/
inductive Blank where
  | writeForbid
  | charge
  | scanner
  | beam
  | motor (role : Nat)
  | farEnd
  | slotGate (die slot : Nat)
  | rate
  | fclass
  | crit
  deriving DecidableEq, Repr

/-- What a station's writing hangs on. -/
structure Stn where
  blanks : List Blank := []
  line : List LineCause := [.farEnd]
  deriving DecidableEq, Repr

end Sys2Proof.Machine
end

