-- ==== Sys2Proof/Machine/TypesMem.lean ====
section
/-! DEFINITION. The state of memories and merge buffers (R113, R362 to R368), of the raster sets and stream contexts (R111 to R127), of the
transfer channels (R132 to R145) and of the hub's mirror of its stations (R122). -/

namespace Sys2Proof.Machine

/-- An entry of a merge buffer: the memory, a code word, and the bytes it holds by their place in the word; of a word of registers its four
20-bit words take the place of the bytes, and their values stand in the registers (R365). -/
structure MergeEntry where
  mem : Nat := 0
  word : Nat
  bytes : List (Nat × Nat)
  /-- a byte of a poisoned source is among them (R139) -/
  poison : Bool := false
  /-- the entry was taken, ns (R366) -/
  at_ : Nat := 0
  deriving DecidableEq, Repr

/-- The memories of a die. `bytes` is the hub SRAM or the station buffer, a byte not listed reads zero. `errs` holds, for each of the seven
memories, the code words whose stored bits differ from an encoded word, with the 88-bit difference (bits 80 to 87 are the check bits). -/
structure Mems where
  bytes : List (Nat × Nat) := []
  errs : List (List (Nat × Nat)) := List.replicate 7 []
  /-- entries of the merge buffers, at most four of each memory, oldest first (R365) -/
  merge : List MergeEntry := []
  /-- next code word of each scrubber, and the time its last pass began, ns (R367) -/
  scrub : List (Nat × Nat) := List.replicate 7 (0, 0)
  /-- scrub_period of the last pass of each scrubber, 0 before the first (R367, R369) -/
  pass : List Nat := List.replicate 7 0
  /-- the target and the bits of an armed flip (R368) -/
  flip : Option (Nat × Nat) := none
  deriving DecidableEq, Repr

/-- A patch tile of a committed group, its data in the inbox at `addr` (R121). -/
structure Tile where
  group : Nat
  ctx : Nat
  rset : Nat
  x0 : Nat
  w : Nat
  y0 : Nat
  h : Nat
  addr : Nat
  last : Bool
  deriving DecidableEq, Repr

/-- A line fetched for a sweep: its place in the sweep's span, the frame and line it belongs to, the bytes that are not zero, and whether
the line is absent or under a tile not yet placed (first pixel and width), or holds uncorrectable words (R124 to R127). -/
structure FetchRow where
  row : Int
  frame : Nat
  line : Nat
  bytes : List (Nat × Nat) := []
  absent : Bool := false
  tiles : List (Nat × Nat) := []
  ue : List Nat := []
  bpp : Nat := 4
  width : Nat := 0
  deriving DecidableEq, Repr

/-- How a frame's lines come to stand on the station's grid (R99, R154, R167, R168). -/
inductive GridKind where
  | continued | rephased | relocked
  deriving DecidableEq, Repr

/-- A frame as a station holds it from its admission until its last line has passed: the tick of its first line there, pitch, the planned
grid and sweep ticks (R82 to R84), its raster set with the sequence number of its first line or its group (R118, R126), and what has
become of its lines. -/
structure SFrame where
  id : Nat
  slot : Nat
  first : Nat
  lines : Nat
  addr : Nat
  rset : Nat
  mode : Nat
  ctx : Nat
  seq0 : Nat
  job : Nat
  sw : Option Nat
  grid : Nat
  kind : GridKind
  /-- the station is outside the frame's mask: its grid goes as if it wrote, and it writes no line (R86) -/
  outside : Bool := false
  startTick : Nat
  endTick : Nat
  /-- the scanner has taken up the grid of this frame -/
  taken : Bool := false
  /-- the station has applied the frame's FRAME_START: without it no line of the frame is written (R36) -/
  cued : Bool := false
  /-- the frame was retired before its close: no further line of it is written, and release passes over it (R104, R125) -/
  gone : Bool := false
  started : Bool := false
  ending : Bool := false
  ended : Bool := false
  /-- later lines stay at code 0 (R186) -/
  blanked : Bool := false
  /-- first line whose deadline has not passed, and the lines that were absent at theirs -/
  judged : Nat := 0
  absent : List Nat := []
  /-- a first U report of this frame has been made: source indices (R129) -/
  reported : List Nat := []
  /-- the last line fetched in the frame's last sweep (R126) -/
  fetchedTo : Nat := 0
  deriving DecidableEq, Repr

/-- The station RIN beside its registers. A descriptor not listed is the unused entry of R114. -/
structure Rin where
  desc : List (Nat × List Nat) := []
  sealedSets : List Nat := []
  frames : List SFrame := []
  /-- tiles of committed groups not yet placed, in order (R126) -/
  tiles : List Tile := []
  /-- lines that were absent at their deadline and have not been committed since: context and sequence number (R124) -/
  late : List (Nat × Nat) := []
  /-- rows fetched for the next sweep, and those of the present one -/
  nextRows : List FetchRow := []
  rows : List FetchRow := []
  deriving DecidableEq, Repr

/-- The source of a burst in flight: the descriptor's byte index and the length (R136, R142). -/
structure Burst where
  start : Nat
  len : Nat
  fails : Nat
  /-- the request was withdrawn after the issue (R141) -/
  dropped : Bool := false
  /-- the time of the present attempt, ns: a retry is issued retry_gap after the failure (R142) -/
  at_ : Nat := 0
  deriving DecidableEq, Repr

/-- A transfer channel beside its registers: the descriptor it took at its start (R135), the bytes read and written, and the bytes in the
holding register with their poison marks (R137, R139). -/
structure XCh where
  desc : List Nat := []
  read : Nat := 0
  written : Nat := 0
  hold : List (Nat × Bool) := []
  /-- bytes of the last write to host memory, with their addresses and poison marks -/
  sent : List (Nat × Nat × Bool) := []
  burst : Option Burst := none
  aborting : Bool := false
  /-- credit of a reserved channel, in 1/1000 byte, as it stood at a time in ns (R146) -/
  credit : Nat := 0
  creditAt : Nat := 0
  deriving DecidableEq, Repr

/-- The transfer engine of a die. Station descriptor entries not listed are zero. -/
structure Xfr where
  chans : List XCh := []
  sdesc : List (Nat × List Nat) := []
  /-- the best-effort channel that issued last, by path and prio, at four times the path plus the prio (R146) -/
  lastOf : List Nat := List.replicate 32 31
  deriving DecidableEq, Repr

/-- The hub's mirror of a station (R88, R122, R169): raster-set table, contexts (commit, release, next) and the scanner's reports. -/
structure Mirror where
  desc : List (Nat × List Nat) := []
  ctx : List (Nat × Nat × Nat) := List.replicate 8 (0, 0, 0)
  /-- the sets that are sealed on the station -/
  sealedSets : List Nat := []
  kind : Nat := 2
  running : Bool := false
  lockOk : Nat := 0
  rph : Nat := 0
  rlk : List Nat := [0, 0, 0]
  forbid : Bool := true
  chgForbid : Bool := false
  deriving DecidableEq, Repr

/-- The hub's raster-set state: sealed sets, a seal that waits for the acknowledgement of stations (R116). -/
structure Rsets where
  sealedSets : List Nat := []
  pend : Option (Nat × List Nat) := none
  deriving DecidableEq, Repr

end Sys2Proof.Machine
end

