-- ==== Sys2Proof/Machine/TypesStn.lean ====
section
/-! DEFINITION. The state of a station's scanner (R152 to R170), pixel clock (R197 to R212), line placement (R176 to R187) and laser channel
(R219 to R237) beside their registers. -/

namespace Sys2Proof.Machine

/-- The running grid: the target tick of the next sweep in 1/1024 tick, the lines of a sweep, and the addressability (R154). -/
structure Grid where
  target : Nat
  lines : Nat
  addr : Nat
  deriving DecidableEq, Repr

/-- A scanner beside its registers. Times are in 1/16 ns. -/
structure Scn where
  grid : Option Grid := none
  /-- consecutive sweeps within acq_tol (R165), settled sweeps (R167), and consecutive BD0 misses (R160) -/
  run : Nat := 0
  settled : Nat := 0
  missRun : Nat := 0
  /-- the shift of a re-phase still to make, 1/1024 tick (R167) -/
  shift : Int := 0
  /-- the command has reached the speed that ACQUIRE or RELOCK goes to; the alignment sweep has started and the phase loop is closed (R165) -/
  atSpeed : Bool := false
  ramped : Bool := false
  /-- the tick of the target at which a switch that waits falls while no lock is held (R154) -/
  swAt : Option Nat := none
  /-- the next sweep start begins LOCKED (R165, R167) -/
  lockNext : Bool := false
  /-- the reference instant, the start and the phase error (1/16 tick) of the coming sweep (R153, R155) -/
  refAt : Option Nat := none
  startAt : Nat := 0
  err : Option Int := none
  fly : Bool := false
  /-- start of the last sweep: time and position in parts of a tick, and the sweep-mean velocity, 1/256 tick per µs (R158) -/
  lastStart : Option (Nat × Nat) := none
  meanVel : Nat := 0
  /-- a sweep is in progress -/
  inSweep : Bool := false
  /-- BD0 instants, latest first; facet intervals, latest first, over 16 revolutions (R160, R161) -/
  bd0 : Option Nat := none
  intervals : List Nat := []
  facet : Nat := 0
  facetKnown : Bool := false
  fidBad : Nat := 0
  /-- facets that have passed, detected or missed, since the first BD0 detection (R161) -/
  bdCount : Nat := 0
  /-- a BD1 mark since the last BD0, and BD0-to-BD1 times by facet, latest first (R161, R198) -/
  bd1Mark : Bool := false
  bd1At : Option Nat := none
  bdToBd1 : List (Nat × Nat) := []
  /-- resonant: last crossing, tracked half-period, prediction correction, amplitude failures, stable half-periods (R155, R162) -/
  crossAt : Option Nat := none
  centre : Option Nat := none
  halfPeriod : Nat := 0
  predCorr : Int := 0
  predicted : Option Nat := none
  ampRun : Nat := 0
  stable : List Nat := []
  /-- speed command of the last ramp step, trim included: rpm, or the drive frequency of the mirror in 1/256 Hz, in millionths (R158, R163);
  and the code of the mirror's DAC (R162) -/
  cmd : Int := 0
  dac : Int := 0
  /-- the scanner has been in SPINUP or SEARCH since, ns (R170) -/
  spinAt : Nat := 0
  deriving DecidableEq, Repr

/-- A pixel PLL and its fabric PLL beside their registers (R205 to R211). -/
structure Cks where
  /-- base rate of the coming sweep, 1/1000 Hz; 0 before the first one is computed -/
  fpx : Nat := 0
  /-- the last sweep's base rate was in the range (R202) -/
  lastOk : Bool := true
  /-- the LFSR of the dither, the modulator's input of the present reference cycle, and the loop bandwidth in kHz (R195, R196) -/
  lfsr : Nat := 1
  modIn : Nat := 0
  /-- the accumulators of the modulator's three stages, the carries that its differences look back on (of the second stage, of the third, and of the
  third one cycle before), and the divider that it gives for the present cycle (R195) -/
  acc1 : Nat := 0
  acc2 : Nat := 0
  acc3 : Nat := 0
  carry2 : Nat := 0
  carry3 : Nat := 0
  carry3' : Nat := 0
  modOut : Int := 0
  bw : Nat := 0
  /-- the steps of R208 of the pixel PLL and of the fabric PLL: 0 none, 1 acquiring, 2 to 5 the divider at 16, 8, 4 and 2 times -/
  px : Nat := 0
  sys : Nat := 0
  /-- the last loss or the present step of the fabric PLL and of the pixel PLL began, ns (R208, R209) -/
  since : Nat := 0
  pxSince : Nat := 0
  /-- the bypass runs from the internal oscillator: its rate divided by 2, kHz (R209) -/
  osc : Option Nat := none
  /-- an apply waits for a sweep start (R204) -/
  applyPend : Bool := false
  /-- the hub's outcome of R209 waits for the frames in progress to close -/
  stopPend : Bool := false
  /-- stations that safe-off at the end of the line in progress -/
  lineEnd : List Nat := []
  deriving DecidableEq, Repr

/-- What LPL has fixed for the present sweep (R176, R183, R186). -/
structure Sweep where
  /-- first row of the sweep: position in 1/1024 tick -/
  base : Nat := 0
  lines : Nat := 0
  addr : Nat := 0
  u : Int := 0
  phi : Int := 0
  facet : Nat := 0
  rev : Bool := false
  blank : Bool := true
  straddle : Bool := false
  /-- the rows of the new job are sent as code 0 (R227) -/
  pageLate : Bool := false
  tblOld : Nat := 0
  tblNew : Nat := 0
  /-- tick at which the new job begins on this station -/
  jobAt : Option Nat := none
  /-- frames whose rows are written; and those owning a row of the sweep, with the rows that a bend brings in (R177, R186, R187) -/
  written : List Nat := []
  owners : List Nat := []
  /-- time of the edge of slot 0 (1/64 ns), and place_tol of the sweep (R187, R193, R201) -/
  firstAt : Nat := 0
  tol : Nat := 0
  /-- the bound of a beam's on-time, 1/4096 ns, times a million (R235) -/
  bound : Nat := 0
  /-- the sweep is written wholly or partly on the bypass clock (R212) -/
  bypass : Bool := false
  /-- the sweep was cut (R210, R234, R235) -/
  cut : Bool := false
  deriving DecidableEq, Repr

/-- A laser channel beside its registers. -/
structure Lsr where
  /-- training (R220): 0 none, 1 idle words, 2 ordered sets, 3 the far end has released the line, 4 control frames sent -/
  train : Nat := 0
  /-- its first step began, and the line went high, ns; train_tmo as it was then (R220) -/
  trainAt : Nat := 0
  highAt : Nat := 0
  tmo : Nat := 0
  /-- table page of the active bank (R227) -/
  page : Nat := 0
  /-- the page of the armed bank has been sent; the page of a switch that has reached its sweep is still owed (R227) -/
  pageSent : Bool := false
  pageOwed : Bool := false
  /-- the tick of the last job on this station, and a late page that has been reported (R227, R239) -/
  jobTick : Option Nat := none
  lateOn : Bool := false
  /-- write_ok has been 1 since, ns, and the re-entry time of that rise, ms (R237) -/
  okSince : Option Nat := none
  reentry : Nat := 0
  /-- next even and odd beam to measure, and the pairs sent in this interval (R230) -/
  apcEven : Nat := 0
  apcOdd : Nat := 1
  apcSent : Nat := 0
  /-- per_sweep and pulse_us as taken at the last sweep start; before it, the registers stand (R241) -/
  perSweep : Option Nat := none
  pulseUs : Option Nat := none
  /-- the delay and the threshold of stray light as taken there; the end of the last active sweep, ns; and the start and the end of each commanded
  pulse that has not ended 1 µs ago, ns (R230, R236) -/
  apcDly : Nat := 2000
  strayThr : Option Nat := none
  endAt : Option Nat := none
  pulses : List (Nat × Nat) := []
  /-- assist pulses that wait for their launch: start and length, ns (R157) -/
  assists : List (Nat × Nat) := []
  /-- beams whose pulse waits for its measurement -/
  apcWait : List Nat := []
  /-- each beam's previous output, Q1.39, and error, Q1.19 (R231), and its run of limit measurements (R232) -/
  beams : List (Nat × Int × Int) := []
  limRun : List (Nat × Nat) := []
  /-- a drive code waits for the next DRIVE frame -/
  drvPend : Bool := false
  /-- the sweep frame of the present sweep has been launched -/
  launched : Bool := false
  /-- T_L of the last sweep frame, 1/64 ns (R223) -/
  launchAt : Nat := 0
  /-- the last sweep header, its columns, and the control frames sent since the last sweep frame, as bytes (R221, R222, R226) -/
  header : List Nat := []
  columns : List (List Nat) := []
  control : List (List Nat) := []
  /-- the link words of the last frames or of the ordered set: eight characters each, a K character 256 above its byte (R217, R219) -/
  tx : List (List Nat) := []
  /-- the pattern of a running test (R226, R240) -/
  test : Option Nat := none
  deriving DecidableEq, Repr

end Sys2Proof.Machine
end

