-- ==== Sys2Proof/Machine/TypesHub.lean ====
section
/-! DEFINITION. The state of registration control beside its registers (R241 to R253). -/

namespace Sys2Proof.Machine

/-- The nominal geometry of a mark, fixed at admission (R243): centres in 1/2048 tick, exposure position in 1/1024 tick, the ticks of its
window (R244), the width tolerance and the reference station. -/
structure MarkGeo where
  frame : Nat
  serial : Nat
  stn : Nat
  sensor : Nat
  cb0 : Nat
  cd0 : Nat
  bar : Nat
  d0 : Nat
  slope : Int
  addr : Nat
  wtol : Nat
  ep : Nat
  openTick : Nat
  closeTick : Nat
  ref : Nat
  /-- the final flag of a frame that has closed -/
  flagged : Bool := false
  deriving DecidableEq, Repr

/-- An open window: none is a diagnostic one. Edges in order, with whether each is a leading one, and its position in 1/16 tick; `bad` is set
by a velocity of zero at an edge or a lost timebase (R245, R246). -/
structure MarkWin where
  sensor : Nat
  geo : Option MarkGeo
  edges : List (Bool × Nat) := []
  bad : Bool := false
  deriving DecidableEq, Repr

/-- A mark that is valid by itself: its errors and the deviation of its straight bar, 1/16 tick (R247). -/
structure MarkRes where
  geo : MarkGeo
  aw : Int
  ax : Int
  width : Int
  deriving DecidableEq, Repr

/-- What RGC keeps for a station (R248 to R253): corrections in 2^-24 of 1/16 tick, the sums of the present block, the run of lost marks,
the effect point of the last update (1/1024 tick), and the stretch term. -/
structure RgcStn where
  corrW : Int := 0
  corrX : Int := 0
  sumW : Int := 0
  sumX : Int := 0
  fill : Nat := 0
  /-- k and gain as taken at the start of the present block (R256) -/
  k : Nat := 8
  gain : Nat := 4
  hold : Bool := false
  missRun : Nat := 0
  effect : Option Nat := none
  stretch : Int := 0
  deriving DecidableEq, Repr

/-- RGC beside its registers. -/
structure Rgc where
  /-- windows that FRM expects, in order of their opening -/
  expected : List MarkGeo := []
  wins : List MarkWin := []
  /-- marks that wait for the reference station's mark of their frame, and what that mark gave -/
  pend : List MarkRes := []
  refs : List (Nat × Option (Int × Int)) := []
  /-- frames whose reference mark has code 7 (R249) -/
  earlyRefs : List Nat := []
  stns : List RgcStn := List.replicate 8 {}
  raw : List (List Nat) := []
  /-- the filtered feedback of the stretch slot, 2^-20 of Q1.19 (R253) -/
  tf : Option Int := none
  /-- t_ref as taken at the last sample (R256) -/
  tRef : Int := 0
  /-- stretch_en in force, and the start of the next str_period, ns (R253, R256) -/
  strOn : Bool := false
  strNext : Nat := 0
  /-- RGC_CTRL.en was set at the last admission or since (R256) -/
  enOn : Bool := false
  /-- stations whose entry counts as en = 0 in the armed and in the active bank (R242) -/
  offArmed : List Nat := []
  offActive : List Nat := []
  /-- the filtered level of each mark input, once an edge has shown it (R241) -/
  levels : List (Option Bool) := List.replicate 8 none
  deriving DecidableEq, Repr

end Sys2Proof.Machine
end

