-- ==== Sys2Proof/Machine/TypesCfg.lean ====
section
/-! DEFINITION. The state of the start (R392 to R400) and of the Lovage store (R375 to R382) beside their registers. -/

namespace Sys2Proof.Machine

/-- Where the part stands in its start (R392, R393). -/
inductive Phase where
  /-- RESET_N is low -/
  | reset
  /-- boot-window mode: the hub SRAM waits for the host's image -/
  | window
  /-- the host is released -/
  | released
  /-- the recovery image runs (R398) -/
  | recovery
  /-- the start has failed and no image runs -/
  | failed
  /-- a test-mode instruction has been loaded (R429) -/
  | test
  deriving DecidableEq, Repr

/-- The start beside its registers. -/
structure Boot where
  phase : Phase := .reset
  /-- station dies held in reset -/
  held : List Nat := []
  /-- RESET_N was released, ns (R370) -/
  startAt : Nat := 0
  /-- boot step 4 has begun: THM runs (R342, R393) -/
  thmOn : Bool := false
  deriving DecidableEq, Repr

/-- What the Lovage store is writing (R376 to R378). -/
inductive LovWork where
  /-- the code words of an append still to write, for partition 3 or 4; the host waits for its result -/
  | append (part : Nat) (host : Bool) (writes : List (Nat × List Nat))
  /-- zeros in a half at the start, from its end down to its append point; the code word to zero next -/
  | zero (part half lo pos : Nat)
  /-- zero to a half's header, at the start: step C4 of a compaction that lost power -/
  | unhead (part half : Nat)
  /-- a compaction into a half with a generation: its step, 1 to 4, the next code word to zero, the base's code words still to write, and the
  length of the base -/
  | compact (part half gen step pos : Nat) (writes : List (Nat × List Nat)) (base : Nat)
  deriving DecidableEq, Repr

/-- A host append that is held (R379). -/
structure JournalReq where
  typ : Nat
  key : Nat
  payload : List (List Nat)
  deriving DecidableEq, Repr

/-- A code word in which every bit is zero. -/
def zeroCw : List Nat := [0, 0, 0, 0]

/-- The Lovage store beside its registers. `cells` holds the code words that are not zero, by partition and code word (the second half of a
journal follows its first), and `bad` those that read uncorrectable. -/
structure Lov where
  cells : List (Nat × List Nat) := []
  bad : List Nat := []
  stage : List Nat := List.replicate 256 0
  held : Option JournalReq := none
  work : List LovWork := []
  /-- next word of the code word that LOV_RD_ADDR names -/
  rdWord : Nat := 0
  deriving DecidableEq, Repr

/-- What the Lovage store holds when the part has been made: the first half of both journals and of the boot record is valid and empty but for key
slot 0 (R376, R390). DESIGN CHOICE (entry 14): the manual gives neither the first generation nor the key, which is taken as 64 zero bytes. -/
def Lov.manufactured : List (Nat × List Nat) :=
  [(0x60000, [0xA0000, 0, 0, 0]), (0x80000, [0xA0000, 0, 0, 0]), (0xA0000, [0xA0000, 0, 0, 0]), (0xA0001, [0xA0107, 0, 0x10, 0]),
   (0xA0009, [0x56888, 0x75, 0, 0])]

/-- The Bay beside its registers: time of the real-time clock in ns, the lines it drives, an accepted standby command whose pd_dly runs, the
main rails being off, and a wake that waits for min_off (R405 to R410). -/
structure Bay where
  rtcNs : Nat := 0
  wakeN : Bool := false
  pwrEn : Bool := true
  standby : Bool := false
  down : Bool := false
  again : Bool := false
  /-- a wake event has asserted PWR_EN since the power went down -/
  woke : Bool := false
  /-- the standby command with its pd_dly and min_off, and the fall of PWR_EN: times in ns (R409, R410, R413) -/
  sbyAt : Nat := 0
  pdNs : Nat := 0
  offNs : Nat := 0
  fallAt : Nat := 0
  /-- archive appends that waited at the standby command (R409) -/
  arcLeft : Nat := 0
  /-- VMAIN has been below its threshold since, ns (R411) -/
  failAt : Option Nat := none
  /-- the last quadrature sample of WEB_WAKE (R406), and the second at which the alarm fired last -/
  quad : Option Nat := none
  alarmSec : Option Nat := none
  /-- the source of a start that has neither failed nor released (R396): 0 slot A, 1 slot B, 2 flash, 3 host, 4 recovery -/
  inStart : Option Nat := none
  deriving DecidableEq, Repr

end Sys2Proof.Machine
end

