-- ==== Sys2Proof/Machine/TypesPort.lean ====
section
/-! DEFINITION. The state of the press link (R420 to R423), of the inspection and finishing ports (R107, R424 to R426), of the interlock
(R427) and of the service and test ports (R428, R429) beside their registers. -/

namespace Sys2Proof.Machine

/-- A Bolvor frame without its start byte and check: type, sequence number and payload (R420). -/
structure PressFrame where
  typ : Nat
  seq : Nat
  payload : List Nat
  deriving DecidableEq, Repr

/-- A frame that waits for its acknowledgement, retry_n and ack_to as it was first sent with, the repeats made, whether it is to be sent again, and the end
of its last transmission, ns (R422, R433). -/
structure PressWait where
  frame : PressFrame
  retry : Nat := 0
  repeats : Nat := 0
  again : Bool := false
  toNs : Nat := 0
  at_ : Nat := 0
  deriving DecidableEq, Repr

/-- The press link beside its registers. -/
structure Plk where
  /-- acknowledgements to send: sequence numbers -/
  acks : List Nat := []
  /-- payloads that wait: FAULT, SLOW, the host MAIL, and whether a STATUS is due -/
  faults : List (List Nat) := []
  slows : List (List Nat) := []
  mail : Option (List Nat) := none
  status : Bool := false
  /-- the frame in transmission -/
  sending : Option PressFrame := none
  /-- its start, ns (R420) -/
  sendAt : Nat := 0
  /-- of a new acked frame in transmission, retry_n and ack_to as it is sent with; nothing of a repeat, which goes out to its end even if its
  acknowledgement comes before (R422, R423, R433) -/
  fresh : Option (Nat × Nat) := none
  /-- the last periodic STATUS with the period it began, ns; none has begun while that is 0 (R421, R433) -/
  statusAt : Nat := 0
  statusNs : Nat := 0
  /-- the last valid frame, with lost_ms as it was then, ns (R423, R433) -/
  heardAt : Nat := 0
  lostNs : Nat := 0
  /-- acked frames sent and not yet acknowledged or dropped, one of a type -/
  waits : List PressWait := []
  /-- next sequence number to send by type; the last accepted one by type -/
  seqs : List (Nat × Nat) := []
  last : List (Nat × Nat) := []
  /-- the receive FIFO, and the byte of its oldest message that is read next -/
  rx : List (List Nat) := []
  rxPos : Nat := 0
  txBuf : List Nat := List.replicate 64 0
  /-- serial of the last closed frame (R421) -/
  lastClosed : Nat := 0
  deriving DecidableEq, Repr

/-- The line triggers of a started frame still to come (R424): the position of line 0 in 1/1024 tick, pitch, lines and divider, the next line. -/
structure LineTrig where
  base : Nat
  pitch : Nat
  lines : Nat
  div : Nat
  next : Nat := 0
  deriving DecidableEq, Repr

/-- The line ports: tags queued (the one in transmission first), pending REJECT positions of both outputs, the end times (ns) of the pulses
on FTRIG0, FTRIG1, LTRIG, FMARK, REJ0 and REJ1, line triggers to come, the level of WEBPULSE, and the times of the interlock. -/
structure Ports where
  tags : List (List Nat) := []
  /-- the tag in transmission began, ns -/
  tagAt : Nat := 0
  rejects : List (List Nat) := [[], []]
  outs : List (Option Nat) := List.replicate 6 none
  lines : List LineTrig := []
  webPulse : Bool := false
  /-- mot_dly of the opening is running, and ends at, ns -/
  motDly : Bool := false
  motAt : Nat := 0
  /-- the interlock inputs have differed since, ns, and that has been reported (R427) -/
  discAt : Option Nat := none
  discSaid : Bool := false
  deriving DecidableEq, Repr

/-- The service port and the TAP: a response is being sent and what it holds, a baud to take effect after it, the instruction register, and
whether test mode holds the part (R428, R429). -/
structure Svc where
  responding : Bool := false
  response : List Nat := []
  baud : Nat := 0
  /-- the response began, ns -/
  respAt : Nat := 0
  ir : Nat := 1
  deriving DecidableEq, Repr

end Sys2Proof.Machine
end

