-- ==== Sys2Proof/Machine/TypesAxs.lean ====
section
/-! DEFINITION. The state of the motion profiles (R314 to R328) and of thermal management (R332 to R339) beside their registers. -/

namespace Sys2Proof.Machine

/-- The web profile: speed in 10^-13 of 1/256 tick per µs, acceleration in 10^-5 mm/s² (R314 to R317), and whether the web channel was in
RUN at the last step. -/
structure Prof where
  v : Nat := 0
  a : Int := 0
  ran : Bool := false
  /-- the F-class stop or the orderly stop drives the web until the package is IDLE again (R314), and has begun to -/
  stop : Bool := false
  stopBegun : Bool := false
  /-- the stop has driven the web to zero (R314) -/
  atZero : Bool := false
  /-- sequence number of the next microstep frame, and the bytes and slot words of the last one sent (R326) -/
  seq : Nat := 0
  frame : List Nat := []
  deriving DecidableEq, Repr

/-- An axis: position in 2^-16 microstep, speed in 10^-6 microstep/s, acceleration in 10^-1 microstep/s² (R319 to R324). -/
structure Axis where
  pos : Int := 0
  v : Int := 0
  a : Int := 0
  /-- the offset of the table address that the preset command changes (R319) -/
  phase : Nat := 0
  /-- a disable command, or an F-class stop, takes the axis to rest: the state it then enters -/
  toRest : Option Nat := none
  /-- a target has been written since the last step (R320, R322) -/
  newTgt : Bool := false
  /-- the acceleration and deceleration in force, which a write changes at jerk (R321) -/
  accEff : Int := 0
  decEff : Int := 0
  /-- vmax in force in a trapezoidal profile, and its rate, which a write changes at jerk (R321) -/
  vmaxEff : Int := 0
  vmaxRate : Int := 0
  /-- extended encoder count, and the count that stands as the measured position; none before the first reply -/
  count : Int := 0
  raw : Option Nat := none
  /-- the measured position, 2^-12 microstep, and counts held against the commanded direction (R323) -/
  measured : Int := 0
  backlog : Int := 0
  dir : Int := 0
  /-- consecutive deviations and bad replies (R324, R327) -/
  devRun : Nat := 0
  badRun : Nat := 0
  /-- the present deviation or loss, and the fault bit of the last reply, have been reported -/
  stallOn : Bool := false
  lostOn : Bool := false
  fltOn : Bool := false
  deriving DecidableEq, Repr

/-- A die's thermal state: for each sensor the consecutive good conversions since it failed; the same for the external inputs; the good
samples of the two gates; and the consecutive conversions at or above warn and crit, and below their clear limits (R332 to R337). -/
structure ThmDie where
  good : List Nat := List.replicate 8 0
  extGood : List Nat := List.replicate 4 0
  wrGood : Nat := 0
  chgGood : Nat := 0
  warnRun : Nat := 0
  critRun : Nat := 0
  coolRun : Nat := 0
  deriving DecidableEq, Repr

/-- The package's thermal state: a bound that is in force (R336), the finish point of FINISH (R338), the release count runs (R337); and the times, ns,
at which the grace timer and the release count end. -/
structure Thm where
  bound : Bool := false
  pfin : Nat := 0
  releasing : Bool := false
  graceAt : Nat := 0
  releaseAt : Nat := 0
  deriving DecidableEq, Repr

end Sys2Proof.Machine
end

