-- ==== Sys2Proof/Machine/State.lean ====
section
/-! DEFINITION. The state of the block, its faults and refusals, and the state after reset.
Every software-visible register of every die lives in `regs`; what the manual gives the part beside its registers lives in one structure
per block. -/

namespace Sys2Proof.Machine

/-- Why the block could stop with a fault. No command of this manual faults the block; the type is closed and empty of causes but one that
no meaning raises. -/
inductive Fault where
  /-- Raised by no meaning. Safe. -/
  | none
  deriving DecidableEq, Repr

/-- Why a command could be refused by the model. -/
inductive Refusal where
  /-- Raised by an arm of exec whose command has no meaning yet. Safe. -/
  | notModelled (mnemonic : String)
  deriving DecidableEq, Repr

/-- A store of register words by BAR0 byte offset (R25, R444): only words that differ from their reset value are listed. -/
abbrev Store := List (Nat × Word)

/-- The block. -/
structure State where
  /-- the number S of stations of the variant (R1) -/
  nStn : Nat
  /-- ns since release of RESET_N, advanced by each timebase update -/
  now : Nat
  /-- the model's own counter of free values taken -/
  freeCtr : Nat
  /-- commands waiting, first in first out -/
  pending : List Instr
  /-- every register of every die; B-class fields hold the active bank -/
  regs : Store
  /-- the staged and the armed bank of the B-class fields (R93) -/
  staged : Store
  armed : Store
  /-- the copies in use of the tables that an apply command takes over (R184, R204) -/
  inUse : Store
  hostPath : PathRegs
  svcPath : PathRegs
  /-- the hold registers of the REG_OP paths (R64) -/
  opHold : List (Option Nat)
  wtb : Wtb
  /-- die links and replicas, by station number; entry 0 is unused -/
  links : List Link
  /-- cue engines by die -/
  cues : List Cue
  frm : Frm
  flt : Flt
  evr : Evr
  hif : Hif
  /-- loop engines and high-voltage blocks by die -/
  lpes : List Lpe
  hvcs : List Hvc
  /-- stations by number; entry 0 is unused -/
  stations : List Stn
  fsr : Fsr
  /-- motor channels of each die: drives 0 to 3 and, at index 4, the polygon channel -/
  chans : List (List Chan)
  buses : List Bus
  /-- memories by die, transfer engines by die, raster-set state, and the hub's mirrors by station -/
  mems : List Mems
  xfrs : List Xfr
  rins : List Rin
  rsets : Rsets
  mirrors : List Mirror
  /-- scanner, clocks, present sweep and laser channel, by station (clocks by die) -/
  scns : List Scn
  ckss : List Cks
  sweeps : List Sweep
  lsrs : List Lsr
  rgc : Rgc
  /-- the web profile, the stepper axes, thermal management by die and for the package -/
  prof : Prof
  axes : List Axis
  thms : List ThmDie
  thm : Thm
  /-- the press link, the line ports, the service and test ports -/
  plk : Plk
  ports : Ports
  svc : Svc
  boot : Boot
  lov : Lov
  bay : Bay
  deriving DecidableEq, Repr

/-- The block right after reset: a QG7880 (seven stations) with every register at its reset value. -/
def State.reset : State where
  nStn := 7
  now := 0
  freeCtr := 0
  pending := []
  regs := []
  staged := []
  armed := []
  inUse := []
  hostPath := {}
  svcPath := {}
  opHold := List.replicate 8 none
  wtb := {}
  links := List.replicate 8 {}
  cues := List.replicate 8 {}
  frm := {}
  flt := {}
  evr := {}
  hif := {}
  lpes := List.replicate 8 {}
  hvcs := List.replicate 8 {}
  stations := List.replicate 8 {}
  fsr := {}
  chans := List.replicate 8 (List.replicate 5 {})
  buses := List.replicate 8 {}
  mems := List.replicate 8 {}
  xfrs := { chans := List.replicate 32 {} } :: List.replicate 7 { chans := List.replicate 8 {} }
  rins := List.replicate 8 {}
  rsets := {}
  mirrors := List.replicate 8 {}
  scns := List.replicate 8 {}
  ckss := List.replicate 8 {}
  sweeps := List.replicate 8 {}
  lsrs := List.replicate 8 {}
  rgc := {}
  prof := {}
  axes := List.replicate 8 {}
  thms := List.replicate 8 {}
  thm := {}
  plk := {}
  ports := {}
  svc := {}
  boot := {}
  lov := { cells := Lov.manufactured }
  bay := {}

end Sys2Proof.Machine
end

