-- ==== Sys2Proof/Machine/Store.lean ====
section
/-! DEFINITION. Sparse stores in one canonical form: pairs of a key and a value, keys strictly rising, and no pair whose value is what an
unlisted key reads as. Registers, banks and buffer bytes are kept so. -/

namespace Sys2Proof.Machine

variable {α : Type} [DecidableEq α]

/-- What a store holds at a key; `dflt` is what an unlisted key reads as. -/
def storeGet (m : List (Nat × α)) (k : Nat) (dflt : α) : α :=
  match m with
  | [] => dflt
  | (k', v) :: t => if k' = k then v else storeGet t k dflt

/-- The store without a key. -/
def storeDel (m : List (Nat × α)) (k : Nat) : List (Nat × α) :=
  match m with
  | [] => []
  | (k', v) :: t => if k' = k then storeDel t k else (k', v) :: storeDel t k

/-- The store with a value put at a key, listed whatever the value. -/
def storePut (m : List (Nat × α)) (k : Nat) (v : α) : List (Nat × α) :=
  match m with
  | [] => [(k, v)]
  | (k', v') :: t =>
    if k' = k then (k, v) :: t
    else if k < k' then (k, v) :: (k', v') :: t
    else (k', v') :: storePut t k v

/-- The store after a write: a value equal to what an unlisted key reads as is not listed. -/
def storeSet (m : List (Nat × α)) (k : Nat) (v dflt : α) : List (Nat × α) :=
  match m with
  | [] => if v = dflt then [] else [(k, v)]
  | (k', v') :: t =>
    if k' = k then (if v = dflt then storeDel t k else (k, v) :: t)
    else if k < k' then (if v = dflt then (k', v') :: storeDel t k else (k, v) :: (k', v') :: t)
    else (k', v') :: storeSet t k v dflt

/-- The canonical form: keys strictly rising, and no entry equal to what the key reads as when it is not listed. -/
def storeWf (dflt : Nat → α) : List (Nat × α) → Bool
  | [] => true
  | [(k, v)] => decide (v ≠ dflt k)
  | (k, v) :: (k', v') :: t => decide (v ≠ dflt k) && decide (k < k') && storeWf dflt ((k', v') :: t)

end Sys2Proof.Machine
end

