-- ==== Sys2Proof/Machine/Ops.lean ====
section
/-! DEFINITION. The named operations over registers and the shared state: reading and writing a field or a 40-bit pair, counters, free values,
die look-ups, interrupts, event records and fault reports. -/

namespace Sys2Proof.Machine

/-- Outcome of a command of this block. -/
abbrev Out := Host.Outcome State Fault Refusal

/-! ### Registers -/

/-- The BAR0 byte offset of a register of a die (R25). -/
def regKey (die off : Nat) : Nat := die * 0x100000 + off

/-- A register word (its active bank, for a banked field). -/
def State.rdWord (s : State) (die off : Nat) : Word := storeGet s.regs (regKey die off) (keyReset (regKey die off))

/-- Sets a register word. -/
def State.wrWord (s : State) (die off : Nat) (w : Word) : State :=
  { s with regs := storeSet s.regs (regKey die off) w (keyReset (regKey die off)) }

/-- Reads a field. -/
def State.rd (s : State) (die : Nat) (f : Fld) : Nat := getBits (s.rdWord die f.off) f.hi f.lo

/-- Sets a field, leaving the other bits of its word. -/
def State.wr (s : State) (die : Nat) (f : Fld) (v : Nat) : State :=
  s.wrWord die f.off (setBits (s.rdWord die f.off) f.hi f.lo v)

/-- The width of a field. -/
def Fld.width (f : Fld) : Nat := f.hi + 1 - f.lo

/-- Reads a signed field. -/
def State.rdS (s : State) (die : Nat) (f : Fld) : Int := sgn f.width (s.rd die f)

/-- Sets a signed field, saturating at what it holds. -/
def State.wrS (s : State) (die : Nat) (f : Fld) (v : Int) : State := s.wr die f (unsgn f.width (satS f.width v))

/-- Sets an unsigned field, saturating at what it holds. -/
def State.wrSat (s : State) (die : Nat) (f : Fld) (v : Nat) : State := s.wr die f (satN f.width v)

/-- A one-bit field as a truth value. -/
def State.on (s : State) (die : Nat) (f : Fld) : Bool := s.rd die f != 0

/-- Sets a one-bit field. -/
def State.wrB (s : State) (die : Nat) (f : Fld) (b : Bool) : State := s.wr die f (b2n b)

/-- Advances a saturating counter. -/
def State.bump (s : State) (die : Nat) (f : Fld) (n : Nat := 1) : State := s.wrSat die f (s.rd die f + n)

/-- Advances a wrapping counter. -/
def State.bumpWrap (s : State) (die : Nat) (f : Fld) : State := s.wr die f (s.rd die f + 1)

/-- A maximum register takes a new value if it is larger. -/
def State.raiseTo (s : State) (die : Nat) (f : Fld) (v : Nat) : State :=
  if s.rd die f < v then s.wrSat die f v else s

/-- Reads a LO/HI pair by the offset of its LO half (R16). -/
def State.rd40 (s : State) (die off : Nat) : Nat := (s.rdWord die off).toNat + 0x100000 * (s.rdWord die (off + 4)).toNat

/-- Sets a LO/HI pair in one step. -/
def State.wr40 (s : State) (die off v : Nat) : State :=
  (s.wrWord die off (BitVec.ofNat 20 v)).wrWord die (off + 4) (BitVec.ofNat 20 (v / 0x100000))

/-- Sets every register of a list of fields to zero. -/
def State.clearAll (s : State) (die : Nat) (fs : List Fld) : State := fs.foldl (fun s f => s.wr die f 0) s

/-- The staged value of a banked field (R93). -/
def State.rdStaged (s : State) (die : Nat) (f : Fld) : Nat :=
  getBits (storeGet s.staged (regKey die f.off) (keyReset (regKey die f.off))) f.hi f.lo

/-- Sets a banked field in the staged bank. -/
def State.wrStaged (s : State) (die : Nat) (f : Fld) (v : Nat) : State :=
  let w := storeGet s.staged (regKey die f.off) (keyReset (regKey die f.off))
  { s with staged := storeSet s.staged (regKey die f.off) (setBits w f.hi f.lo v) (keyReset (regKey die f.off)) }

/-- The value of a banked field in the armed bank (R93). -/
def State.rdArmed (s : State) (die : Nat) (f : Fld) : Nat :=
  getBits (storeGet s.armed (regKey die f.off) (keyReset (regKey die f.off))) f.hi f.lo

/-- The value in use of a field that an apply command takes over (R184, R204). -/
def State.rdUse (s : State) (die : Nat) (f : Fld) : Nat :=
  getBits (storeGet s.inUse (regKey die f.off) (keyReset (regKey die f.off))) f.hi f.lo

/-- The entries of a store between two die-relative offsets of a die. -/
def storeRange (m : Store) (die lo hi : Nat) : Store :=
  m.filter fun e => decide (regKey die lo ≤ e.1) && decide (e.1 < regKey die hi)

/-- A store with the words of a die between two offsets replaced by those of another. -/
def storeCopyRange (dst src : Store) (die lo hi : Nat) : Store :=
  dst.filter (fun e => decide (e.1 < regKey die lo)) ++ storeRange src die lo hi
    ++ dst.filter (fun e => decide (regKey die hi ≤ e.1))

/-- The registers whose store key satisfies a test return to their reset values. -/
def State.dropRegs (s : State) (p : Nat → Bool) : State := { s with regs := s.regs.filter fun e => !p e.1 }

/-- A number as bytes, little-endian. -/
def leBytes (v : Nat) : Nat → List Nat
  | 0 => []
  | k + 1 => v % 256 :: leBytes (v / 256) k

/-! ### Dies -/

/-- A die the variant has (R1, R2). -/
def State.hasDie (s : State) (d : Nat) : Bool := decide (d ≤ s.nStn)

/-- A station the variant has. -/
def State.hasStn (s : State) (n : Nat) : Bool := decide (1 ≤ n) && decide (n ≤ s.nStn)

/-- A station whose gated blocks are powered: SCN with the polygon channel, LPL, LSR and the pixel PLL of a station that the topology of the image
leaves unused are not, and take no command (R404, R456). -/
def State.stnPowered (s : State) (n : Nat) : Bool :=
  s.hasStn n && (s.boot.phase != .released || s.on 0 (F.CFG_STN_used n))

/-- The stations, in order. -/
def State.stns (s : State) : List Nat := List.range' 1 s.nStn

/-- The present dies, in order. -/
def State.dies (s : State) : List Nat := List.range (s.nStn + 1)

/-- Applies a function for each element of a list, in order. -/
def State.each {α : Type} (s : State) (l : List α) (f : α → State → State) : State := l.foldl (fun s a => f a s) s

def State.link (s : State) (n : Nat) : Link := s.links.getD n {}
def State.modLink (s : State) (n : Nat) (f : Link → Link) : State := { s with links := s.links.modify n f }
def State.cue (s : State) (d : Nat) : Cue := s.cues.getD d {}
def State.modCue (s : State) (d : Nat) (f : Cue → Cue) : State := { s with cues := s.cues.modify d f }
def State.modWtb (s : State) (f : Wtb → Wtb) : State := { s with wtb := f s.wtb }
def State.modFrm (s : State) (f : Frm → Frm) : State := { s with frm := f s.frm }
def State.modFlt (s : State) (f : Flt → Flt) : State := { s with flt := f s.flt }
def State.modEvr (s : State) (f : Evr → Evr) : State := { s with evr := f s.evr }

def State.lpe (s : State) (d : Nat) : Lpe := s.lpes.getD d {}
def State.modLpe (s : State) (d : Nat) (f : Lpe → Lpe) : State := { s with lpes := s.lpes.modify d f }
def State.hvc (s : State) (d : Nat) : Hvc := s.hvcs.getD d {}
def State.modHvc (s : State) (d : Nat) (f : Hvc → Hvc) : State := { s with hvcs := s.hvcs.modify d f }
def State.stn (s : State) (n : Nat) : Stn := s.stations.getD n {}
def State.modStn (s : State) (n : Nat) (f : Stn → Stn) : State := { s with stations := s.stations.modify n f }

def State.modFsr (s : State) (f : Fsr → Fsr) : State := { s with fsr := f s.fsr }
def State.chan (s : State) (d k : Nat) : Chan := (s.chans.getD d []).getD k {}
def State.modChan (s : State) (d k : Nat) (f : Chan → Chan) : State := { s with chans := s.chans.modify d fun l => l.modify k f }

def State.bus (s : State) (d : Nat) : Bus := s.buses.getD d {}
def State.modBus (s : State) (d : Nat) (f : Bus → Bus) : State := { s with buses := s.buses.modify d f }

def State.mem (s : State) (d : Nat) : Mems := s.mems.getD d {}
def State.modMem (s : State) (d : Nat) (f : Mems → Mems) : State := { s with mems := s.mems.modify d f }
def State.xch (s : State) (d c : Nat) : XCh := (s.xfrs.getD d {}).chans.getD c {}
def State.modXch (s : State) (d c : Nat) (f : XCh → XCh) : State :=
  { s with xfrs := s.xfrs.modify d fun x => { x with chans := x.chans.modify c f } }
def State.rin (s : State) (n : Nat) : Rin := s.rins.getD n {}
def State.modRin (s : State) (n : Nat) (f : Rin → Rin) : State := { s with rins := s.rins.modify n f }
def State.mirror (s : State) (n : Nat) : Mirror := s.mirrors.getD n {}
def State.modMirror (s : State) (n : Nat) (f : Mirror → Mirror) : State := { s with mirrors := s.mirrors.modify n f }
def State.scn (s : State) (n : Nat) : Scn := s.scns.getD n {}
def State.modScn (s : State) (n : Nat) (f : Scn → Scn) : State := { s with scns := s.scns.modify n f }
def State.cks (s : State) (d : Nat) : Cks := s.ckss.getD d {}
def State.modCks (s : State) (d : Nat) (f : Cks → Cks) : State := { s with ckss := s.ckss.modify d f }
def State.sweep (s : State) (n : Nat) : Sweep := s.sweeps.getD n {}
def State.modSweep (s : State) (n : Nat) (f : Sweep → Sweep) : State := { s with sweeps := s.sweeps.modify n f }
def State.lsr (s : State) (n : Nat) : Lsr := s.lsrs.getD n {}
def State.modLsr (s : State) (n : Nat) (f : Lsr → Lsr) : State := { s with lsrs := s.lsrs.modify n f }

def State.modRgc (s : State) (f : Rgc → Rgc) : State := { s with rgc := f s.rgc }
def State.modRgcStn (s : State) (n : Nat) (f : RgcStn → RgcStn) : State :=
  s.modRgc fun r => { r with stns := r.stns.modify n f }

def State.modProf (s : State) (f : Prof → Prof) : State := { s with prof := f s.prof }
def State.axis (s : State) (x : Nat) : Axis := s.axes.getD x {}
def State.modAxis (s : State) (x : Nat) (f : Axis → Axis) : State := { s with axes := s.axes.modify x f }
def State.thmDie (s : State) (d : Nat) : ThmDie := s.thms.getD d {}
def State.modThmDie (s : State) (d : Nat) (f : ThmDie → ThmDie) : State := { s with thms := s.thms.modify d f }
def State.modThm (s : State) (f : Thm → Thm) : State := { s with thm := f s.thm }
def State.modPlk (s : State) (f : Plk → Plk) : State := { s with plk := f s.plk }
def State.modPorts (s : State) (f : Ports → Ports) : State := { s with ports := f s.ports }
def State.modLov (s : State) (f : Lov → Lov) : State := { s with lov := f s.lov }
def State.modBay (s : State) (f : Bay → Bay) : State := { s with bay := f s.bay }
def State.modSvc (s : State) (f : Svc → Svc) : State := { s with svc := f s.svc }
def State.modHif (s : State) (f : Hif → Hif) : State := { s with hif := f s.hif }
def State.modBoot (s : State) (f : Boot → Boot) : State := { s with boot := f s.boot }
def State.modRsets (s : State) (f : Rsets → Rsets) : State := { s with rsets := f s.rsets }
def State.modXfr (s : State) (d : Nat) (f : Xfr → Xfr) : State := { s with xfrs := s.xfrs.modify d f }
def State.modOpHold (s : State) (f : List (Option Nat) → List (Option Nat)) : State := { s with opHold := f s.opHold }
def State.modArmed (s : State) (f : Store → Store) : State := { s with armed := f s.armed }
def State.modInUse (s : State) (f : Store → Store) : State := { s with inUse := f s.inUse }
def State.modNow (s : State) (f : Nat → Nat) : State := { s with now := f s.now }
def State.modFree (s : State) (f : Nat → Nat) : State := { s with freeCtr := f s.freeCtr }

/-- The registers of a requester path (R451). -/
def State.path (s : State) : Path → PathRegs
  | .host => s.hostPath
  | .service => s.svcPath
def State.modPath (s : State) (p : Path) (f : PathRegs → PathRegs) : State :=
  match p with
  | .host => { s with hostPath := f s.hostPath }
  | .service => { s with svcPath := f s.svcPath }

/-- The host reaches the registers: after release, in recovery and in test mode (R27, R392, R393). -/
def State.hostSees (s : State) : Bool := s.boot.phase == .released || s.boot.phase == .recovery || s.boot.phase == .test

/-- The service port is served from the release of RESET_N (R428). -/
def State.svcServed (s : State) : Bool := s.boot.phase != .reset && !s.bay.down

/-- A requester reaches the registers. -/
def State.pathOpen (s : State) (p : Path) : Bool :=
  match p with
  | .host => s.hostSees
  | .service => s.svcServed

/-- What a read returns on its path. -/
def State.answer (s : State) (p : Path) (ws : List Nat) : State := s.modPath p fun r => { r with data := ws }

/-- A fresh free value: the opaque constant applied to the model's counter, which advances. -/
def State.takeFree (s : State) : Nat × State := (Config.free s.freeCtr, s.modFree fun k => k + 1)

/-! ### The timebases -/

/-- The published web position (R43, R45). -/
def State.pos (s : State) : Nat := s.rd40 0 P.WTB_POS

/-- The published velocity, 1/256 tick per µs, never negative (R45). -/
def State.vel (s : State) : Nat := s.rd 0 F.WTB_VEL_vel

/-- Parts of a tick in which replica positions are kept: a velocity of 1/256 tick per µs moves 16 of them in one ns. -/
abbrev tickParts : Nat := 4096000

/-- The position of a die's own timebase, in parts of a tick (R35, R51). -/
def State.tbPos (s : State) (d : Nat) : Nat := if d = 0 then s.pos * tickParts else (s.link d).rep

/-- The position of a die's own timebase, in whole ticks. -/
def State.tbTick (s : State) (d : Nat) : Nat := s.tbPos d / tickParts

/-- The velocity of a die's own timebase (R43, R51). -/
def State.tbVel (s : State) (d : Nat) : Nat := if d = 0 then s.vel else s.rd d F.CUE_REP_VEL_rep_vel

/-- The signed distance from a die's timebase to a tick, in parts of a tick (R13). -/
def State.tbTo (s : State) (d tick : Nat) : Int :=
  let m : Int := ((two40 * tickParts : Nat) : Int)
  let x := ((tick * tickParts : Nat) - (s.tbPos d : Int)) % m
  if x < m / 2 then x else x - m

/-- The die's own timebase has reached a tick. -/
def State.reached (s : State) (d tick : Nat) : Bool := decide (s.tbTo d tick ≤ 0)

/-! ### Interrupts (R418, R419) -/

/-- Raises the source of an MSI-X vector: a pending bit that is set already merges it (R418). -/
def State.irq (s : State) (v : Nat) : State :=
  let f : Fld := ⟨0xE0020 + 4 * (v / 16), v % 16, v % 16⟩
  if s.on 0 f then s
  else
    let s := s.wr 0 f 1
    if s.hif.masked.contains v then s.modHif fun h => { h with pba := v :: h.pba }
    else s.modHif fun h => { h with lastMsg := some v, msgCount := h.msgCount + 1 }

/-- The state that a command's meaning answers. -/
def State.after (s : State) (f : State → Out) : State :=
  match f s with
  | .next t => t
  | _ => s

/-! ### Event records (R370 to R373) -/

/-- The eight words of a record as it is written to the ring (R370). -/
def recordWords (lap : Nat) (r : EvrReq) : List Nat :=
  [0xA * 0x10000 + b2n r.crit * 0x8000 + r.kind % 8 * 0x1000 + lap % 4096, r.ident % 0x100000, r.at40 % 0x100000,
   r.at40 / 0x100000 % 0x100000, r.time % 0x100000, r.time / 0x100000 % 0x100000, satN 20 r.rep, r.arg % 0x100000]

/-- The seconds of the Bay's real-time clock (R406). -/
def State.rtcSec (s : State) : Nat := s.bay.rtcNs / 1000000000 % 0x100000000

/-- A critical record joins the eight-entry archive queue with the real-time clock's seconds, or is lost and counted (R372, R376). -/
def State.archivePush (s : State) (ws : List Nat) : State :=
  if !s.on 0 F.EVR_CTRL_arc_en then s
  else if s.evr.arcQ.length < 8 then s.modEvr fun e => { e with arcQ := e.arcQ ++ [ws ++ [s.rtcSec % 0x100000, s.rtcSec / 0x100000, 0, 0]] }
  else s.bump 0 F.LOV_ARC_LOST_lost

/-- The queue level is what EVR_STATUS shows. -/
def State.evrLevel (s : State) : State := s.wr 0 F.EVR_STATUS_q_level s.evr.queue.length

/-- Adds one to the repeat count of the queue entries of the same source (R371). -/
def mergeReq (q : List EvrReq) (r : EvrReq) : List EvrReq :=
  q.map fun e => if e.kind = r.kind ∧ e.ident = r.ident then { e with rep := satN 20 (e.rep + 1) } else e

/-- A request to the recorder: counted while frozen, else merged with a queued one of its source, queued, or lost (R371, R373). -/
def State.evrRequest (s : State) (kind : Nat) (crit : Bool) (ident at40 time arg : Nat) : State :=
  let r : EvrReq := ⟨kind, crit, ident, at40, (time - s.boot.startAt) / 1000, 0, arg⟩
  if s.evr.frozen then
    let s := (s.bump 0 F.EVR_FRZ_CNT_frz).modEvr fun e => { e with frzRefused := satN 20 (e.frzRefused + 1) }
    let s := s.wr 0 F.EVR_STATUS_frz_s 1
    if crit then s.archivePush (recordWords s.evr.lap r) else s
  else if s.evr.queue.any (fun e => decide (e.kind = kind ∧ e.ident = ident)) then
    s.modEvr fun e => { e with queue := mergeReq e.queue r }
  else if s.evr.queue.length < 64 then (s.modEvr fun e => { e with queue := e.queue ++ [r] }).evrLevel
  else
    let s := (s.bump 0 F.EVR_LOST_lost).wr 0 F.EVR_STATUS_lost_s 1
    if s.evr.queue.any (fun e => decide (e.kind = 2)) then
      s.modEvr fun e => { e with queue := e.queue.map fun q => if q.kind = 2 then { q with ident := satN 20 (q.ident + 1) } else q }
    else s.modEvr fun e => { e with pendLost := satN 20 (e.pendLost + 1) }

/-- A request that carries the present position and time. -/
def State.evrNow (s : State) (kind : Nat) (crit : Bool) (ident arg : Nat) : State :=
  s.evrRequest kind crit ident s.pos s.now arg

/-! ### Fault reports (R343, R345) -/

/-- Positions of the blocks in the collector of the hub (R344). -/
def hubPos : Blk → Nat
  | .hif => 0 | .plk => 1 | .isp => 2 | .fin => 2 | .svc => 2 | .wtb => 3 | .cue => 4 | .frm => 5 | .rin => 6
  | .xfr => 7 | .rgc => 8 | .lpe => 9 | .hvc => 10 | .fsr => 11 | .mdr => 12 | .axs => 13 | .thm => 14 | .mem => 15
  | .evr => 16 | .lov => 16 | .cfg => 17 | .cks => 18 | _ => 19

/-- Positions of the blocks in the collector of a station (R344). -/
def stnPos : Blk → Nat
  | .cue => 0 | .rin => 1 | .xfr => 2 | .scn => 3 | .lpl => 4 | .cks => 5 | .lsr => 6 | .lpe => 7 | .hvc => 8
  | .mdr => 9 | .thm => 10 | .mem => 11 | _ => 12

/-- Positions of the blocks in the collector of a die (R344). -/
def fltPos (die : Nat) (blk : Blk) : Nat := if die = 0 then hubPos blk else stnPos blk

/-- The f_active level of a position of a die (R343). -/
def State.setActive (s : State) (die : Nat) (blk : Blk) (b : Bool) : State :=
  s.wr die ⟨F.FLT_F_ACTIVE_f_active.off, fltPos die blk, fltPos die blk⟩ (b2n b)

/-- A source of hub position 19 becomes active or ends: the level is the sum of a link loss, the interlock and the supply sources (R33,
R411, R427). -/
def State.setHub19 (s : State) (c : Nat) (b : Bool) : State :=
  let s := s.modFlt fun f => { f with hub19 := if b then (if f.hub19.contains c then f.hub19 else c :: f.hub19) else f.hub19.filter (· ≠ c) }
  s.setActive 0 .dlk (!s.flt.hub19.isEmpty)

/-- A cause bit of R103. -/
def causeBit (n : Nat) : Nat := 2 ^ n

/-! ### Frames -/

/-- FRM holds an admitted frame or an armed switch (R92). -/
def State.frmRuns (s : State) : Bool :=
  !s.frm.frames.isEmpty || !s.frm.switches.isEmpty || s.dies.any fun d => s.on d F.CUE_BANK_STATUS_armed

/-- The frames in progress for the package (R83). -/
def State.framesInProgress (s : State) : List Nat := (s.frm.frames.filter (·.started)).map (·.id)

/-- The frames in progress on a station (R83). -/
def State.framesOn (s : State) (n : Nat) : List Nat :=
  (s.frm.frames.filter fun f => f.onStn.testBit (n - 1) && !f.offStn.testBit (n - 1)).map (·.id)

/-- A frame with its flag set, a cause added and, for a station-level outcome, the station's bit (R102). -/
def Frame.flag (f : Frame) (stn cause : Nat) : Frame :=
  { f with flagged := true, cause := f.cause ||| cause, stnFlag := if stn = 0 then f.stnFlag else f.stnFlag ||| 2 ^ (stn - 1) }

/-- Flags the frames of a list with a cause and, for a station-level outcome, the station's bit (R102). -/
def State.flagFrames (s : State) (ids : List Nat) (stn cause : Nat) : State :=
  let fresh := (s.frm.frames.filter fun f => ids.contains f.id && !f.flagged).length
  let upd := fun (f : Frame) => if ids.contains f.id then f.flag stn cause else f
  (s.bump 0 F.FRM_FLAG_CNT_flag_cnt fresh).modFrm fun m => { m with frames := m.frames.map upd }

end Sys2Proof.Machine
end

