-- ==== Sys2Proof/Machine/SafeOff.lean ====
section
/-! DEFINITION. The hardware gates that several blocks share: loop slots whose output stage is switched off (R271), the zero code of the
high-voltage outputs (R279, R280), the safe-off line of a station (R233), reaction shadows (R354), and the fault report of a detector
with the local safe-off of an F-class source (R38). -/

namespace Sys2Proof.Machine

/-! ### Loop slots as others act on them -/

/-- Slot states (R270). -/
def slotOff : Nat := 0
def slotRamp : Nat := 1
def slotRun : Nat := 2
def slotForced : Nat := 3
def slotFaulted : Nat := 4

/-- The number of slots of a die (R257). -/
def slotCount (d : Nat) : Nat := if d = 0 then 48 else 24

/-- A slot of a die. -/
def State.slot (s : State) (d i : Nat) : Slot := ((s.lpe d).slots.lookup i).getD {}

/-- The list with an entry for a key replaced, or added at its end. -/
def assocSet {α : Type} (l : List (Nat × α)) (k : Nat) (v : α) : List (Nat × α) :=
  match l with
  | [] => [(k, v)]
  | (k', v') :: t => if k' = k then (k, v) :: t else (k', v') :: assocSet t k v

def State.modSlot (s : State) (d i : Nat) (f : Slot → Slot) : State :=
  s.modLpe d fun l => { l with slots := assocSet l.slots i (f ((l.slots.lookup i).getD {})) }

/-- The state of a slot as its status register shows it (R270). -/
def State.slotState (s : State) (d i : Nat) : Nat := s.rd d (F.LPE_SLOT_STATUS_state i)

/-- The hard limits of a slot: hw_lo above hw_hi acts as hw_hi (R265). -/
def State.slotHard (s : State) (d i : Nat) : Int × Int :=
  let hi := s.rdS d (F.LPE_SLOT_HW_HI_hw_hi i)
  (min (s.rdS d (F.LPE_SLOT_HW_LO_hw_lo i)) hi, hi)

/-- The safe output of a slot, clamped to its hard limits (R276). -/
def State.slotSafe (s : State) (d i : Nat) : Int :=
  let (lo, hi) := s.slotHard d i
  clampI lo hi (s.rdS d (F.LPE_SLOT_SAFE_safe i))

/-- The high-voltage channel that an output code names on a die (R262). -/
def hvChannel (d dst : Nat) : Option Nat :=
  if d = 0 then (if 0x10 ≤ dst ∧ dst ≤ 0x17 then some (dst - 0x10) else none) else (if dst ≤ 3 then some dst else none)

/-- The zero code of a channel: 2,048 for a bipolar supply, else 0 (R279). -/
def State.hvZero (s : State) (d c : Nat) : Nat := if s.rd d (F.HVC_CH_CFG_pol c) = 2 then 2048 else 0

/-- The command code of an output (R279); pol 0b11 acts as unipolar. -/
def State.hvCode (s : State) (d c : Nat) (out : Int) : Nat :=
  if s.rd d (F.HVC_CH_CFG_pol c) = 2 then (2048 + out / 256).toNat
  else if out < 0 then 0 else (out / 128).toNat

/-- A channel gated by the charge window of its station while charge_ok is 0 (R282). -/
def State.chargeGated (s : State) (d c : Nat) : Bool :=
  decide (d ≠ 0) && !s.on d F.HVC_STATUS_charge_ok && (s.rd d F.HVC_CTRL_chg_gate).testBit c

/-- A high-voltage channel under safe-off or charge gate (R280, R282). -/
def State.hvBlocked (s : State) (d dst : Nat) : Bool :=
  match hvChannel d dst with
  | some c => s.on d F.HVC_STATUS_safeoff || s.chargeGated d c
  | none => false

/-- A slot's feedback or output code on the motor channels: the channel it names (R262). Index 4 is the polygon channel. -/
def motorCode (d code : Nat) : Option Nat :=
  if d = 0 then (if 0x20 ≤ code ∧ code ≤ 0x23 then some (code - 0x20) else none)
  else match code with
    | 0x20 => some 4
    | 0x21 => some 0
    | 0x22 => some 1
    | _ => none

/-- auto_stby and idle_s take effect at a frame close, where the idle time begins (R285, R290); while FSR does not run, a write binds at once
(R19). -/
def State.fsrTakeAuto (s : State) : State :=
  s.modFsr fun f => { f with autoStby := s.on 0 F.FSR_CTRL_auto_stby, idleAt := s.now, idleS := s.rd 0 F.FSR_IDLE_idle_s }

/-- A heater that an output code names on the hub (R262). -/
def heaterOf (d dst : Nat) : Option Nat := if d = 0 ∧ 0x18 ≤ dst ∧ dst ≤ 0x1B then some (dst - 0x18) else none

/-- The fuser holds a heater's slot off: in OFF and TRIP, and without mains for a burst or phase heater (R285, R286); and the Bay's trip latch (R339). -/
def State.heaterBlocked (s : State) (h : Nat) : Bool :=
  let st := s.rd 0 F.FSR_STATUS_state
  st == 0 || st == 4 || s.on 0 F.BAY_STATUS_trip || (!s.on 0 F.FSR_STATUS_mains_ok && (s.rd 0 (F.FSR_HTR_CFG_mode h) == 1 || s.rd 0 (F.FSR_HTR_CFG_mode h) == 2))

/-- A motor channel that hardware has stopped on its own fault (R271, R308). -/
def State.motorBlocked (s : State) (d k : Nat) : Bool := (s.chan d k).faulted

/-- The context slots that serve the power control of a station's laser (R231). -/
def State.apcSlots (s : State) (n : Nat) : List Nat :=
  [s.rd n F.LSR_APC_CFG_slot0, s.rd n F.LSR_APC_CFG_slot1].filter fun i => s.on n (F.LPE_SLOT_CFG_ctx i)

/-- The laser of a station is held off, or under a write-forbid: its power-control slots are FORCED (R233, R237, R271). -/
def State.laserBlocked (s : State) (n : Nat) : Bool := s.on n F.LSR_STATUS_lso || s.on n F.LSR_STATUS_forbid

/-- Hardware holds the output stage of a slot of power control off. -/
def State.apcBlocked (s : State) (d i : Nat) : Bool := decide (d ≠ 0) && (s.apcSlots d).contains i && s.laserBlocked d

/-- Hardware holds the output stage of a code off (R271). -/
def State.stageBlocked (s : State) (d dst : Nat) : Bool :=
  s.hvBlocked d dst
    || (match heaterOf d dst with
      | some h => s.heaterBlocked h
      | none => false)
    || (match motorCode d dst with
      | some k => s.motorBlocked d k
      | none => false)

/-- A slot's output reaches its destination: the code of a high-voltage channel, unless hardware holds the channel at its zero code. -/
def State.slotDrive (s : State) (d i : Nat) (out : Int) : State :=
  let s := (s.modSlot d i fun x => { x with out := out }).wrS d (F.LPE_SLOT_OUT_out i) out
  match hvChannel d (s.rd d (F.LPE_SLOT_SRC_out_dst i)) with
  | none => s
  | some c =>
    s.wr d (F.HVC_CH_CODE_code c)
      (if s.hvBlocked d (s.rd d (F.LPE_SLOT_SRC_out_dst i)) then s.hvZero d c else s.hvCode d c out)

/-- A velocity of 1/256 tick per µs as a fraction of 256 ticks per µs (R262). -/
def velQ19 (v : Nat) : Int := satS 20 ((v : Int) * 8)

/-- The feed-forward signal of a slot (R262): 400 V, 1,000 V and the channel's acceleration are full scale. -/
def State.slotForward (s : State) (d i : Nat) : Int :=
  match s.rd d (F.LPE_SLOT_SRC_ff_src i) with
  | 1 => if d = 0 then satS 20 (rdiv ((s.rd 0 F.FSR_MAINS_VRMS_vrms : Int) * 524288) 4000) else 0
  | 2 => satS 20 (rdiv ((s.rd d F.MDR_BUS_V_v : Int) * 524288) 10000)
  | 3 => match motorCode d (s.rd d (F.LPE_SLOT_SRC_out_dst i)) with
    | some k => satS 20 (rdiv ((s.chan d k).accel * 524288) (max 1 (s.rd d (F.MDR_CH_ACC_FS_acc_fs k))))
    | none => 0
  | 4 => velQ19 (s.tbVel d)
  | _ => 0

/-- A limit of Q1.19 in Q1.39. -/
def q39 (x : Int) : Int := x * 1048576

/-- The limits in force: lim_hi and lim_lo clamped to the hard limits (R265). -/
def State.slotLimits (s : State) (d i : Nat) : Int × Int :=
  let (lo, hi) := s.slotHard d i
  (clampI lo hi (s.rdS d (F.LPE_SLOT_LIM_LO_lim_lo i)), clampI lo hi (s.rdS d (F.LPE_SLOT_LIM_HI_lim_hi i)))

/-- While a slot's output is held safe its law stands at safe + kff·f; sat reads 1 while that lies at a limit (R263, R271). -/
def State.slotAtSafe (s : State) (d i : Nat) : State :=
  let f := s.slotForward d i
  let u := satS 40 (q39 (s.slotSafe d i) + s.rdS d (F.LPE_SLOT_KFF_kff i) * f * 256)
  let (lo, hi) := s.slotLimits d i
  (s.modSlot d i fun x => { x with u := u, fPrev := f }).wrB d (F.LPE_SLOT_STATUS_sat i) (decide (u ≤ q39 lo ∨ q39 hi ≤ u))

/-- A slot in RAMP or RUN whose output stage is switched off enters FORCED and writes its safe output (R271). -/
def State.forceSlot (s : State) (d i : Nat) : State :=
  if s.slotState d i = slotRamp ∨ s.slotState d i = slotRun then
    ((s.wr d (F.LPE_SLOT_STATUS_state i) slotForced).slotAtSafe d i).slotDrive d i (s.slotSafe d i)
  else s

/-- A slot in FORCED whose stage is released starts again from the measured value, and counts plaus_hold afresh (R271). -/
def State.releaseSlot (s : State) (d i : Nat) : State :=
  if s.slotState d i = slotForced then
    (s.wr d (F.LPE_SLOT_STATUS_state i) (if s.on d (F.LPE_SLOT_CFG_ctx i) then slotRun else slotRamp)).modSlot d i
      fun x => { x with seeded := false, count := 0, outside := 0, hold := s.rd d (F.LPE_SLOT_PLAUS_plaus_hold i) }
  else s

/-- The slots of a station's power control start again once nothing holds its laser off (R271). -/
def State.releaseApc (s : State) (n : Nat) : State :=
  if s.laserBlocked n then s else s.each (s.apcSlots n) fun i s => s.releaseSlot n i

/-- The slots of a die whose output code satisfies a test. -/
def State.slotsOnto (s : State) (d : Nat) (p : Nat → Bool) : List Nat :=
  (List.range (slotCount d)).filter fun i => p (s.rd d (F.LPE_SLOT_SRC_out_dst i))

/-- Forces the slots of a die onto destinations that satisfy a test. -/
def State.forceOnto (s : State) (d : Nat) (p : Nat → Bool) : State :=
  s.each (s.slotsOnto d p) fun i s => s.forceSlot d i

/-- Releases the slots of a die onto destinations that satisfy a test: what each has written last reaches its destination again (R270). -/
def State.releaseOnto (s : State) (d : Nat) (p : Nat → Bool) : State :=
  s.each (s.slotsOnto d p) fun i s => (s.releaseSlot d i).slotDrive d i (s.slot d i).out

/-! ### Reaction shadows (R354) -/

/-- The high-voltage channel whose feedback input a code names: HVBUS feedback on the hub, ADC channels 0 to 3 on a station (R262, R278). -/
def hvInput (d fb : Nat) : Option Nat :=
  if d = 0 then (if 0x10 ≤ fb ∧ fb ≤ 0x17 then some (fb - 0x10) else none) else if fb ≤ 3 then some fb else none

/-- The feedback source of a slot reads a high-voltage feedback input (R354). -/
def State.readsHv (s : State) (d i : Nat) : Bool := (hvInput d (s.rd d (F.LPE_SLOT_SRC_fb_src i))).isSome

/-- A monitor's reading in Q1.19 of full scale, in volts (R279, R289). It stays until the next reading of the input (DESIGN CHOICE, log entry 261). -/
def State.showHv (s : State) (d c : Nat) (y : Int) : State := s.wrS d (F.HVC_CH_FB_fb c) (rdiv (y * s.rd d (F.HVC_CH_CFG_fs c) * 10) 524288)

/-- The codes of a die's channels follow their polarity: the zero code while hardware holds a channel, else that of the slot that drives it
(R279, R280). -/
def State.hvShow (s : State) (d : Nat) : State :=
  s.each (List.range (if d = 0 then 8 else 4)) fun c s =>
    match (List.range (slotCount d)).find? fun i => hvChannel d (s.rd d (F.LPE_SLOT_SRC_out_dst i)) == some c with
    | some i => s.slotDrive d i (s.slot d i).out
    | none => s.wr d (F.HVC_CH_CODE_code c) (s.hvZero d c)

/-- The web drive or a tension drive of the hub stands behind a slot (R262). -/
def State.tensionSlot (s : State) (d i : Nat) : Bool :=
  decide (d = 0) && (motorCode 0 (s.rd 0 (F.LPE_SLOT_SRC_out_dst i))).isSome

/-- A shadow covers a detector (the table of R354). -/
def State.covers (s : State) (sh : Shadow) (x : Detector) : Bool :=
  match sh, x with
  | .hvForced d, .plaus d' i => d == d' && s.readsHv d i
  | .slotFault d i, .plaus d' j =>
    d == d' && i != j &&
      (s.rd d (F.LPE_SLOT_SRC_fb_src i) == s.rd d (F.LPE_SLOT_SRC_fb_src j)
        || (s.on d (F.LPE_SLOT_CFG_casc j) && s.rd d (F.LPE_SLOT_CFG_sp_slot j) == i))
  | .lsoAsserted d, .apcLimit d' => d == d'
  | .lsoAsserted d, .strayLight d' => d == d'
  | .lsoAsserted d, .markCode d' c => d == d' && decide (1 ≤ c ∧ c ≤ 4)
  | .lsoAsserted d, .markLoss d' => d == d'
  | .motorStop d k, .follow d' k' => d == d' && k != k'
  | .motorStop d k, .fbLoss d' k' => d == d' && k != k'
  | .motorStop d _, .busUv d' => d == d'
  | .motorStop d _, .chopSlope d' => d == d'
  | .motorStop d k, .plaus d' i =>
    d == d' && (motorCode d (s.rd d (F.LPE_SLOT_SRC_fb_src i)) == some k || motorCode d (s.rd d (F.LPE_SLOT_SRC_out_dst i)) == some k)
  | .webStop, .scnSpeed _ => true
  | .webStop, .webReverse => true
  | .webStop, .encMismatch => true
  | .webStop, .follow d k => d != 0 && k == 0
  | .webStop, .plaus d i => s.tensionSlot d i
  | .webStop, .markCode _ c => c == 3
  | .interlock, .gateFault _ _ => true
  | .interlock, .busUv _ => true
  | .interlock, .stageLost _ => true
  | .interlock, .stageFault _ => true
  | .interlock, .apcLimit _ => true
  | .interlock, .plaus _ _ => true
  | .hubBypass, .cueLate => true
  | .hubBypass, .repCoh _ => true
  | .hubBypass, .bcastMiss _ => true
  | .hubBypass, .replay _ => true
  | .hubBypass, .lpeOverrun => true
  | .scnLost d, .markCode d' c => d == d' && decide (1 ≤ c ∧ c ≤ 4)
  | .scnLost d, .markLoss d' => d == d'
  | .heatersOff, .plaus d i => d == 0 && decide (0x18 ≤ s.rd 0 (F.LPE_SLOT_SRC_out_dst i) ∧ s.rd 0 (F.LPE_SLOT_SRC_out_dst i) ≤ 0x1B)
  | .xfrHalt d k, .lateCommit n c => if d = 0 then s.rd 0 (F.XFR_CH_CFG_req_sel k) == 8 * (n - 1) + c + 1 else d == n
  | _, _ => false

/-- The die and the position whose detectors a shadow may blank, for FLT_SHADOW. -/
def State.shadowed (s : State) (x : Detector) : Bool := s.flt.shadows.any fun sh => s.covers sh x

/-- The interval of a shadow that one bounds, ns (R354). -/
def State.shadowSpan (s : State) : Shadow → Option Nat
  | .hvForced d => some (1000000 * s.rd d F.HVC_DIS_dis_ms)
  | .slotFault _ _ => some 500000000
  | .motorStop _ _ => some 500000000
  | _ => none

/-- A shadow begins (R354). One that begins again ends with the later of the two. -/
def State.beginShadow (s : State) (sh : Shadow) : State :=
  let s := match s.shadowSpan sh with
    | some n => s.modFlt fun f => { f with shadowT := (sh, s.now + n) :: f.shadowT.filter fun x => x.1 ≠ sh }
    | none => s
  if s.flt.shadows.contains sh then s else s.modFlt fun f => { f with shadows := f.shadows ++ [sh] }

/-! ### Wake events (R407, R410) -/

/-- A wake event asserts PWR_EN with the power down; between an accepted standby command and the fall it waits for min_off (R410). -/
def State.wakePower (s : State) : State :=
  if s.bay.down then s.modBay fun b => { b with pwrEn := true, woke := true, again := false }
  else if s.bay.standby then s.modBay fun b => { b with again := true }
  else s

/-- The consequences of an event: WAKE_N where it is enabled, and power where it is enabled. -/
def State.wakeActs (s : State) (wake pwr : Bool) : State :=
  let s := if wake then s.modBay fun b => { b with wakeN := true } else s
  if pwr then s.wakePower else s

/-- The event of comparator c: its cause bit, and, but for COVER and WEB_WAKE with the rails up, its actions (R407). -/
def State.cmpEvent (s : State) (c : Nat) : State :=
  let s := s.wr 0 ⟨F.BAY_WAKE_CAUSE_cmp.off, c, c⟩ 1
  if (c = 1 ∨ c = 2) ∧ !s.bay.down ∧ !s.bay.standby then s
  else s.wakeActs (s.on 0 (F.BAY_CMP_CFG_wake_en c)) (s.on 0 (F.BAY_CMP_CFG_pwr_en c))

/-! ### Safe-off -/

/-- A station's later sweeps blank for a reason, until a frame start after it has cleared (R103). -/
def State.addBlank (s : State) (n : Nat) (b : Blank) : State :=
  if (s.stn n).blanks.contains b then s else s.modStn n fun x => { x with blanks := x.blanks ++ [b] }

/-- The idle word of a laser link: K28.5 on every lane (R217). -/
abbrev idleWord : List Nat := List.replicate 8 444

/-- A cause drives the safe-off line of a station low; the slots of its power control are forced (R233, R271). A training past its first step is
abandoned and begins again with that step, /I/ on every lane (R220). -/
def State.assertLine (s : State) (n : Nat) (c : LineCause) : State :=
  let again := decide (2 ≤ (s.lsr n).train)
  let s := if again then s.modLsr n fun x => { x with train := 1, trainAt := s.now, control := [], tx := [idleWord] } else s
  let cs := if again then [c, .farEnd] else [c]
  let s := s.modStn n fun x => { x with line := cs.foldl (fun l c => if l.contains c then l else l ++ [c]) x.line }
  ((s.wr n F.LSR_STATUS_lso 1).each (s.apcSlots n) fun i s => s.forceSlot n i).beginShadow (.lsoAsserted n)

/-- A cause of the safe-off line ends; the line is released with the last of them (R233). A training that the last own cause kept from its
ordered sets begins at its first step (R220). -/
def State.releaseLine (s : State) (n : Nat) (c : LineCause) : State :=
  let s := s.modStn n fun x => { x with line := x.line.filter (· ≠ c) }
  let now := s.now
  let s := if (s.lsr n).train = 1 ∧ ((s.stn n).line.all fun x => x == .farEnd) then s.modLsr n fun x => { x with trainAt := now } else s
  if (s.stn n).line.isEmpty then ((s.wr n F.LSR_STATUS_lso 0).modLsr n fun x => { x with highAt := now }).releaseApc n else s

/-- The high-voltage channels of a die (R278). -/
def hvCount (d : Nat) : Nat := if d = 0 then 8 else 4

/-- The channels of a die with a slot that is not OFF (R281). -/
def State.hvActive (s : State) (d : Nat) : List Nat :=
  (List.range (hvCount d)).filter fun c =>
    !(s.slotsOnto d fun dst => hvChannel d dst == some c).all fun i => s.slotState d i == slotOff

/-- The high-voltage outputs of a die go to their zero codes and its slots to FORCED; each live channel is watched for its discharge
(R280, R281). -/
def State.hvSafeOff (s : State) (d : Nat) (c : LineCause) : State :=
  let on := !(s.hvc d).causes.isEmpty
  let s := s.modHvc d fun h => { h with causes := if h.causes.contains c then h.causes else h.causes ++ [c] }
  if on then s
  else
    let s := s.wr d F.HVC_STATUS_safeoff 1
    let live := s.hvActive d
    let s := s.forceOnto d fun dst => (hvChannel d dst).isSome
    let s := s.each (List.range (hvCount d)) fun c s => s.wr d (F.HVC_CH_CODE_code c) (s.hvZero d c)
    let (thr, ms) := (s.rd d F.HVC_DIS_dis_thr, s.rd d F.HVC_DIS_dis_ms)
    let s := s.modHvc d fun h => { h with watch := live.map fun c => (c, s.now), disThr := thr, disMs := ms }
    s.beginShadow (.hvForced d)

/-- A cause of the high-voltage safe-off ends; with the last of them the outputs are released and their slots start again (R280). -/
def State.hvRelease (s : State) (d : Nat) (c : LineCause) : State :=
  let s := s.modHvc d fun h => { h with causes := h.causes.filter (· ≠ c) }
  if (s.hvc d).causes.isEmpty && s.on d F.HVC_STATUS_safeoff then
    (s.wr d F.HVC_STATUS_safeoff 0).releaseOnto d fun dst => match hvChannel d dst with
      | some ch => !s.chargeGated d ch
      | none => false
  else s

/-- The safe-off of a die: its high voltage and, on a station, its laser (R38, R233, R280). -/
def State.safeOffDie (s : State) (d : Nat) : State :=
  let s := s.hvSafeOff d .fclass
  if d = 0 then s
  else
    (s.assertLine d .fclass).addBlank d .fclass

/-! ### Reports (R343, R345) -/

/-- A report leaves its die for the hub collector. One that its position promotes is an F report with cause 18, and its die takes its
local safe-off first (R38, R345, R347). -/
def State.post (s : State) (r : Report) : State :=
  if r.cls != .f && s.on r.die ⟨F.FLT_REACT_promote.off, r.pos, r.pos⟩ then
    let all := r.frames ++ s.framesInProgress.filter fun i => !r.frames.contains i
    (s.safeOffDie r.die).modFlt fun f => { f with inbox := f.inbox ++ [{ r with cls := .f, cause := causeBit 18, frames := all }] }
  else s.modFlt fun f => { f with inbox := f.inbox ++ [r] }

/-- A block of a die reports. -/
def State.report (s : State) (die : Nat) (blk : Blk) (src : Nat) (cls : FClass) (cause : Nat) (frames : List Nat) : State :=
  s.post { die := die, pos := fltPos die blk, src := src, cls := cls, cause := cause, frames := frames, at40 := s.pos, time := s.now }

/-- A C-class event of a block (R22). -/
def State.reportC (s : State) (die : Nat) (blk : Blk) (src : Nat := 0) : State := s.report die blk src .c 0 []

/-- The source index of a refusal: 9 for RIN, whose C-class sources all have it (R129). -/
def rejectSrc (blk : Blk) : Nat := if blk = .rin then 9 else 0

/-- Refuses a write or a command: the block's write_reject bit is set and a C-class event is reported (R19). -/
def State.reject (s : State) (die : Nat) (blk : Blk) (f : Fld) : State := (s.wr die f 1).reportC die blk (rejectSrc blk)

/-- A detector that a shadow covers is counted and kept for the shadow's end; any other reports (R354). -/
def State.detect (s : State) (x : Detector) (die : Nat) (blk : Blk) (src : Nat) (cls : FClass) (cause : Nat)
    (frames : List Nat) : State :=
  if s.shadowed x then
    let p := fltPos die blk
    let r : Report := { die := die, pos := p, src := src, cls := cls, cause := cause, frames := frames, at40 := s.pos, time := s.now }
    (s.bump die (F.FLT_SHADOWED_shadowed p)).modFlt fun f =>
       { f with held := (f.held.filter fun h => h.1 ≠ x ∨ h.2.src ≠ src) ++ [(x, r)] }
  else s.report die blk src cls cause frames

/-- An F-class source: its die is safe before the report leaves it (R38), unless the cause defers the safe-off. -/
def State.raiseF (s : State) (die : Nat) (blk : Blk) (src : Nat) (cause : Nat) (frames : List Nat) (defer : Bool := false) : State :=
  let s := if defer then s else s.safeOffDie die
  s.report die blk src .f (causeBit cause) frames

/-- An F-class detector that a shadow may cover: the local safe-off takes place in either case (R38, R354). -/
def State.detectF (s : State) (x : Detector) (die : Nat) (blk : Blk) (src : Nat) (cause : Nat) (frames : List Nat) : State :=
  (s.safeOffDie die).detect x die blk src .f (causeBit cause) frames

end Sys2Proof.Machine
end

