-- ==== Sys2Proof/Machine/Mem.lean ====
section
/-! DEFINITION. Memory integrity (R362 to R369): code words and their errors, the merge buffer of the large memories, the scrubbers and the
flip mask; and reading and writing the bytes of a hub SRAM or station buffer. -/

namespace Sys2Proof.Machine

/-! ### Code words (R362 to R364) -/

/-- The difference of a poisoned word: its check bits inverted (R362). -/
abbrev poisonMask : Nat := 0xFF * 2 ^ 80

/-- The difference between the stored bits of a code word and an encoded word. -/
def State.memErr (s : State) (d m w : Nat) : Nat := storeGet ((s.mem d).errs.getD m []) w 0

def State.setMemErr (s : State) (d m w e : Nat) : State :=
  s.modMem d fun x => { x with errs := x.errs.modify m fun l => storeSet l w e 0 }

/-- The bits of a difference. -/
def maskBits (e : Nat) : List Nat := (List.range 88).filter fun i => e.testBit i

/-- The number of ones of a column. -/
def weight (c : Nat) : Nat := ((List.range 8).filter fun i => c.testBit i).length

/-- The columns of the data bits are distinct: all 56 of weight three and 24 of weight five (R362). -/
def columnsOk (l : List Nat) : Bool :=
  decide (l.length = 80) && decide l.Nodup && (l.all fun c => decide (c < 256 ∧ (weight c = 3 ∨ weight c = 5)))
    && decide ((l.filter fun c => weight c == 3).length = 56)

/-- The columns of the data bits. The manual does not say which bit has which: the free values of the configuration are taken where they are
such columns, and the columns in rising order else. -/
def dataColumns : List Nat :=
  let l := (List.range 80).map Config.eccColumn
  if columnsOk l then l
  else (List.range 256).filter (fun c => weight c == 3) ++ ((List.range 256).filter fun c => weight c == 5).take 24

/-- The column of a bit of the code word: check bit i has the column of weight one at i (R362). -/
def bitColumn (i : Nat) : Nat := if i < 80 then dataColumns.getD i 0 else 2 ^ (i - 80)

/-- The syndrome of a difference: the sum of the columns of its bits (R362). -/
def syndromeOf (e : Nat) : Nat :=
  (maskBits e).foldl (fun a i => a ^^^ bitColumn i) 0

/-- Classes of a read (R362). -/
inductive EccClass where
  | clean | correctable | uncorrectable
  deriving DecidableEq, Repr

/-- The bit that a correction inverts: that of a single error, or of three or more in odd number the one whose column equals the syndrome
(R362). -/
def eccHit (e : Nat) : Option Nat :=
  match maskBits e with
  | [i] => some i
  | l => if 3 ≤ l.length ∧ l.length % 2 = 1 then (List.range 88).find? fun i => bitColumn i == syndromeOf e else none

/-- The class of a difference by its syndrome: columns are distinct and of odd weight, so that one bit is correctable, two bits and any
even number are not, unless the syndrome is 0, and an odd number is where the syndrome equals a column (R362). -/
def eccClass (e : Nat) : EccClass :=
  match maskBits e with
  | [] => .clean
  | [_] => .correctable
  | [_, _] => .uncorrectable
  | l =>
    if l.length % 2 = 1 then (if (eccHit e).isSome then .correctable else .uncorrectable)
    else if syndromeOf e = 0 then .clean else .uncorrectable

/-- Memory kinds (R364). -/
inductive MemKind where
  | raster | control | record
  deriving DecidableEq, Repr

def memKind (d m : Nat) : MemKind := if m = 0 then .raster else if d = 0 ∧ m = 5 then .record else .control

/-- The error record of a memory. -/
def State.memRecord (s : State) (d m w e : Nat) : State :=
  (s.wr d (F.MEM_M_STATUS_syndrome m) (syndromeOf e)).wr40 d (P.MEM_M_ADDR m) w

/-- A correctable error is counted, and the word with its bit inverted is written back (R363). -/
def State.memCE (s : State) (d m w e : Nat) : State :=
  let left := match eccHit e with
    | some i => e ^^^ 2 ^ i
    | none => e
  (((s.bump d (F.MEM_M_CE_CNT_ce_cnt m)).memRecord d m w e).setMemErr d m w left).reportC d .mem m

/-- An uncorrectable read is counted; the outcome follows the kind (R364). -/
def State.memUE (s : State) (d m w e : Nat) (kind : MemKind) : State :=
  let s := ((s.bump d (F.MEM_M_UE_CNT_ue_cnt m)).wr d (F.MEM_M_STATUS_ue_s m) 1).memRecord d m w e
  let s := s.wrB d (F.MEM_M_STATUS_poison m) (syndromeOf e == 0xFF)
  match kind with
  | .raster => s
  | .control => s.raiseF d .mem m 18 s.framesInProgress
  | .record => s.reportC d .mem m

/-- A write stores a code word; an armed flip of that memory is applied to it (R368). -/
def State.memStored (s : State) (d m w : Nat) (poison : Bool) : State :=
  let e := if poison then poisonMask else 0
  match (s.mem d).flip with
  | some (m', f) =>
    if m' = m then
      (((s.modMem d fun x => { x with flip := none }).wr d F.MEM_STATUS_armed 0).wr d F.MEM_STATUS_flip_done_s 1).setMemErr d m w (e ^^^ f)
    else s.setMemErr d m w e
  | none => s.setMemErr d m w e

/-! ### Hub SRAM and station buffers (R113, R365, R366) -/

/-- Bytes of the large memory of a die: 16 MiB on the hub, 64 MiB on a station (R113, R128). -/
def bufSize (d : Nat) : Nat := if d = 0 then 0x1000000 else 0x4000000

/-- The stored byte, as it was encoded. -/
def State.bufByte (s : State) (d a : Nat) : Nat := storeGet (s.mem d).bytes a 0

def State.setBufByte (s : State) (d a v : Nat) : State := s.modMem d fun x => { x with bytes := storeSet x.bytes a (v % 256) 0 }

/-- The byte of a stored word as it stands, its errors not corrected: byte b holds data bits 79 − 8b to 72 − 8b (R113). -/
def State.rawByte (s : State) (d a : Nat) : Nat := s.bufByte d a ^^^ (s.memErr d 0 (a / 10) / 2 ^ (72 - 8 * (a % 10)) % 256)

/-- The bytes of a word as a read returns them: an error that its syndrome hides is in them (R362). -/
def State.settleWord (s : State) (d w : Nat) : State :=
  if s.memErr d 0 w = 0 then s else s.each ((List.range 10).map fun b => (10 * w + b, s.rawByte d (10 * w + b))) fun x s => s.setBufByte d x.1 x.2

/-- Bytes are merged into an uncorrectable word, which is counted (R366). -/
def State.mergeUE (s : State) (d m w e : Nat) : State :=
  let s := ((s.bump d (F.MEM_M_UE_CNT_ue_cnt m)).wr d (F.MEM_M_STATUS_merge_ue_s m) 1).memRecord d m w e
  s.wrB d (F.MEM_M_STATUS_poison m) (syndromeOf e == 0xFF)

/-- The entry holds its whole code word: ten bytes, or the four words of a word of registers (R365). -/
def MergeEntry.whole (x : MergeEntry) : Bool := x.bytes.length == if x.mem = 0 then 10 else 4

/-- The bytes of an entry go into the large memory; the registers hold their values already. -/
def State.putEntry (s : State) (d : Nat) (x : MergeEntry) : State :=
  if x.mem = 0 then s.each x.bytes fun (b : Nat × Nat) s => s.setBufByte d (10 * x.word + b.1) b.2 else s

/-- The stored word stands as a read returns it, before bytes are merged into it. -/
def State.settleEntry (s : State) (d : Nat) (x : MergeEntry) : State := if x.mem = 0 then s.settleWord d x.word else s

/-- A merge entry is flushed (R366): a full mask without a read; a partial mask reads and corrects the stored word, and merges into an
uncorrectable one, whose other bytes stay as they are stored, as a poisoned word. -/
def State.flushEntry (s : State) (d : Nat) (x : MergeEntry) : State :=
  let s := s.modMem d fun m => { m with merge := m.merge.filter fun y => y.mem ≠ x.mem ∨ y.word ≠ x.word }
  if x.whole then (s.putEntry d x).memStored d x.mem x.word x.poison
  else
    let e := s.memErr d x.mem x.word
    match eccClass e with
    | .clean => ((s.settleEntry d x).putEntry d x).memStored d x.mem x.word x.poison
    | .correctable => (((s.memCE d x.mem x.word e).settleEntry d x).putEntry d x).memStored d x.mem x.word x.poison
    | .uncorrectable => (((s.mergeUE d x.mem x.word e).settleEntry d x).putEntry d x).memStored d x.mem x.word true

/-- Every held entry of a memory whose word satisfies a test is flushed, oldest first. -/
def State.flushMem (s : State) (d m : Nat) (p : Nat → Bool) : State :=
  s.each ((s.mem d).merge.filter fun x => x.mem == m && p x.word) fun x s => s.flushEntry d x

/-- The same of the large memory. -/
def State.flushWhere (s : State) (d : Nat) (p : Nat → Bool) : State := s.flushMem d 0 p

/-- Every held entry is flushed, as a commit or a completion asks (R366). -/
def State.flushAll (s : State) (d : Nat) : State := s.each (s.mem d).merge fun x s => s.flushEntry d x

/-- A write of bytes of one code word: a whole word is stored directly, a part goes through the merge buffer of the memory (R365). -/
def State.mergeIn (s : State) (d m w : Nat) (bytes : List (Nat × Nat)) (poison : Bool) : State :=
  let x : MergeEntry := { mem := m, word := w, bytes := bytes, poison := poison, at_ := s.now }
  if x.whole then (s.flushMem d m (· == w)).flushEntry d x
  else match (s.mem d).merge.find? fun y => y.mem == m && y.word == w with
    | some y =>
      let y := { y with bytes := bytes.foldl (fun (l : List (Nat × Nat)) b => storePut l b.1 b.2) y.bytes, poison := y.poison || poison }
      if y.whole then s.flushEntry d y
      else s.modMem d fun z => { z with merge := z.merge.map fun (e : MergeEntry) => if e.mem = m ∧ e.word = w then y else e }
    | none =>
      let own := (s.mem d).merge.filter fun y => y.mem == m
      let s := match own.head? with
        | some y => if 4 ≤ own.length then s.flushEntry d y else s
        | none => s
      s.modMem d fun z => { z with merge := z.merge ++ [{ x with bytes := bytes.foldl (fun (l : List (Nat × Nat)) b => storePut l b.1 b.2) [] }] }

/-- The bytes of a write that lie in one code word of the large memory. -/
def State.writeChunk (s : State) (d w : Nat) (bytes : List (Nat × Nat)) (poison : Bool) : State := s.mergeIn d 0 w bytes poison

/-- A block reads a code word: a held entry of it is flushed first (R366); its class, with the counts and reports it gives rise to. -/
def State.memRead (s : State) (d m w : Nat) (kind : MemKind) : EccClass × State :=
  let s := s.flushMem d m (· == w)
  let e := s.memErr d m w
  match eccClass e with
  | .clean => (.clean, s)
  | .correctable => (.correctable, s.memCE d m w e)
  | .uncorrectable => (.uncorrectable, s.memUE d m w e kind)

/-! ### Control memories (R364) -/

/-- The code word of a memory that holds a register: four 20-bit words to a code word. The manual gives no addresses for memories 4 to 6: a word
stands at its register's offset (DESIGN CHOICE, log entry 213). -/
def ctlWord (m off : Nat) : Nat := (off - (if m = 4 then 0x30000 else if m = 5 then 0x90000 else 0)) / 16

/-- A register of a control memory is written: a quarter of its code word (R365). -/
def State.ctlWrite (s : State) (d m off : Nat) : State := s.mergeIn d m (ctlWord m off) [(off / 4 % 4, 0)] false

/-- A block reads the words of a range of offsets: an error in them has the outcome of R363 or R364. -/
def State.ctlRead (s : State) (d m lo hi copy : Nat) : State :=
  let inside := fun w => decide (ctlWord m lo + copy ≤ w ∧ w ≤ ctlWord m (hi - 1) + copy)
  let s := s.flushMem d m inside
  let ws := (((s.mem d).errs.getD m []).map (·.1)).filter inside
  s.each ws fun w s => (s.memRead d m w .control).2

/-- What a control memory holds beside tables: frame slots, the completion queue and mirrors of FRM; raster-set and context state; and the state
of the other blocks' units (R364). -/
inductive StateUnit where
  | frame (slot : Nat)
  | doneQ
  | mirror (n : Nat)
  | rset (i : Nat)
  | ctx (c : Nat)
  | slot (i : Nat)
  | beam (k : Nat)
  | chan (k : Nat)
  | hv
  | scan
  | prof
  | axis (x : Nat)
  | rgc (n : Nat)
  | markQ (sensor : Nat)
  | fuser
  | therm
  | faults
  deriving DecidableEq, Repr

/-- The memory and the code word that hold a unit's state. The manual gives no addresses: the words stand above those of the registers
(DESIGN CHOICE, log entry 213). -/
def StateUnit.place : StateUnit → Nat × Nat
  | .frame i => (2, 0x10000 + i)
  | .doneQ => (2, 0x10100)
  | .mirror n => (2, 0x10200 + n)
  | .rset i => (3, 0x10000 + i)
  | .ctx c => (2, 0x10000 + c)
  | .slot i => (4, 0x10000 + i)
  | .beam k => (5, 0x10000 + k)
  | .chan k => (6, 0x10000 + k)
  | .hv => (6, 0x10010)
  | .scan => (6, 0x10020)
  | .prof => (6, 0x10030)
  | .axis x => (6, 0x10040 + x)
  | .rgc n => (6, 0x10050 + n)
  | .markQ i => (6, 0x10058 + i)
  | .fuser => (6, 0x10060)
  | .therm => (6, 0x10070)
  | .faults => (6, 0x10080)

/-- A block reads the state of a unit (R363, R364). -/
def State.useUnit (s : State) (d : Nat) (u : StateUnit) : State := (s.memRead d u.place.1 u.place.2 .control).2

/-- A block stores the state of a unit, a whole code word (R365, R368). -/
def State.keepUnit (s : State) (d : Nat) (u : StateUnit) : State := (s.flushMem d u.place.1 (· == u.place.2)).memStored d u.place.1 u.place.2 false

/-- A unit's state is read, changed and stored. -/
def State.withUnit (s : State) (d : Nat) (u : StateUnit) (f : State → State) : State := (f (s.useUnit d u)).keepUnit d u

/-! ### Bytes of the large memories -/

/-- Bytes in order from an address, each with its poison mark, cut at the ends of code words; fuel is the number of bytes. -/
def State.bufWrite (s : State) (d : Nat) : Nat → Nat → List (Nat × Bool) → State
  | 0, _, _ => s
  | n + 1, a, l =>
    if l.isEmpty then s
    else
      let k := 10 - a % 10
      let part := l.take k
      let bytes := ((part.map (·.1)).zipIdx).map fun x => (a % 10 + x.2, x.1 % 256)
      (s.writeChunk d (a / 10) bytes (part.any (·.2))).bufWrite d n (a + k) (l.drop k)

/-- The code words of a range of bytes. -/
def wordsOf (a n : Nat) : List Nat := if n = 0 then [] else List.range' (a / 10) ((a + n - 1) / 10 + 1 - a / 10)

/-- A block reads bytes: held entries are flushed first, correctable words are corrected, and uncorrectable ones are counted. The answer
holds each byte with a mark for an uncorrectable word. -/
def State.bufRead (s : State) (d a n : Nat) (kind : MemKind) : List (Nat × Bool) × State :=
  let ws := wordsOf a n
  let s := s.flushWhere d fun w => decide (a / 10 ≤ w ∧ w < a / 10 + ws.length)
  let bad := ws.filter fun w => decide (eccClass (s.memErr d 0 w) = .uncorrectable)
  let s := s.each ws fun w s => (s.memRead d 0 w kind).2
  ((List.range' a n).map fun x => (s.rawByte d x, bad.contains (x / 10)), s)

/-! ### Commands -/

/-- MERGE_FLUSH (R366): 64 ns have passed since the oldest entry was taken. -/
def execMergeFlush (die : Nat) (s : State) : Out :=
  match (s.mem die).merge.head? with
  | some x => .next (if x.at_ + 64 ≤ s.now then s.flushEntry die x else s)
  | none => .next s

/-- The number of code words of a memory, where the manual gives its size: the large memories (R113), cue memory (R60), a station's descriptor
memory (R132), the EVR ring (R370). -/
def memWords (d m : Nat) : Option Nat :=
  match m with
  | 0 => some (if d = 0 then 1677722 else 6710887)
  | 1 => some 4096
  | 3 => if d = 0 then none else some 256
  | 5 => if d = 0 then some 8192 else none
  | _ => none

/-- The scrubber of a memory has read a word: it goes on to the next, and a pass ends with the last (R367). -/
def State.scrubAdvance (s : State) (d m : Nat) (last : Bool) : State :=
  let (w, t) := (s.mem d).scrub.getD m (0, 0)
  let done := match memWords d m with
    | some n => decide (n ≤ w + 1)
    | none => last
  if done then
    let s := if (s.mem d).pass.getD m 0 * 1250000 < s.now - t then s.wr d (F.MEM_M_STATUS_scrub_late_s m) 1 else s
    (s.bumpWrap d (F.MEM_M_PASS_CNT_passes m)).modMem d fun x => { x with scrub := x.scrub.modify m fun _ => (0, t) }
  else s.modMem d fun x => { x with scrub := x.scrub.modify m fun _ => (w + 1, t) }

/-- The time of the scrubber's next read: a pass begins scrub_period after the one before, and its reads are spread evenly over the period where
the manual gives the size of the memory (R367). -/
def State.scrubTime (s : State) (d m : Nat) : Nat :=
  let (w, t) := (s.mem d).scrub.getD m (0, 0)
  let span := (s.mem d).pass.getD m 0 * 1000000
  if w = 0 then t + span
  else match memWords d m with
    | some n => t + w * span / n
    | none => t

/-- SCRUB_READ (R367): the scrubber of a memory reads its next code word, from boot step 4. `upset` is the difference that disturbances have made to the word
since it was last read, and `last` marks the last word of a memory whose size the manual does not give. -/
def execScrubRead (die mem upset : Nat) (last : Bool) (s : State) : Out :=
  let w := ((s.mem die).scrub.getD mem (0, 0)).1
  let period := if w = 0 then s.rd die (F.MEM_M_SCRUB_scrub_period mem) else (s.mem die).pass.getD mem 0
  if s.boot.phase != .released || !s.hasDie die || decide (7 ≤ mem) || period == 0 || decide (s.now < s.scrubTime die mem) then .next s
  else
    let now := s.now
    let s := s.modMem die fun x => { x with pass := x.pass.set mem period, scrub := if w = 0 then x.scrub.set mem (0, now) else x.scrub }
    let s := s.flushMem die mem (· == w)
    let s := s.setMemErr die mem w (s.memErr die mem w ^^^ upset % 2 ^ 88)
    let (cls, s) := s.memRead die mem w (memKind die mem)
    let s := if cls = .uncorrectable ∧ memKind die mem ≠ .control then
        let s := s.wr die (F.MEM_M_STATUS_scrub_ue_s mem) 1
        if mem = 0 then s.reportC die .mem mem else s
      else s
    .next (s.scrubAdvance die mem last)

/-- The bit that a flip field names: 88 to 127 act as 87 (R369). -/
def flipBit (en : Bool) (b : Nat) : Nat := if en then 2 ^ min b 87 else 0

/-- The arm command (R368). -/
def State.memArm (s : State) (d : Nat) : State :=
  let a := s.on d F.MEM_FLIP_A_en
  let b := s.on d F.MEM_FLIP_B_en
  let m := s.rd d F.MEM_FLIP_A_mem
  if s.frmRuns || (s.mem d).flip.isSome || (a && b && decide (memKind d m ≠ .raster)) then s.reject d .mem F.MEM_STATUS_write_reject
  else
    let f := flipBit a (s.rd d F.MEM_FLIP_A_bit) ^^^ flipBit b (s.rd d F.MEM_FLIP_B_bit)
    (s.modMem d fun x => { x with flip := some (m, f) }).wr d F.MEM_STATUS_armed 1

/-- The disarm command (R368). -/
def State.memDisarm (s : State) (d : Nat) : State := (s.modMem d fun x => { x with flip := none }).wr d F.MEM_STATUS_armed 0

/-- The clear_counters command (R369). -/
def State.memClear (s : State) (d : Nat) : State :=
  s.each (List.range 7) fun m s => (s.wr d (F.MEM_M_CE_CNT_ce_cnt m) 0).wr d (F.MEM_M_UE_CNT_ue_cnt m) 0

/-- MEM_ARM (R368). -/
def execMemArm (die : Nat) (s : State) : Out := .next (if s.hasDie die then s.memArm die else s)

/-- MEM_DISARM (R368). -/
def execMemDisarm (die : Nat) (s : State) : Out := .next (if s.hasDie die then s.memDisarm die else s)

/-- MEM_CLEAR_COUNTERS (R369). -/
def execMemClearCounters (die : Nat) (s : State) : Out := .next (if s.hasDie die then s.memClear die else s)

end Sys2Proof.Machine
end

