-- ==== Sys2Proof/Machine/Lpe.lean ====
section
/-! DEFINITION. The loop engines (R257 to R276): triggers and scheduling, the control law, the plant model and its supervision, slot faults
and the slot commands. -/

namespace Sys2Proof.Machine

/-! ### Sources (R262) -/

/-- A motor channel's measured speed as a fraction of its maximum speed (R262). -/
def State.speedQ19 (s : State) (d k : Nat) : Int :=
  satS 20 (rdiv (s.rdS d (F.MDR_CH_SPEED_speed k) * 524288) (8 * max 1 (s.rd d (F.MDR_CH_SPD_MAX_spd_max k))))

/-- The feedback of a slot and its validity: the measured input for an analog source, else the value the part itself holds (R262). -/
def State.slotFeedback (s : State) (d i : Nat) (adc : Int) (valid : Bool) : Int × Bool :=
  let fb := s.rd d (F.LPE_SLOT_SRC_fb_src i)
  if fb = 0x3F then ((s.slot d i).own.y, (s.slot d i).own.valid)
  else if fb = 0x28 then (velQ19 (s.tbVel d), true)
  else match motorCode d fb with
    | some k => (s.speedQ19 d k, true)
    | none =>
      if d = 0 ∧ 0x18 ≤ fb ∧ fb ≤ 0x1D then
        (satS 20 (rdiv (s.rdS 0 (F.FSR_TEMP_temp (fb - 0x18)) * 524288) 4000), valid && !s.fsr.bad.contains (fb - 0x18))
      else (satS 20 adc, valid)

/-! ### The control law (R263, R264) -/

/-- The gain of the table for an error at full precision, in units of 2^-33 (R264). -/
def State.slotGain (s : State) (d i : Nat) (e : Int) : Int :=
  let at_ := fun (k : Nat) => (s.rd d (F.LPE_GAIN_g i k) : Int)
  let (x, step, unit) := if s.on d (F.LPE_SLOT_CFG_asym i) then ((e + 524288).toNat, 32768, 1) else (e.natAbs, 16384, 2)
  let k := x / step
  if 32 ≤ k then at_ 32 * 32768
  else (at_ k * step + (at_ (k + 1) - at_ k) * (x % step : Nat)) * unit

/-- The increment of the incremental law, in Q1.39, each product rounded to Q1.39 and each sum saturating (R258, R263). -/
def slotIncrement (kp ki t g : Int) (kff : Int) (e ePrev f fPrev : Int) : Int :=
  let p := rdiv (kp * g * (e - ePrev)) (2 ^ 25)
  let q := rdiv (ki * t * g * e) (2 ^ 33)
  let w := kff * (f - fPrev) * 256
  satS 40 (satS 40 (p + q) + w)

/-- The output of Q1.39 rounded to Q1.19 (R258). -/
def slotRound (u : Int) : Int := satS 20 (rdiv u 1048576)

/-- The interval since the previous sample, in µs, limited to the period (R259). -/
def State.slotInterval (s : State) (d i : Nat) : Nat :=
  let period := max 10 (s.rd d (F.LPE_SLOT_PERIOD_period i))
  if s.rd d (F.LPE_SLOT_CFG_trig i) = 2 then
    match (s.slot d i).lastSample with
    | some t => min period ((s.now - t) / 1000)
    | none => period
  else period

/-- In STANDBY of the fuser, a zone slot's goal is the standby goal of its heater (R285). -/
def State.standbyGoal (s : State) (d i : Nat) : Option Int :=
  if d = 0 ∧ s.rd 0 F.FSR_STATUS_state = 3 then
    ((List.range 4).find? fun h => s.on 0 (F.FSR_HTR_CFG_zone h) && s.rd 0 (F.FSR_HTR_CFG_slot h) == i).map
      fun h => s.rdS 0 (F.FSR_STBY_TGT_stby h)
  else none

/-- The target of a slot. A banked one takes its new value at the first sample at or after the die's switch, also while the switch still waits
for the boundary of the other blocks (R98, R268). -/
def State.slotTarget (s : State) (d i : Nat) : Int :=
  let f := F.LPE_SLOT_TGT_tgt i
  if s.on d (F.LPE_SLOT_CFG_tgt_bank i) && (s.cue d).swPend.isSome then sgn f.width (s.rdArmed d f) else s.rdS d f

/-- The goal of a slot: its target, or the output of its cascade source while that runs (R267). -/
def State.slotGoal (s : State) (d i : Nat) : Int × Bool :=
  if s.on d (F.LPE_SLOT_CFG_casc i) then
    let j := s.rd d (F.LPE_SLOT_CFG_sp_slot i)
    if s.slotState d j = slotRun then ((s.slot d j).out, false)
    else if s.slotState d j = slotRamp ∧ !s.on d (F.LPE_SLOT_STATUS_src_hold i) then ((s.slot d j).out, false)
    else ((s.slot d i).goal, true)
  else match s.standbyGoal d i with
    | some g => (g, false)
    | none => (s.slotTarget d i, false)

/-! ### Slot faults (R273) -/

/-- The class of a slot's fault: C is not allowed on a high-voltage output or a gated slot and then acts as U; code 3 acts as U. -/
def State.slotClass (s : State) (d i : Nat) : FClass :=
  match s.rd d (F.LPE_SLOT_CFG_fclass i) with
  | 0 =>
    let gate := s.rd d (F.LPE_SLOT_CFG_gate i)
    if (hvChannel d (s.rd d (F.LPE_SLOT_SRC_out_dst i))).isSome || gate == 1 || gate == 2 then .u else .c
  | 2 => .f
  | _ => .u

/-- The stations a fault of a die's slot acts on: on the hub, every station (R273). -/
def State.slotStations (s : State) (d : Nat) : List Nat := if d = 0 then s.stns else [d]

/-- The frames in progress on a slot's die (R273). -/
def State.slotFrames (s : State) (d : Nat) : List Nat := if d = 0 then s.framesInProgress else s.framesOn d

/-- The FAULT bit of a slot in LPE_FAULT. -/
def slotFaultBit (i : Nat) : Fld := ⟨F.LPE_FAULT_fault (i / 20) |>.off, i % 20, i % 20⟩

/-- A slot fault takes its class's outcome (R273): class C is counted and the slot goes on; U and F take the slot to FAULT with its output
safe, unless FORCED holds it (R274). -/
def State.slotFault (s : State) (d i : Nat) (x : Option Detector) : State :=
  let rep := fun (s : State) (cls : FClass) (cause : Nat) (fs : List Nat) => match x with
    | some x => s.detect x d .lpe i cls cause fs
    | none => s.report d .lpe i cls cause fs
  let s := (s.bump d (F.LPE_SLOT_FLT_CNT_flt_cnt i)).wr d (F.LPE_SLOT_STATUS_flt_s i) 1
  let s := s.modSlot d i fun y => { y with outside := 0, ovrRun := 0 }
  match s.slotClass d i with
  | .c => rep s .c 0 []
  | cls =>
    let s := if s.slotState d i = slotForced then s
      else ((s.wr d (F.LPE_SLOT_STATUS_state i) slotFaulted).slotDrive d i (s.slotSafe d i)).wr d (slotFaultBit i) 1
    let s := if cls = .u ∧ (s.rd d (F.LPE_SLOT_CFG_gate i) = 1 ∨ s.rd d (F.LPE_SLOT_CFG_gate i) = 2) then
      s.each (s.slotStations d) fun n s => s.addBlank n (.slotGate d i) else s
    let s := match cls, x with
      | .f, some x => s.detectF x d .lpe i 18 s.framesInProgress
      | .f, none => s.raiseF d .lpe i 18 s.framesInProgress
      | _, _ => rep s cls (causeBit 19) (s.slotFrames d)
    s.beginShadow (.slotFault d i)

/-! ### Samples -/

/-- A charge-gated slot that reaches RUN marks the position from which charged surface is measured (R282). -/
def State.slotReachedRun (s : State) (d i : Nat) : State :=
  match hvChannel d (s.rd d (F.LPE_SLOT_SRC_out_dst i)) with
  | some c =>
    if s.on d F.HVC_STATUS_chg_forbid && (s.rd d F.HVC_CTRL_chg_gate).testBit c then
      s.modHvc d fun h => { h with rerun := some (s.tbTick d) }
    else s
  | none => s

/-- Shows a sample in the readout registers of a slot. -/
def State.slotShow (s : State) (d i : Nat) (r y e : Int) : State :=
  ((s.wrS d (F.LPE_SLOT_SETPT_r i) r).wrS d (F.LPE_SLOT_FB_y i) y).wrS d (F.LPE_SLOT_ERR_e i) e

/-- An invalid feedback: nothing is computed, but the sample counts toward plaus_hold; before the first valid one the output is safe,
and once supervision has begun the sample counts as outside (R266, R272). -/
def State.slotInvalid (s : State) (d i : Nat) : State :=
  let x := s.slot d i
  let s := s.wr d (F.LPE_SLOT_STATUS_fb_invalid i) 1
  let s := if x.seeded then s else s.slotDrive d i (s.slotSafe d i)
  let out := if x.hold ≤ x.count then x.outside + 1 else x.outside
  let s := s.modSlot d i fun x => { x with count := x.count + 1, outside := out }
  if max 1 (s.rd d (F.LPE_SLOT_PLAUS_plaus_n i)) ≤ out then s.slotFault d i (some (.plaus d i)) else s

/-- The model of the plant and its residual, in Q1.39 (R272). -/
def slotModel (alpha km yhat u : Int) : Int :=
  let ku := rdiv (km * u) 65536
  satS 40 (yhat + rdiv (min alpha 524288 * satS 40 (ku - yhat)) 524288)

/-- The first sample with valid feedback after a start puts the slot on the measured value, with its output at safe + kff·f limited, its
error zero and its model seeded (R266, R272). -/
def State.slotSeed (s : State) (d i : Nat) (y : Int) : State :=
  let f := s.slotForward d i
  let (lo, hi) := s.slotLimits d i
  let u := clampI (q39 lo) (q39 hi) (satS 40 (q39 (s.slotSafe d i) + s.rdS d (F.LPE_SLOT_KFF_kff i) * f * 256))
  s.modSlot d i fun x => { x with u := u, r := q39 y, ePrev := 0, fPrev := f, yhat := q39 y }

/-- A sample in RAMP or RUN: the set-point moves toward the goal, the law runs, and the model is compared with the feedback (R263, R266,
R272). At the first one the set-point stays on the measured value, unless the slope is 0, and the error is 0. -/
def State.slotSample (s : State) (d i : Nat) (y : Int) : State :=
  let first := !(s.slot d i).seeded
  let s := if first then s.slotSeed d i y else s
  let x := s.slot d i
  let t := s.slotInterval d i
  let (goal, hold) := s.slotGoal d i
  let slope := s.rd d (F.LPE_SLOT_SLOPE_slope i)
  let step := rdiv ((slope : Int) * 1048576 * (t : Int)) 1000
  let tgt := q39 goal
  let r := if slope = 0 then tgt else if first then x.r else if x.r ≤ tgt then min tgt (x.r + step) else max tgt (x.r - step)
  let e := if first then 0 else satS 20 (slotRound r - y)
  let f := s.slotForward d i
  let (lo, hi) := s.slotLimits d i
  let du := slotIncrement (s.rd d (F.LPE_SLOT_KP_kp i)) (s.rd d (F.LPE_SLOT_KI_ki i)) t (s.slotGain d i e)
    (s.rdS d (F.LPE_SLOT_KFF_kff i)) e x.ePrev f x.fPrev
  let u := clampI (q39 lo) (q39 hi) (satS 40 (x.u + du))
  let sat := decide (u = q39 lo ∨ u = q39 hi)
  let yhat := slotModel (s.rd d (F.LPE_SLOT_ALPHA_alpha i)) (s.rdS d (F.LPE_SLOT_KM_km i)) x.yhat x.u
  let res := satS 40 (q39 y - yhat)
  let far := decide (q39 (s.rd d (F.LPE_SLOT_RES_WIN_res_win i)) < (res.natAbs : Int))
  let supervised := decide (x.hold ≤ x.count)
  let out := if supervised then (if far then x.outside + 1 else 0) else 0
  let s := s.modSlot d i fun x => { x with seeded := true, u := u, uPrev := x.u, r := r, ePrev := e, fPrev := f, yhat := yhat,
                                           count := x.count + 1, outside := out, goal := goal }
  let s := ((s.bumpWrap d (F.LPE_SLOT_SMP_CNT_smp_cnt i)).slotShow d i (slotRound r) y e).wrS d (F.LPE_SLOT_RESID_res i) (slotRound res)
  let s := (s.wrB d (F.LPE_SLOT_STATUS_sat i) sat).wrB d (F.LPE_SLOT_STATUS_src_hold i) hold
  let s := if sat then s.bump d (F.LPE_SLOT_SAT_CNT_sat_cnt i) else s
  let s := s.slotDrive d i (slotRound u)
  let s := if s.slotState d i = slotRamp ∧ r = tgt then
    (s.wr d (F.LPE_SLOT_STATUS_state i) slotRun).slotReachedRun d i else s
  if max 1 (s.rd d (F.LPE_SLOT_PLAUS_plaus_n i)) ≤ out then s.slotFault d i (some (.plaus d i)) else s

/-- A sample of a context slot: the owner supplies and takes back the state of one of its channels (R269). -/
def State.slotContext (s : State) (d i : Nat) (y : Int) : State :=
  let o := (s.slot d i).own
  let e := satS 20 (o.r - y)
  let (lo, hi) := s.slotLimits d i
  let du := slotIncrement (s.rd d (F.LPE_SLOT_KP_kp i)) (s.rd d (F.LPE_SLOT_KI_ki i)) (s.slotInterval d i) (s.slotGain d i e) 0 e o.e 0 0
  let u := clampI (q39 lo) (q39 hi) (satS 40 (o.u + du))
  let s := (s.bumpWrap d (F.LPE_SLOT_SMP_CNT_smp_cnt i)).modSlot d i fun x => { x with u := u, ePrev := e, uPrev := o.u }
  let sat := decide (u = q39 lo ∨ u = q39 hi)
  let s := if sat then s.bump d (F.LPE_SLOT_SAT_CNT_sat_cnt i) else s
  ((s.slotShow d i o.r y e).wrB d (F.LPE_SLOT_STATUS_sat i) sat).slotDrive d i (slotRound u)

/-- A sample in FORCED reads the feedback only and re-seeds the model (R271). -/
def State.slotIdle (s : State) (d i : Nat) (y : Int) : State :=
  ((s.slotAtSafe d i).modSlot d i fun x => { x with yhat := q39 y }).wrS d (F.LPE_SLOT_FB_y i) y

/-- While stretch_en is in force RGC reads the feedback of its stretch slot at each valid sample of it, through a first-order filter of str_tau ms (R253). -/
def State.stretchSample (s : State) (i : Nat) (y : Int) : State :=
  if i ≠ s.rd 0 F.RGC_STR_CFG_str_slot ∨ !s.rgc.strOn then s
  else
    let dt := match (s.slot 0 i).lastSample with
      | some t => s.now - t
      | none => 0
    let tau := max 1 (s.rd 0 F.RGC_STR_CFG_str_tau) * 1000000
    s.modRgc fun r => { r with tRef := s.rdS 0 F.RGC_STR_REF_t_ref, tf := some (match r.tf with
      | none => y * 1048576
      | some f => f + rdiv ((y * 1048576 - f) * (min dt tau : Nat)) tau) }

/-- LPE reads the program, the gain table and the state of a slot (R364). -/
def State.slotRead (s : State) (d i : Nat) : State :=
  ((s.ctlRead d 4 (0x30100 + 0x80 * i) (0x30144 + 0x80 * i) 0).ctlRead d 4 (0x32000 + 0x100 * i) (0x32084 + 0x100 * i) 0).useUnit d (.slot i)

/-- A register of a slot's program or gain table. -/
def isSlotWord (off : Nat) : Bool :=
  decide (0x30100 ≤ off ∧ off < 0x32000 ∧ (off - 0x30100) % 0x80 ≤ 0x40) || decide (0x32000 ≤ off ∧ off < 0x35000)

/-- One update of a slot (R260): by state and validity, one of the samples above. -/
def State.slotRunUpdate (s : State) (d i : Nat) (adc : Int) (valid : Bool) : State :=
  let s := s.slotRead d i
  let (y, ok) := s.slotFeedback d i adc valid
  let s := s.modSlot d i fun x => { x with ready := none, ovrRun := 0 }
  let s := match hvInput d (s.rd d (F.LPE_SLOT_SRC_fb_src i)) with
    | some c => s.showHv d c y
    | none => s
  let s := if d = 0 ∧ ok then s.stretchSample i y else s
  let st := s.slotState d i
  let s :=
    if st = slotForced then (if ok then s.slotIdle d i y else s).wrB d (F.LPE_SLOT_STATUS_fb_invalid i) !ok
    else if st = slotRamp ∨ st = slotRun then
      if !ok then (if s.on d (F.LPE_SLOT_CFG_ctx i) then s.wr d (F.LPE_SLOT_STATUS_fb_invalid i) 1 else s.slotInvalid d i)
      else
        let s := s.wr d (F.LPE_SLOT_STATUS_fb_invalid i) 0
        if s.on d (F.LPE_SLOT_CFG_ctx i) then s.slotContext d i y
        else s.slotSample d i y
    else s
  (s.modSlot d i fun x => { x with lastSample := some s.now }).keepUnit d (.slot i)

/-! ### Triggers (R259, R261) -/

/-- A slot whose samples run: every state in which a trigger leads to an update (R270, R274). -/
def State.slotSampling (s : State) (d i : Nat) : Bool :=
  s.slotState d i == slotRamp || s.slotState d i == slotRun || s.slotState d i == slotForced

/-- An overrun: the older trigger is dropped and counted; four in a row are a slot fault (R261). -/
def State.slotOverrun (s : State) (d i : Nat) : State :=
  let s := (s.bump d (F.LPE_SLOT_OVR_CNT_ovr_cnt i)).wr d (F.LPE_SLOT_STATUS_ovr_s i) 1
  let s := if d = 0 then s.detect .lpeOverrun 0 .lpe i .c 0 [] else s.reportC d .lpe i
  let n := (s.slot d i).ovrRun + 1
  let s := s.modSlot d i fun x => { x with ovrRun := n }
  if 4 ≤ n then s.slotFault d i (if d = 0 then some .lpeOverrun else none) else s

/-- A trigger at a time makes a slot ready; a slot that its overrun has taken to FAULT stays there. -/
def State.slotTrigger (s : State) (d i t : Nat) : State :=
  let s := if (s.slot d i).ready.isSome then s.slotOverrun d i else s
  if s.slotSampling d i then s.modSlot d i fun x => { x with ready := some t, lastTrig := some t } else s

/-- A slot in RAMP or RUN. -/
def State.slotLive (s : State) (d i : Nat) : Bool := s.slotState d i == slotRamp || s.slotState d i == slotRun

/-- An owner's trigger, for a context slot with the channel that it serves: held while the slot's previous trigger is less than 10 µs old (R259,
R269); one that waits is dropped for it (R261); no update in OFF, FORCED or FAULT (R274). -/
def State.slotOwnerTrigger (s : State) (d i : Nat) (own : OwnerSample) (chan : Option Nat := none) : State :=
  if s.slotLive d i then
    let early := match (s.slot d i).lastTrig with
      | some t => decide (s.now < t + 10000)
      | none => false
    let s := if (s.slot d i).held.isSome || (s.slot d i).ready.isSome then s.slotOverrun d i else s
    if !s.slotLive d i then s
    else if early then s.modSlot d i fun x => { x with own := own, chan := chan, held := some s.now, ready := none }
    else s.modSlot d i fun x => { x with own := own, chan := chan, held := none, ready := some s.now, lastTrig := some s.now }
  else s

/-- The ready slot of highest rank: higher prio, then earlier trigger, then lower number (R260). -/
def State.nextSlot (s : State) (d : Nat) : Option Nat :=
  (List.range (slotCount d)).foldl (fun best i =>
    match (s.slot d i).ready with
    | none => best
    | some t =>
      match best with
      | none => some i
      | some j =>
        let pi := s.rd d (F.LPE_SLOT_CFG_prio i)
        let pj := s.rd d (F.LPE_SLOT_CFG_prio j)
        let tj := (s.slot d j).ready.getD 0
        if pj < pi ∨ (pi = pj ∧ t < tj) then some i else best) none

/-- A register slot number exists on a die of the variant (R257). -/
def State.hasSlot (s : State) (d i : Nat) : Bool := s.hasDie d && decide (i < slotCount d)

/-! ### Commands -/

/-- The codes a slot may start with on its die (R262). -/
def slotCodesOk (d fb dst : Nat) : Bool :=
  (if d = 0 then decide (fb ≤ 0x1D) || decide (0x20 ≤ fb ∧ fb ≤ 0x23) || fb == 0x28 || fb == 0x3F
   else decide (fb ≤ 0x0B) || decide (0x20 ≤ fb ∧ fb ≤ 0x22) || fb == 0x28 || fb == 0x3F)
  && (if d = 0 then decide (0x10 ≤ dst ∧ dst ≤ 0x1B) || decide (0x20 ≤ dst ∧ dst ≤ 0x23) || dst == 0x3E || dst == 0x3F
      else decide (dst ≤ 3) || dst == 0x21 || dst == 0x22 || dst == 0x3E || dst == 0x3F)

/-- The start command may be taken (R262, R269, R274, and sp_slot of R276). -/
def State.slotMayStart (s : State) (d i : Nat) : Bool :=
  let fb := s.rd d (F.LPE_SLOT_SRC_fb_src i)
  let dst := s.rd d (F.LPE_SLOT_SRC_out_dst i)
  let sp := s.rd d (F.LPE_SLOT_CFG_sp_slot i)
  s.slotState d i == slotOff && slotCodesOk d fb dst
    && (d == 0 || s.rd d (F.LPE_SLOT_SRC_ff_src i) != 1)
    && (!s.on d (F.LPE_SLOT_CFG_ctx i) || (fb == 0x3F && dst == 0x3F))
    && (!s.on d (F.LPE_SLOT_CFG_casc i) || (sp != i && decide (sp < slotCount d)))

/-- The start command (R266): a slot whose stage is off starts in FORCED (R271); a timer slot's first sample falls at the command. The 10 µs after
the slot's last trigger run on (R259). -/
def State.slotStart (s : State) (d i : Nat) : State :=
  if !s.slotMayStart d i then s.reject d .lpe (F.LPE_SLOT_STATUS_write_reject i)
  else
    let s := s.modSlot d i fun x => { x with seeded := false, count := 0, outside := 0, ovrRun := 0, ready := none, held := none,
                                             lastSample := none,
                                             hold := s.rd d (F.LPE_SLOT_PLAUS_plaus_hold i) }
    let s := s.wr d (F.LPE_SLOT_STATUS_src_hold i) 0
    let s := s.modFlt fun f => { f with shadows := f.shadows.filter fun x => x ≠ .slotFault d i }
    let held := s.stageBlocked d (s.rd d (F.LPE_SLOT_SRC_out_dst i)) || s.apcBlocked d i
    let s := s.wr d (F.LPE_SLOT_STATUS_state i) (if held then slotForced else if s.on d (F.LPE_SLOT_CFG_ctx i) then slotRun else slotRamp)
    let s := if held then (s.slotAtSafe d i).slotDrive d i (s.slotSafe d i) else s
    if s.rd d (F.LPE_SLOT_CFG_trig i) = 1 then s.slotTrigger d i s.now else s

/-- The stop command: OFF with the output at safe (R270, R274). -/
def State.slotStop (s : State) (d i : Nat) : State :=
  if s.slotState d i = slotFaulted then s
  else ((s.wr d (F.LPE_SLOT_STATUS_state i) slotOff).slotDrive d i (s.slotSafe d i)).modSlot d i
    fun x => { x with ready := none, held := none, seeded := false }

/-- The clear command: FAULT to OFF, other states no action (R273). -/
def State.slotClear (s : State) (d i : Nat) : State :=
  if s.slotState d i = slotFaulted then
    ((s.wr d (F.LPE_SLOT_STATUS_state i) slotOff).wr d (slotFaultBit i) 0).modSlot d i fun x => { x with ready := none, held := none }
  else s

/-- clear_counters of LPE: LPE_LOAD and every slot's counters (R276). -/
def State.lpeClear (s : State) (d : Nat) : State :=
  let s := s.wr d F.LPE_LOAD_load_max 0
  s.each (List.range (slotCount d)) fun i s => s.clearAll d
    [F.LPE_SLOT_OVR_CNT_ovr_cnt i, F.LPE_SLOT_SAT_CNT_sat_cnt i, F.LPE_SLOT_FLT_CNT_flt_cnt i, F.LPE_SLOT_SMP_CNT_smp_cnt i]

/-- A write of lim_hi or lim_lo: refused where lim_lo would exceed lim_hi, else clamped to the hard limits (R265). -/
def State.limWrite (s : State) (d i : Nat) (high : Bool) (v : Nat) : State :=
  let (lo, hi) := s.slotHard d i
  let x := clampI lo hi (sgn 20 v)
  let bad := if high then decide (x < s.rdS d (F.LPE_SLOT_LIM_LO_lim_lo i)) else decide (s.rdS d (F.LPE_SLOT_LIM_HI_lim_hi i) < x)
  if bad then s.reject d .lpe (F.LPE_SLOT_STATUS_write_reject i)
  else (s.ctlWrite d 4 (if high then F.LPE_SLOT_LIM_HI_lim_hi i else F.LPE_SLOT_LIM_LO_lim_lo i).off).wrS d (if high then F.LPE_SLOT_LIM_HI_lim_hi i else F.LPE_SLOT_LIM_LO_lim_lo i) x

/-! ### Meanings -/

/-- The time of a slot's next timer trigger: period after the last, on the die's grid of 1 µs; a first sample off the grid counts from the grid
point after it (R259; DEDUCED, log entry 227). -/
def State.slotDue (s : State) (d i : Nat) : Nat :=
  match (s.slot d i).lastTrig with
  | some t => 1000 * (cdivN t 1000 + max 10 (s.rd d (F.LPE_SLOT_PERIOD_period i)))
  | none => s.now

/-- SLOT_TIMER_TRIGGER (R259). -/
def execSlotTimerTrigger (die slot : Nat) (s : State) : Out :=
  .next (if s.hasSlot die slot && s.rd die (F.LPE_SLOT_CFG_trig slot) == 1 && s.slotSampling die slot && decide (s.slotDue die slot ≤ s.now)
    then s.slotTrigger die slot (s.slotDue die slot) else s)

/-- OWNER_EVENT_TRIGGER (R259, R274). -/
def execOwnerEventTrigger (die slot : Nat) (own : OwnerSample) (s : State) : Out :=
  .next (if s.hasSlot die slot && s.rd die (F.LPE_SLOT_CFG_trig slot) == 2 then s.slotOwnerTrigger die slot own else s)

/-- HELD_TRIGGER_RELEASE (R259): 10 µs have passed since the previous trigger. -/
def execHeldTriggerRelease (die slot : Nat) (s : State) : Out :=
  .next (if s.hasSlot die slot && (s.slot die slot).held.isSome && decide ((s.slot die slot).lastTrig.getD 0 + 10000 ≤ s.now) then
    (s.modSlot die slot fun x => { x with held := none }).slotTrigger die slot s.now else s)

/-- The updates of the last 10 µs. -/
def State.lpeRecent (s : State) (d : Nat) : List Nat := (s.lpe d).updates.filter fun t => decide (s.now < t + 10000)

/-- Updates in 10 µs at the sequencer's rate (R260). -/
def lpeCapacity (d : Nat) : Nat := if d = 0 then 12 else 6

/-- The sequencer takes a slot; LPE_LOAD keeps the most updates in any 10 µs (R260, R276). -/
def State.lpeTake (s : State) (d : Nat) : State :=
  let recent := s.now :: s.lpeRecent d
  (s.modLpe d fun l => { l with updates := recent }).raiseTo d F.LPE_LOAD_load_max recent.length

/-- SLOT_START (R266). -/
def execSlotStart (die slot : Nat) (s : State) : Out := .next (if s.hasSlot die slot then s.slotStart die slot else s)

/-- SLOT_STOP (R270, R274). -/
def execSlotStop (die slot : Nat) (s : State) : Out := .next (if s.hasSlot die slot then s.slotStop die slot else s)

/-- SLOT_CLEAR (R273). -/
def execSlotClear (die slot : Nat) (s : State) : Out := .next (if s.hasSlot die slot then s.slotClear die slot else s)

/-- LPE_CLEAR_COUNTERS (R276). -/
def execLpeClearCounters (die : Nat) (s : State) : Out := .next (if s.hasDie die then s.lpeClear die else s)

/-- LIM_WRITE (R265). -/
def execLimWrite (die slot : Nat) (high : Bool) (v : Nat) (s : State) : Out :=
  .next (if s.hasSlot die slot then s.limWrite die slot high v else s)

end Sys2Proof.Machine
end

