-- ==== Sys2Proof/Machine/Fuser.lean ====
section
/-! DEFINITION. The high-voltage supplies' hardware gates (R281, R282) and the fuser: temperature inputs, heater modes, states and the
FSR commands (R283 to R290). -/

namespace Sys2Proof.Machine

/-! ### Charge window and discharge -/

/-- The channels of a station that charge_ok gates (R282). -/
def State.gatedChannels (s : State) (n : Nat) : List Nat :=
  (List.range 4).filter fun c => (s.rd n F.HVC_CTRL_chg_gate).testBit c

/-- The slots of a station that drive a gated channel. -/
def State.gatedSlots (s : State) (n : Nat) : List Nat :=
  s.slotsOnto n fun dst => (s.gatedChannels n).contains dst

/-- charge_ok falls: the gated channels go to their zero code, their slots to FORCED, and later sweeps blank (R282). -/
def State.chargeFall (s : State) (n : Nat) : State :=
  let s := (s.wr n F.HVC_STATUS_charge_ok 0).wr n F.THM_STATUS_charge_ok 0
  let first := !s.on n F.HVC_STATUS_chg_forbid
  let gated := s.gatedChannels n
  let s := s.forceOnto n fun dst => gated.contains dst
  let s := s.each gated fun c s => s.wr n (F.HVC_CH_CODE_code c) (s.hvZero n c)
  let s := ((s.wr n F.HVC_STATUS_chg_forbid 1).modHvc n fun h => { h with rerun := none }).addBlank n .charge
  let s := s.beginShadow (.hvForced n)
  if first then s.report n .hvc 0 .u (causeBit 16) [] else s

/-- charge_ok rises: the gated slots start again from the measured value; with no gated slot the web's advance counts from here (R271, R282). -/
def State.chargeRise (s : State) (n : Nat) : State :=
  let s := ((s.wr n F.HVC_STATUS_charge_ok 1).wr n F.THM_STATUS_charge_ok 1).modHvc n fun h => { h with arc := s.rd n F.HVC_CHG_ARC_chg_arc }
  let s := if (s.gatedSlots n).isEmpty && s.on n F.HVC_STATUS_chg_forbid then s.modHvc n fun h => { h with rerun := some (s.tbTick n) } else s
  if s.on n F.HVC_STATUS_safeoff then s else s.releaseOnto n fun dst => (s.gatedChannels n).contains dst

/-- HV_DISCHARGE (R278, R281): dis_ms after the safe-off a watched channel's feedback input reads `ch.fb`, which is judged against dis_thr of its full
scale. -/
def execHvDischarge (die : Nat) (ch : HvReading) (s : State) : Out :=
  if !(s.hvc die).watch.any fun w => w.1 == ch.num && decide (w.2 + 1000000 * (s.hvc die).disMs ≤ s.now) then .next s
  else
    let s := if die = 0 then s else s.useUnit die .hv
    let s := (s.modHvc die fun h => { h with watch := h.watch.filter fun w => w.1 ≠ ch.num }).showHv die ch.num (satS 20 ch.fb)
    if (s.hvc die).disThr * 524288 ≤ (satS 20 ch.fb).natAbs * 1000 then
      let s := (s.wr die F.HVC_STATUS_dis_s 1).wr die F.HVC_STATUS_dis_ch ch.num
      .next (s.report die .hvc ch.num .u 0 [])
    else .next s

/-- CHG_FORBID_CLEAR (R282): charge_ok is back, every gated slot is in RUN, and the timebase has advanced chg_arc since. -/
def execChgForbidClear (n : Nat) (s : State) : Out :=
  match (s.hvc n).rerun with
  | none => .next s
  | some p =>
    let run := (s.gatedSlots n).all fun i => s.slotState n i == slotRun
    let gone := decide (((s.hvc n).arc : Int) * 64 ≤ posDiff (s.tbTick n) p)
    if s.hasStn n && s.on n F.HVC_STATUS_chg_forbid && s.on n F.HVC_STATUS_charge_ok && run && gone then
      .next ((s.wr n F.HVC_STATUS_chg_forbid 0).modHvc n fun h => { h with rerun := none })
    else .next s

/-! ### Fuser -/

/-- Fuser states (R285). -/
def fsrOff : Nat := 0
def fsrWarmup : Nat := 1
def fsrReady : Nat := 2
def fsrStandby : Nat := 3
def fsrTrip : Nat := 4

def State.fsrState (s : State) : Nat := s.rd 0 F.FSR_STATUS_state

/-- The mode of a heater (R284). -/
def State.heaterMode (s : State) (h : Nat) : Nat := s.rd 0 (F.FSR_HTR_CFG_mode h)

/-- Asserts or deasserts a heater output. -/
def State.setHeater (s : State) (h : Nat) (b : Bool) : State := s.modFsr fun f => { f with out := f.out.set h b }

/-- Deasserts the outputs of the heaters in certain modes. -/
def State.heatersDown (s : State) (p : Nat → Bool) : State :=
  s.each (List.range 4) fun h s => if p (s.heaterMode h) then s.setHeater h false else s

/-- A heater is held off: FSR is in OFF or TRIP, the Bay trip latch is set, or its temperature input is faulty (R283, R285, R339). -/
def State.heaterHeld (s : State) (h : Nat) : Bool :=
  s.fsrState == fsrOff || s.on 0 F.BAY_STATUS_trip || s.fsrState == fsrTrip || s.fsr.bad.contains (s.rd 0 (F.FSR_HTR_CFG_temp_in h))

/-- The demand on a heater, Q1.19: the output of the slot that drives it; negative values count as 0 (R283). -/
def State.heaterDemand (s : State) (h : Nat) : Int :=
  match s.slotsOnto 0 fun dst => dst == 0x18 + h with
  | i :: _ => max 0 (s.slot 0 i).out
  | [] => 0

/-- Frames in progress while FSR is not READY are flagged with cause 17 (R286). -/
def State.fsrNotReady (s : State) : State :=
  if s.fsrState = fsrReady ∨ s.framesInProgress.isEmpty then s
  else (s.wr 0 F.FSR_STATUS_band_s 1).report 0 .fsr 0 .u (causeBit 17) s.framesInProgress

/-- A frame that begins while FSR is not READY is flagged with cause 17; with no other frame in progress it raises the U-class source, which is the
condition 'not READY with a frame in progress' (R286, R288). -/
def State.fsrFrameBegins (s : State) (id : Nat) (first : Bool) : State :=
  if s.fsrState = fsrReady then s
  else
    let s := (s.wr 0 F.FSR_STATUS_band_s 1).flagFrames [id] 0 (causeBit 17)
    if first then s.report 0 .fsr 0 .u (causeBit 17) [id] else s

/-- FSR takes a state: heaters go off in OFF and TRIP, and run as demanded in the others. The time within the bands counts from the entry of
WARMUP (DEDUCED, log entry 216). Leaving READY with frames in progress flags them (R285, R286). -/
def State.fsrTo (s : State) (st : Nat) : State :=
  let was := s.fsrState
  let s := s.wr 0 F.FSR_STATUS_state st
  let s := if st = fsrWarmup then s.modFsr fun f => { f with inAt := none } else s
  let s := if st = fsrOff ∨ st = fsrTrip then
      let s := (s.heatersDown fun _ => true).modFsr fun f => { f with fire := [false, false, false, false] }
      let s := s.forceOnto 0 fun dst => (heaterOf 0 dst).isSome
      s.beginShadow .heatersOff
    else s.releaseOnto 0 fun dst =>
      match heaterOf 0 dst with
      | some h => !s.heaterBlocked h
      | none => false
  if was = fsrReady then s.fsrNotReady else s

/-- The present reading of a heater's zone, and its band (R285). -/
def State.zoneInBand (s : State) (h : Nat) : Bool :=
  let j := s.rd 0 (F.FSR_HTR_CFG_temp_in h)
  let i := s.rd 0 (F.FSR_HTR_CFG_slot h)
  let goal := rdiv ((s.slotGoal 0 i).1 * 4000) 524288
  let t := s.rdS 0 (F.FSR_TEMP_temp j)
  !s.fsr.bad.contains j && decide (goal - s.rd 0 (F.FSR_BAND_band_lo h) ≤ t) && decide (t ≤ goal + s.rd 0 (F.FSR_BAND_band_hi h))

/-- Every zone is within its band. -/
def State.zonesInBand (s : State) : Bool :=
  (List.range 4).all fun h => !s.on 0 (F.FSR_HTR_CFG_zone h) || s.zoneInBand h

/-- The bands are checked at a temperature sample: since when every zone lies within its band, and each outside it (R285). -/
def State.fsrBand (s : State) : State :=
  let s := s.useUnit 0 .fuser
  let since := fun (b : Bool) (t : Option Nat) => if b then some (t.getD s.now) else none
  let out := s.fsr.outAt.zipIdx.map fun x => since (s.on 0 (F.FSR_HTR_CFG_zone x.2) && !s.zoneInBand x.2) x.1
  let all := since s.zonesInBand s.fsr.inAt
  s.modFsr fun f => { f with inAt := all, outAt := out, readyMs := s.rd 0 F.FSR_READY_ready_ms }

/-- An input that some heater uses reads above t_max (R287). -/
def State.fsrTooHot (s : State) : Bool :=
  (List.range 4).any fun h =>
    let j := s.rd 0 (F.FSR_HTR_CFG_temp_in h)
    decide (j ≤ 5) && decide ((s.rd 0 F.FSR_TMAX_t_max : Int) < s.rdS 0 (F.FSR_TEMP_temp j))

/-- An input reads above t_max, whether a heater uses it or not (R287, R290). -/
def State.fsrAnyHot (s : State) : Bool :=
  (List.range 6).any fun j => decide ((s.rd 0 F.FSR_TMAX_t_max : Int) < s.rdS 0 (F.FSR_TEMP_temp j))

/-- FUSER_OVT (R287). -/
def State.fsrOverTemp (s : State) : State :=
  if s.fsrState = fsrTrip then s
  else
    let s := (s.fsrTo fsrTrip).wr 0 F.FSR_STATUS_ovt_s 1
    (s.setActive 0 .fsr true).raiseF 0 .fsr 0 18 s.framesInProgress

/-- The firing delay of a heater as a fraction of the half-cycle, interpolated from FSR_PA at its demand (R284). The manual gives no precision: the
value is rounded to Q1.19, that of the table (DESIGN CHOICE, log entry 246). -/
def State.fireDelay (s : State) (h : Nat) : Nat :=
  let a := (s.heaterDemand h).toNat
  let k := a / 16384
  let x0 := s.rd 0 (F.FSR_PA_x k)
  let x1 := s.rd 0 (F.FSR_PA_x (k + 1))
  if 32 ≤ k then s.rd 0 (F.FSR_PA_x 32) else (rdiv ((x0 : Int) * 16384 + ((x1 : Int) - x0) * (a % 16384 : Nat)) 16384).toNat

/-- The decision of a phase heater for the half-cycle that begins: no firing later than end_guard and 100 µs before its end; the period is
in 1/16 µs (R284). -/
def State.phaseFires (s : State) (h : Nat) : Bool :=
  let p := s.rd 0 F.WTB_MAINS_PERIOD_period
  decide (s.fireDelay h * p + (s.rd 0 F.FSR_GUARD_end_guard + 100) * 16777216 ≤ p * 524288)

/-- The decisions of the phase heaters at the zero crossing of a time, from the demands at it, with end_guard of the half-cycle (R284, R287). -/
def State.fsrDecide (s : State) (at_ : Nat) : State :=
  let s := (s.ctlRead 0 6 0xF4100 0xF4184 0).useUnit 0 .fuser
  (s.keepUnit 0 .fuser).modFsr fun f => { f with
    phase := (List.range 4).map s.phaseFires, delay := (List.range 4).map s.fireDelay, guard := s.rd 0 F.FSR_GUARD_end_guard, halfAt := at_ }

/-- Burst decisions at the rising zero crossing of a time: the accumulator adds the demand and fires a whole cycle at 1.0 or more (R284). -/
def State.fsrRising (s : State) (at_ : Nat) : State :=
  let s := (s.fsrDecide at_).modFsr fun f => { f with second := false }
  s.each (List.range 4) fun h s =>
    if s.heaterMode h ≠ 1 then s
    else
      let a := s.fsr.acc.getD h 0 + s.heaterDemand h
      let fire := decide (524288 ≤ a) && !s.heaterHeld h && s.on 0 F.FSR_STATUS_mains_ok
      let s := s.modFsr fun f => { f with acc := f.acc.set h (if 524288 ≤ a then a - 524288 else a), fire := f.fire.set h fire }
      s.setHeater h fire

/-- The second half-cycle, from the crossing of a time: a burst that fires this cycle is asserted again after the end guard (R284). -/
def State.fsrHalf (s : State) (at_ : Nat) : State :=
  if s.fsr.second then s
  else
    let s := (s.fsrDecide at_).modFsr fun f => { f with second := true }
    s.each (List.range 4) fun h s =>
      if s.heaterMode h = 1 ∧ s.fsr.fire.getD h false ∧ !s.heaterHeld h then s.setHeater h true else s

/-- HEATER_FIRE (R284): a phase heater fires at x·T_half of a half-cycle for which the crossing decided it. -/
def execHeaterFire (h : Nat) (s : State) : Out :=
  .next (if decide (h < 4) && s.heaterMode h == 2 && s.on 0 F.FSR_STATUS_mains_ok && !s.heaterHeld h && s.fsr.phase.getD h false
      && decide (s.fsr.halfAt * 1048576 + s.fsr.delay.getD h 0 * s.wtb.mainsPeriod ≤ s.now * 1048576)
    then s.setHeater h true else s)

/-- END_GUARD (R284): end_guard before the next zero crossing every burst and phase output is deasserted, and none fires any more. -/
def execEndGuard (s : State) : Out :=
  .next (if 2 * s.fsr.halfAt + s.wtb.mainsPeriod ≤ 2 * (s.now + 1000 * s.fsr.guard) then
    (s.heatersDown fun m => m == 1 || m == 2).modFsr fun f => { f with phase := [false, false, false, false] } else s)

/-- FUSER_TEMP_SAMPLE (R283, R287): the input reads `t` in 0.1 °C, or lies outside 0.5 to 99.5 % of its range. -/
def execFuserTempSample (j : Nat) (t : Int) (inRange : Bool) (s : State) : Out :=
  if 6 ≤ j then .next s
  else if !inRange then
    if s.fsr.bad.contains j then .next s.fsrBand
    else
      let s := (s.modFsr fun f => { f with bad := f.bad ++ [j] }).wr 0 F.FSR_STATUS_sens_s 1
      let s := s.each (List.range 4) fun h s => if s.rd 0 (F.FSR_HTR_CFG_temp_in h) = j then s.setHeater h false else s
      .next (s.fsrBand.report 0 .fsr j .u 0 [])
  else
    let s := ((s.modFsr fun f => { f with bad := f.bad.filter (· ≠ j) }).wrS 0 (F.FSR_TEMP_temp j) t).fsrBand
    if s.fsrTooHot then .next s.fsrOverTemp else .next (s.setActive 0 .fsr false)

/-- A time has been noted and has passed by so many ns. -/
def sinceBy (t : Option Nat) (ns now : Nat) : Bool :=
  match t with
  | some t => decide (t + ns ≤ now)
  | none => false

/-- READY_TIMER (R285): every zone has been within its band for ready_ms. -/
def execReadyTimer (s : State) : Out :=
  .next (if s.fsrState == fsrWarmup && s.zonesInBand && sinceBy s.fsr.inAt (1000000 * s.fsr.readyMs) s.now then s.fsrTo fsrReady else s)

/-- BAND_EXIT (R285): a zone has been outside its band for 100 ms. -/
def execBandExit (s : State) : Out :=
  .next (if s.fsrState == fsrReady && !s.zonesInBand && s.fsr.outAt.any fun t => sinceBy t 100000000 s.now then s.fsrTo fsrWarmup else s)

/-- AUTO_STANDBY (R285): idle_s without a frame in progress. -/
def execAutoStandby (s : State) : Out :=
  .next (if s.fsr.autoStby && s.framesInProgress.isEmpty && (s.fsrState == fsrWarmup || s.fsrState == fsrReady)
      && decide (s.fsr.idleAt + 1000000000 * max 1 s.fsr.idleS ≤ s.now)
    then s.fsrTo fsrStandby else s)

/-- The warmup command: from OFF or STANDBY to WARMUP, where the idle time begins again (R285, R290). -/
def State.fsrWarm (s : State) : State :=
  if s.fsrState = fsrOff ∨ s.fsrState = fsrStandby then
    let s := if s.fsrState = fsrOff then s.fsrTakeAuto else s
    let s := s.modFsr fun f => { f with idleAt := s.now }
    (s.fsrTo fsrWarmup).modFlt fun f => { f with shadows := f.shadows.filter (· ≠ .heatersOff) } else s

/-- The standby command: ignored in OFF and TRIP (R290). -/
def State.fsrToStandby (s : State) : State :=
  if s.fsrState = fsrOff ∨ s.fsrState = fsrTrip then s else s.fsrTo fsrStandby

/-- The off command: ignored in TRIP (R290). -/
def State.fsrToOff (s : State) : State := if s.fsrState = fsrTrip then s else s.fsrTo fsrOff

/-- The clear command: TRIP to OFF, refused while an input exceeds t_max (R287, R290). -/
def State.fsrClear (s : State) : State :=
  if s.fsrState ≠ fsrTrip then s
  else if s.fsrAnyHot then s.reject 0 .fsr F.FSR_STATUS_write_reject
  else s.fsrTo fsrOff

/-- The mains timebase is lost: burst and phase outputs stop, their slots are forced, and READY is left for WARMUP (R286). -/
def State.fsrMainsLost (s : State) : State :=
  let s := (s.wr 0 F.FSR_STATUS_mains_ok 0).heatersDown fun m => m == 1 || m == 2
  let s := s.modFsr fun f => { f with fire := [false, false, false, false], phase := [false, false, false, false] }
  let s := s.forceOnto 0 fun dst =>
    match heaterOf 0 dst with
    | some h => s.heaterBlocked h
    | none => false
  let s := s.beginShadow .heatersOff
  if s.fsrState = fsrReady then s.fsrTo fsrWarmup else s

/-- Mains is back: the forced slots start again from the measured value (R286). -/
def State.fsrMainsBack (s : State) : State :=
  let s := (s.wr 0 F.FSR_STATUS_mains_ok 1).modFlt fun f => { f with shadows := f.shadows.filter (· ≠ .heatersOff) }
  s.releaseOnto 0 fun dst =>
    match heaterOf 0 dst with
    | some h => !s.heaterBlocked h
    | none => false

/-- WARMUP (R285). -/
def execWarmup (s : State) : Out := .next s.fsrWarm

/-- FSR_STANDBY (R285). -/
def execFsrStandby (s : State) : Out := .next s.fsrToStandby

/-- FSR_OFF (R290). -/
def execFsrOff (s : State) : Out := .next s.fsrToOff

/-- FSR_CLEAR (R287). -/
def execFsrClear (s : State) : Out := .next s.fsrClear

/-- FSR_CLEAR_COUNTERS (R290). -/
def execFsrClearCounters (s : State) : Out := .next (s.wr 0 F.FSR_CUE_IGN_CNT_ign 0)

/-- A HEATER action on a mask of heaters: a heater not in cue mode ignores it and counts it (R284); a forced-off heater stays off (R287). -/
def State.heaterCue (s : State) (mask : Nat) (b : Bool) : State :=
  s.each (List.range 4) fun h s =>
    if !mask.testBit h then s
    else if s.heaterMode h ≠ 3 then s.bump 0 F.FSR_CUE_IGN_CNT_ign
    else s.setHeater h (b && !s.heaterHeld h)

end Sys2Proof.Machine
end

