-- ==== Sys2Proof/Machine/Link.lean ====
section
/-! DEFINITION. The words of the laser link (R217 to R226): characters and their codes, control words, and frames with their CRC. -/

namespace Sys2Proof.Machine

/-- One bit step of CRC-16/CCITT-FALSE. -/
def crcBit (c : Nat) : Nat := if c.testBit 15 then (2 * c ^^^ 0x1021) % 65536 else 2 * c

/-- CRC-16/CCITT-FALSE over a list of bytes (R221). -/
def crc16 (l : List Nat) : Nat :=
  l.foldl (fun c b => (List.range 8).foldl (fun c _ => crcBit c) (c ^^^ b % 256 * 256)) 0xFFFF

/-- Zero bytes up to the next word of eight (R217). -/
def padWord (l : List Nat) : List Nat := l ++ List.replicate ((8 - l.length % 8) % 8) 0

/-- The control words of the link (R217). -/
inductive LinkCtl where
  | idle | align | sweep | control | filler | final | abort
  deriving DecidableEq, Repr

/-- The K character of a control word: K28.5, K28.3, K27.7, K28.2, K28.0, K29.7 and K30.7 (R217). -/
def LinkCtl.char : LinkCtl → Nat
  | .idle => 28 + 32 * 5
  | .align => 28 + 32 * 3
  | .sweep => 27 + 32 * 7
  | .control => 28 + 32 * 2
  | .filler => 28
  | .final => 29 + 32 * 7
  | .abort => 30 + 32 * 7

/-! The code of a character, ten bits with bit a first, follows common practice (R217; PRESUMED, log entry 259). -/

/-- The six-bit codes of the five low bits at negative running disparity. -/
def code6 : List Nat :=
  [0x27, 0x1D, 0x2D, 0x31, 0x35, 0x29, 0x19, 0x38, 0x39, 0x25, 0x15, 0x34, 0x0D, 0x2C, 0x1C, 0x17,
   0x1B, 0x23, 0x13, 0x32, 0x0B, 0x2A, 0x1A, 0x3A, 0x33, 0x26, 0x16, 0x36, 0x0E, 0x2E, 0x1E, 0x2B]

/-- The four-bit codes of the three high bits at negative running disparity, of data and of K characters. -/
def code4 : List Nat := [0xB, 0x9, 0x5, 0xC, 0xD, 0xA, 0x6, 0xE]
def codeK4 : List Nat := [0xB, 0x6, 0xA, 0xC, 0xD, 0x5, 0x9, 0x7]

/-- The ones of a code. -/
def onesOf (bits c : Nat) : Nat := ((List.range bits).filter fun i => c.testBit i).length

/-- A part of a code at a running disparity: the other form where the part is not balanced, or where both its forms are balanced. -/
def codePart (bits c : Nat) (both plus : Bool) : Nat × Bool :=
  let odd := decide (2 * onesOf bits c ≠ bits)
  (if plus && (odd || both) then 2 ^ bits - 1 - c else c, plus != odd)

/-- The ten bits of a character at a running disparity, and the disparity after it; a K character is 256 above its byte. -/
def encode10 (plus : Bool) (ch : Nat) : Nat × Bool :=
  let k := decide (256 ≤ ch)
  let x := ch % 32
  let y := ch / 32 % 8
  let (a, p) := if k && x == 28 then codePart 6 0x0F false plus else codePart 6 (code6.getD x 0) (x == 7) plus
  let alt := !k && y == 7 && (if p then [11, 13, 14].contains x else [17, 18, 20].contains x)
  let (b, q) := codePart 4 (if k then codeK4.getD y 0 else if alt then 7 else code4.getD y 0) (k || y == 3) p
  (16 * a + b, q)

/-- The codes of a run of characters on one lane, from a running disparity on. -/
def encodeLane : Bool → List Nat → List Nat
  | _, [] => []
  | plus, c :: t => (encode10 plus c).1 :: encodeLane (encode10 plus c).2 t

/-- The same character on every lane (R217). -/
def laneWord (c : Nat) : List Nat := List.replicate 8 c
def LinkCtl.word (c : LinkCtl) : List Nat := laneWord (256 + c.char)

/-- Bytes as link words: data byte d travels on lane d mod 8 (R217). The first argument bounds the number of words. -/
def dataWords : Nat → List Nat → List (List Nat)
  | 0, _ => []
  | k + 1, l => if l.isEmpty then [] else l.take 8 :: dataWords k (l.drop 8)

/-- A frame of the link: its start word, its bytes up to a word boundary, and its last word (R217, R222, R226). -/
def linkFrame (a b : LinkCtl) (bytes : List Nat) : List (List Nat) := a.word :: dataWords bytes.length (padWord bytes) ++ [b.word]

/-- A control frame after its /C/ word (R226). -/
def ctlFrame (op : Nat) (payload : List Nat) : List Nat :=
  let b := op :: leBytes payload.length 2 ++ [0] ++ payload
  padWord (b ++ leBytes (crc16 b) 2)

/-- What a lane sends for the present words of the link, from the running disparity at which they begin; how many idle words have gone before
them is not modelled (R217). -/
def State.laneCodes (s : State) (n lane : Nat) (plus : Bool) : List Nat := encodeLane plus ((s.lsr n).tx.map fun w => w.getD lane 0)

/-- The link words of the sweep frame that has been launched (R217, R221, R222). -/
def State.sweepWords (s : State) (n : Nat) (last : LinkCtl) : List (List Nat) :=
  linkFrame .sweep last ((s.lsr n).header ++ (s.lsr n).columns.flatten)

end Sys2Proof.Machine
end

