-- ==== Sys2Proof/Machine/CueEngine.lean ====
section
/-! DEFINITION. The cue engine (R60 to R81): cue memory, the lists and their first evaluation, when a cue is due, issue through the port,
and editing. -/

namespace Sys2Proof.Machine

/-! ### Entries (R60 to R63) -/

/-- What entry 4,095 reads as (R60). -/
abbrev CueEntry.zero : CueEntry := ⟨0, 0, 0, 0⟩

/-- An entry that nothing has written: a NOP that ends its list, so that no host list reaches an FRM entry (R61; DESIGN CHOICE, log entry
199). -/
abbrev CueEntry.blank : CueEntry := ⟨0xFFF, 0, 0, 0⟩

def CueEntry.chain (e : CueEntry) : Bool := e.w0.testBit 19
def CueEntry.action (e : CueEntry) : Nat := bitsN e.w0 18 14
def CueEntry.arg (e : CueEntry) : Nat := e.w3
def CueEntry.next (e : CueEntry) : Nat := bitsN e.w0 11 0
def CueEntry.tick (e : CueEntry) : Nat := e.w1 % 0x100000 + 0x100000 * (e.w2 % 0x100000)
/-- The repeat field of a mains or shaft entry. -/
def CueEntry.rep (e : CueEntry) : Nat := bitsN e.w2 11 0

/-- The end-of-list and idle code. -/
abbrev cueEnd : Nat := 0xFFF

/-- An entry of the cue memory of a die. -/
def State.cueEntry (s : State) (d i : Nat) : CueEntry := storeGet (s.cue d).mem i CueEntry.blank

def State.setCueEntry (s : State) (d i : Nat) (e : CueEntry) : State :=
  s.modCue d fun c => { c with mem := storeSet c.mem i e CueEntry.blank }

/-- The engine reads an entry for use: its code word is checked (R60, R364). -/
def State.readEntry (s : State) (d i : Nat) : State := (s.memRead d 1 i .control).2

/-- An entry is stored whole: its code word takes an armed flip (R368). -/
def State.storeEntry (s : State) (d i : Nat) (e : CueEntry) : State :=
  (s.setCueEntry d i e).mergeIn d 1 i [(0, 0), (1, 0), (2, 0), (3, 0)] false

/-- Only the first word of an entry is written: a partial write (R365). -/
def State.linkEntry (s : State) (d i : Nat) (e : CueEntry) : State := (s.setCueEntry d i e).mergeIn d 1 i [(0, 0)] false

/-- Actions that carry their tick to the target (R63). -/
def tickStamped (action : Nat) : Bool := [1, 2, 3, 7].contains action

/-- Action code and argument are valid on a die (R63, R76). -/
def actionValid (d action arg : Nat) : Bool :=
  match action with
  | 0 | 0x0A => true
  | 1 | 2 | 3 | 4 => decide (arg < 256)
  | 5 => decide (arg < 65536)
  | 6 => decide (arg < 64) && decide (arg / 16 ≤ 2) && decide (4 ≤ arg % 16)
  | 7 => d == 0 && decide (arg < 16)
  | 8 => d == 0 && decide (arg ≤ 2)
  | 9 => d == 0 && decide (arg < 32)
  | _ => false

/-! ### Lists -/

/-- A list beside its registers. -/
def State.cueList (s : State) (d j : Nat) : CueList := (s.cue d).lists.getD j {}

def State.modList (s : State) (d j : Nat) (f : CueList → CueList) : State :=
  s.modCue d fun c => { c with lists := c.lists.modify j f }

def State.listHead (s : State) (d j : Nat) : Nat := s.rd d (F.CUE_LIST_HEAD_head j)
def State.listIdle (s : State) (d j : Nat) : Bool := s.on d (F.CUE_LIST_HEAD_idle j)
def State.listHalted (s : State) (d j : Nat) : Bool := s.on d (F.CUE_LIST_HEAD_halted j)

/-- Sets the head of a list; the end code makes it idle (R61). The head is then first evaluated (R68). -/
def State.setHead (s : State) (d j h : Nat) : State :=
  let s := (s.wr d (F.CUE_LIST_HEAD_head j) h).wrB d (F.CUE_LIST_HEAD_idle j) (h == cueEnd)
  s.modList d j fun l => { l with fresh := true, due := none, firesLeft := none }

/-- The running bit: an enabled list is not idle (R81). -/
def State.cueRunning (s : State) (d : Nat) : State :=
  s.wrB d F.CUE_STATUS_running ((List.range 16).any fun j => s.on d (F.CUE_LIST_CFG_enable j) && !s.listIdle d j)

/-- The entries that execute with an entry: those its chain links, at most 64, and the entry at which a longer chain halts (R62, R71). A chain
bit beside the end code links to nothing, and the chain ends there (DESIGN CHOICE, log entry 200). -/
def State.cueUnit (s : State) (d : Nat) : Nat → Nat → List Nat × Option Nat
  | 0, i => ([], some i)
  | n + 1, i =>
    let e := s.cueEntry d i
    if e.chain ∧ e.next ≠ cueEnd then
      let (l, o) := s.cueUnit d n e.next
      (i :: l, o)
    else ([i], none)

/-- CUE_CHAIN_LOOP: the list halts (R71, R76, R80). -/
def State.chainLoop (s : State) (d j : Nat) : State :=
  let s := (s.wr d (F.CUE_LIST_HEAD_halted j) 1).modList d j fun l => { l with due := none, fresh := false }
  (s.wr d F.CUE_STATUS_chain_halt_s 1).report d .cue j .u 0 []

/-- First evaluation of a web head, which the engine reads as it becomes head: missed heads are skipped with their chains until one stands within the miss window, or the list fires
late (R68). A ring of missed entries goes on at the next update. -/
def State.firstEval (s : State) (d j : Nat) : Nat → List Nat → State
  | 0, _ => s
  | n + 1, seen =>
    let h := s.listHead d j
    if h = cueEnd ∨ seen.contains h then s
    else
      let s := s.readEntry d h
      let behind := -(s.tbTo d (s.cueEntry d h).tick)
      let late := s.rd d (F.CUE_LIST_CFG_miss_policy j) == 1
      if late ∨ behind ≤ (((s.cue d).missWin * 64 * tickParts : Nat) : Int) then s.modList d j fun l => { l with fresh := false }
      else
        let (unit, isOver) := s.cueUnit d 64 h
        match isOver with
        | some _ => s.chainLoop d j
        | none =>
          let s := s.each unit.tail fun i s => s.readEntry d i
          let s := ((s.bump d F.CUE_SKIP_CNT_skip_cnt unit.length).wr d F.CUE_STATUS_skip_s 1).reportC d .cue j
          (s.setHead d j (s.cueEntry d (unit.getLastD h)).next).firstEval d j n (h :: seen)

/-! ### When a cue is due (R66, R67) -/

/-- The rate of a die's fabric clock, kHz: on the bypass clock the hub runs at 25 MHz (R74), or at the rate of the internal oscillator, to
which every interval of R54 and R74 scales (R209). -/
def State.fabKhz (s : State) (d : Nat) : Nat :=
  if d ≠ 0 ∨ !s.on 0 F.CUE_STATUS_degraded then 1000000 else max 1 ((s.cks 0).osc.getD 25000)

/-- The length of a number of cycles of a die's fabric clock, in whole ns. -/
def State.fabTime (s : State) (d n : Nat) : Nat := (rdiv (n * 1000000 : Nat) (s.fabKhz d)).toNat

/-- The update interval of a die's timebase: 40 cycles of the fabric clock (R43, R54), in whole ns. The part of a ns that the intervals before it
have left over counts with it, so that the updates of the hub keep the rate of its clock (R209). -/
def State.tbInterval (s : State) (d : Nat) : Nat := (40000000 + (if d = 0 then s.wtb.frac else 0)) / s.fabKhz d

/-- The die's timebase moves: hub always, a station while its rep_ok is set (R75). -/
def State.tbRuns (s : State) (d : Nat) : Bool := d == 0 || s.on d F.CUE_REP_STATUS_rep_ok

/-- The time of the last update of a die's timebase: a station keeps its own clock, also while the hub updates at longer intervals (R44, R74). -/
def State.tbNow (s : State) (d : Nat) : Nat := if d = 0 then s.now else max s.now (s.link d).clock

/-- The instant at which a web point is due, if it is due at this update (R44, R66). A point at or behind the position is due at once. -/
def State.webDue (s : State) (d tick : Nat) : Option Nat :=
  let v := s.tbVel d
  if v = 0 ∨ !s.tbRuns d then none
  else
    let x := s.tbTo d tick
    let u := v * 16000000
    if x ≤ 0 then some (s.tbNow d)
    else if x * s.fabKhz d < ((40 * u : Nat) : Int) then some (s.tbNow d + s.fabTime d (rdivUp (x * s.fabKhz d) u).toNat)
    else none

/-- The forward crossing of an angle between two samples; a backward movement crosses nothing (R67). The answer is the distance from the
first sample. -/
def crossing (phi prev cur : Nat) : Option (Nat × Nat) :=
  let m := 1048576
  let f := (cur + (m - prev % m)) % m
  let x := (phi + (m - prev % m)) % m
  if f < m / 2 ∧ 0 < x ∧ x ≤ f then some (x, f) else none

/-- The sample of the timebase of a mains or shaft list before the present one, and the present one (R65, R67). While no mains is tracked a
mains list crosses nothing (DESIGN CHOICE, log entry 201). -/
def State.cueSample (s : State) (d j : Nat) : Option (Nat × Nat) :=
  if s.rd d (F.CUE_LIST_CFG_kind j) = 1 then
    if s.on 0 F.WTB_STATUS_mains_ok then some ((s.cue d).prevMains, (s.cue d).curMains) else none
  else
    let k := s.rd d (F.CUE_LIST_CFG_src j)
    some ((s.cue d).prevShaft.getD k 0, (s.cue d).curShaft.getD k 0)

/-- The instant at which a mains or shaft head is due, interpolated between the samples (R67); on the bypass clock in steps of its cycle (R74). -/
def State.angleDue (s : State) (d j phi : Nat) : Option Nat :=
  match s.cueSample d j with
  | none => none
  | some (prev, cur) =>
    let prev' := ((s.cueList d j).fired.filter fun a => (crossing a prev cur).isSome).getD prev
    match crossing phi prev' cur, crossing cur prev cur with
    | some (x, f), some (_, g) =>
      some (s.tbNow d - s.fabTime d 40 + s.fabTime d (rdivUp ((40 * (g - f + x) : Nat) : Int) g).toNat)
    | _, _ => none

/-- The web that passes in 100 ns at the top web speed, 192 ticks per µs (R8, R72). -/
abbrev crowdTicks : Nat := 19

/-- A cue, with its place in the book, comes before another one and its issue point lies within 100 ns of the other's (R72). -/
def crowds (y x : FrmCue × Nat) : Bool :=
  let a := posDiff x.1.tick y.1.tick
  decide (0 ≤ a) && decide (a ≤ crowdTicks) && (decide (a ≠ 0) || decide (y.1.list < x.1.list) || (y.1.list == x.1.list && decide (y.2 < x.2)))

/-- The cues of FRM's book that stand in the lists: one that four others crowd from before is placed once enough of those have issued (R72;
DEDUCED, log entry 205). -/
def frmPlaced (l : List FrmCue) : List FrmCue :=
  (l.zipIdx.filter fun x => decide ((l.zipIdx.filter fun y => crowds y x).length < 4)).map (·.1)

/-- The FRM cues of a list that stand in it and have not been issued, in order. -/
def State.frmCues (s : State) (d j : Nat) : List FrmCue :=
  (frmPlaced ((s.cue d).frm.filter fun c => !c.issued)).filter fun c => c.list == j

/-- The head of an FRM list is judged (R66, R69). -/
def State.judgeFrm (s : State) (d j : Nat) : State :=
  if (s.cueList d j).due.isSome then s
  else match (s.frmCues d j).head? with
    | none => s
    | some c => s.modList d j fun l => { l with due := s.webDue d (posAdd c.tick (-256)) }

/-- The head of a watched host list is judged: its first evaluation, and whether it is due (R66 to R68, R76). A list of kind 0b11 is of a kind
that no die has: it halts as one of a kind the die lacks (DEDUCED, log entry 202). A web head whose station has rep_ok clear keeps its first
evaluation until the replica runs again (DESIGN CHOICE, log entry 249). -/
def State.judgeHost (s : State) (d j : Nat) : State :=
  let l := s.cueList d j
  if !l.on || s.listIdle d j || s.listHalted d j || l.due.isSome then s
  else
    let kind := s.rd d (F.CUE_LIST_CFG_kind j)
    if kind = 3 ∨ (kind = 1 ∧ d ≠ 0) then s.chainLoop d j
    else if kind = 0 then
      if !s.tbRuns d then s
      else
        let s := if l.fresh then s.firstEval d j 3072 [] else s
        if (s.cueList d j).fresh || s.listIdle d j || s.listHalted d j then s
        else
          let e := s.cueEntry d (s.listHead d j)
          let point := if tickStamped e.action then posAdd e.tick (-256) else e.tick
          s.modList d j fun l => { l with due := s.webDue d point }
    else
      let s := if l.fresh then s.readEntry d (s.listHead d j) else s
      let e := s.cueEntry d (s.listHead d j)
      s.modList d j fun l => { l with fresh := false, due := s.angleDue d j (e.w1 % 1048576) }

/-- A stop, a disable or an enable takes effect at the update (R79); a disabled list keeps its head. -/
def State.applyCtrl (s : State) (d j : Nat) : State :=
  let l := s.cueList d j
  let en := s.on d (F.CUE_LIST_CFG_enable j)
  let s := s.modList d j fun l => { l with fired := none, on := en, due := if en then l.due else none, fresh := l.fresh || (en && !l.on) }
  if l.stopPend then (s.setHead d j cueEnd).modList d j fun l => { l with stopPend := false, fresh := false } else s

/-- The engine of a die samples its mains phase and its shaft angles (R67). -/
def State.cueSamples (s : State) (d : Nat) : State :=
  let shaft := (List.range 4).map fun k => if d = 0 then s.rd 0 (F.WTB_SHAFT_ANGLE_angle k) else s.rd d (F.CUE_SHAFT_ANGLE_angle k)
  let mains := s.rd 0 F.WTB_MAINS_PHASE_phase
  s.modCue d fun c => { c with prevMains := c.curMains, prevShaft := c.curShaft, curMains := mains, curShaft := shaft }

/-- The cue engine of a die at an update of its timebases (R66, R67, R79). -/
def State.cueUpdate (s : State) (d : Nat) : State :=
  let s := (s.cueSamples d).modCue d fun c => { c with missWin := s.rd d F.CUE_CTRL_miss_win }
  let s := s.each [0, 1, 2, 3] fun j s => s.judgeFrm d j
  (s.each (List.range' 4 12) fun j s => (s.applyCtrl d j).judgeHost d j).cueRunning d

/-- After an accepted preset every web head is first evaluated (R68). -/
def State.cuePreset (s : State) (d : Nat) : State :=
  s.each ((List.range' 4 12).filter fun j => s.rd d (F.CUE_LIST_CFG_kind j) == 0) fun j s =>
    s.modList d j fun l => { l with fresh := true, due := none }

/-! ### FRM lists in the cue memory (R61, R84, R89) -/

/-- Cues of one list in the order of their ticks, cues of one tick in the order FRAME_END, BANK_SWITCH, FRAME_START (R84). -/
def insertCue (l : List FrmCue) (c : FrmCue) : List FrmCue :=
  match l with
  | [] => [c]
  | x :: t =>
    if x.list = c.list ∧ !x.issued ∧ (0 < posDiff x.tick c.tick ∨ (x.tick = c.tick ∧ c.order < x.order)) then c :: x :: t
    else x :: insertCue t c

/-- The words of the entries of an FRM list: cues of one tick are chained, and each chain links to the next. -/
def frmWords : List FrmCue → List (Nat × CueEntry)
  | [] => []
  | c :: t =>
    let nxt := match t.head? with
      | some n => n.entry
      | none => cueEnd
    let ch := match t.head? with
      | some n => n.tick == c.tick
      | none => false
    (c.entry, ⟨b2n ch * 0x80000 + c.action * 0x4000 + nxt, c.tick % 0x100000, c.tick / 0x100000, c.arg⟩) :: frmWords t

/-- An FRM entry takes its words; a new link of an entry that stands already is a partial write (R84, R365). -/
def State.frmEntry (s : State) (d : Nat) (x : Nat × CueEntry) : State :=
  let e := s.cueEntry d x.1
  if e = x.2 then s
  else if e.w1 = x.2.w1 ∧ e.w2 = x.2.w2 ∧ e.w3 = x.2.w3 then s.linkEntry d x.1 x.2 else s.storeEntry d x.1 x.2

/-- The FRM lists of a die as cue memory and list registers show them. -/
def State.syncFrm (s : State) (d : Nat) : State :=
  let s := s.each [0, 1, 2, 3] fun j s =>
    let cs := s.frmCues d j
    let s := s.each (frmWords cs) fun x s => s.frmEntry d x
    let h := match cs.head? with
      | some c => c.entry
      | none => cueEnd
    let s := if h = s.listHead d j then s else s.modList d j fun l => { l with due := none }
    (s.wr d (F.CUE_LIST_HEAD_head j) h).wrB d (F.CUE_LIST_HEAD_idle j) (h == cueEnd)
  s.cueRunning d

/-- The FRM entries of a die in use (R89). -/
def State.frmUsed (s : State) (d : Nat) : List Nat := (s.cue d).frm.map (·.entry)

/-- The lowest entry from a number on that a list does not hold. -/
def freeEntry (used : List Nat) : Nat → Nat → Nat
  | 0, i => i
  | n + 1, i => if used.contains i then freeEntry used n (i + 1) else i

/-- FRM places a cue on a die in the lowest free FRM entry. -/
def State.placeCue (s : State) (d list tick order action arg frame : Nat) : State :=
  let e := freeEntry (s.frmUsed d) 1024 0
  s.modCue d fun c => { c with frm := insertCue c.frm ⟨list, tick, order, action, arg, frame, e, false⟩ }

/-- Cues that satisfy a test are removed from a die, issued ones too. -/
def State.dropCues (s : State) (d : Nat) (p : FrmCue → Bool) : State :=
  let gone := ((s.cue d).frm.filter p).map (·.entry)
  if gone.isEmpty then s
  else (s.modCue d fun c => { c with frm := c.frm.filter (fun x => !p x),
                                     issued := c.issued.filter fun i => !(decide (i.list < 4) && gone.contains i.entry) }).syncFrm d

/-! ### Issue (R69 to R74) -/

/-- The due list that issues next: FRM lists first, then the earlier instant, then the lower list number (R71). -/
def State.nextDue (s : State) (d : Nat) : Option (Nat × Nat) :=
  (List.range 16).foldl (fun (best : Option (Nat × Nat)) j =>
    match (s.cueList d j).due, best with
    | none, _ => best
    | some t, none => some (j, t)
    | some t, some (j', t') => if j' < 4 ∧ 4 ≤ j then best else if t < t' then some (j, t) else best) none

/-- The issue time of a cue after the last issues: 12 ns after the one before, and no ninth issue in 100 ns (R70, R74). -/
def State.issueTime (s : State) (d inst : Nat) : Nat :=
  let r := (s.cue d).recent
  let a := match r[0]? with
    | some t => max inst (t + s.fabTime d 12)
    | none => inst
  match r[7]? with
  | some t => max a (t + s.fabTime d 100)
  | none => a

/-- One cue is issued: its lateness is judged (R73), and the action is on its way to its target. -/
def State.issueOne (s : State) (d j entry action arg : Nat) (tick : Option Nat) (inst : Nat) : State :=
  let t := s.issueTime d inst
  let late := t - inst
  let s := s.modCue d fun c => { c with recent := (t :: c.recent).take 8, issued := c.issued ++ [⟨action, arg, tick, j, entry, t⟩] }
  let s := ((s.bumpWrap d F.CUE_EXEC_CNT_exec_cnt).raiseTo d F.CUE_LATE_MAX_late_max late).wr d (F.CUE_LIST_LAST_last j) entry
  if s.rd d F.CUE_LATE_TOL_late_tol < late then
    let s := (s.bump d F.CUE_LATE_CNT_late_cnt).wr d F.CUE_STATUS_late_s 1
    if d = 0 then s.detect .cueLate 0 .cue j .c 0 [] else s.reportC d .cue j
  else s

/-- CUE_HARD_MISS (R69): the tick of an FRM head has passed when it issues. It is one event for the head with its chain, and flags the frames
that their actions concern. -/
def State.hardMiss (s : State) (d j tick : Nat) (frames : List Nat) : State :=
  if !s.reached d tick then s
  else
    let fs := frames.eraseDups.filter fun f => s.frm.frames.any fun x => x.id == f
    ((s.bump d F.CUE_HARD_MISS_CNT_hard_miss_cnt).wr d F.CUE_STATUS_hard_miss_s 1).report d .cue j .u (causeBit 14) fs

/-- The delivery of FRAME_START releases the safe-off line of a station from its watchdog, and from a motor that has restarted (R233). -/
def State.frameDelivered (s : State) (n : Nat) : State :=
  let back := fun (c : LineCause) => match c with
    | .beam => true
    | .motor role => [0, 1].all fun k => s.rd n (F.MDR_CH_CFG_role k) != role || (!(s.chan n k).faulted && s.on n (F.MDR_CH_STATUS_running k))
    | _ => false
  s.each ((s.stn n).line.filter back) fun c s => s.releaseLine n c

/-- The due chain of an FRM list is issued. -/
def State.issueFrm (s : State) (d j inst : Nat) : State :=
  let cs := s.frmCues d j
  let tick := (cs.head?.map (·.tick)).getD 0
  let unit := cs.takeWhile fun c => c.tick == tick
  let s := if unit.isEmpty then s else s.hardMiss d j tick (unit.map (·.frame))
  let s := s.each unit fun c s =>
    let s := (s.readEntry d c.entry).issueOne d j c.entry c.action c.arg (some c.tick) inst
    if c.action = 1 ∧ d ≠ 0 then s.frameDelivered d else s
  let ids := unit.map (·.entry)
  let s := s.modCue d fun c => { c with frm := c.frm.map fun x => if ids.contains x.entry then { x with issued := true } else x }
  ((s.modList d j fun l => { l with due := none }).syncFrm d).judgeFrm d j

/-- The due head of a host list is issued with its chain; a tick-stamped action of a mains or shaft list carries words 1 and 2 of its head as its
tick (DESIGN CHOICE, log entry 203); a repeating head stays until its firings are done, and the list advances to the
entry the last one names (R61, R62, R68, R71). -/
def State.issueHost (s : State) (d j inst : Nat) : State :=
  let h := s.listHead d j
  let kind := s.rd d (F.CUE_LIST_CFG_kind j)
  let (unit, isOver) := s.cueUnit d 64 h
  let s := s.each unit fun i s =>
    let s := s.readEntry d i
    let e := s.cueEntry d i
    s.issueOne d j i e.action e.arg (if tickStamped e.action then some (s.cueEntry d h).tick else none) inst
  match isOver with
  | some i => (s.setHead d j i).chainLoop d j
  | none =>
    let head := s.cueEntry d h
    let left := (s.cueList d j).firesLeft.getD (head.rep + 1)
    if kind ≠ 0 ∧ (head.rep = cueEnd ∨ 1 < left) then
      (s.modList d j fun l => { l with due := none, fired := some (head.w1 % 1048576),
                                       firesLeft := if head.rep = cueEnd then none else some (left - 1) }).judgeHost d j
    else
      let s := s.setHead d j (s.cueEntry d (unit.getLastD h)).next
      let s := if kind = 0 then s else s.modList d j fun l => { l with fired := some (head.w1 % 1048576) }
      (s.judgeHost d j).cueRunning d

/-- CUE_ISSUE (R70, R71). -/
def execCueIssue (die : Nat) (s : State) : Out :=
  match s.nextDue die with
  | none => .next s
  | some (j, inst) => .next (if j < 4 then s.issueFrm die j inst else s.issueHost die j inst)

/-! ### Taking an issued action -/

/-- The instant at which an issued action is carried out: that of its issue or, if it carries a tick, the one at which the die's timebase
reaches it, resolved as R44 says; while the velocity is zero there is none (R44, R66). -/
def State.actInstant (s : State) (d : Nat) (i : Issued) : Option Nat :=
  match i.tick with
  | some t => s.webDue d t
  | none => some i.instant

/-- The first issued action that satisfies a test and can be carried out. -/
def State.issuedAction (s : State) (d : Nat) (p : Issued → Bool) : Option Issued :=
  (s.cue d).issued.find? fun i => p i && (s.actInstant d i).isSome

/-- The list without its first element that equals a given one. -/
def eraseFirst {α : Type} [DecidableEq α] (l : List α) (a : α) : List α := l.erase a

/-- An issued action has been carried out; an FRM entry is free again (R89). -/
def State.doneAction (s : State) (d : Nat) (i : Issued) : State :=
  s.modCue d fun c => { c with issued := eraseFirst c.issued i,
                               frm := c.frm.filter fun x => !(decide (i.list < 4) && x.entry == i.entry && x.issued) }

/-- Carries out the first issued action that satisfies a test, at its instant: nothing happens where there is none. -/
def State.onAction (s : State) (d : Nat) (p : Issued → Bool) (f : Issued → State → State) : State :=
  match s.issuedAction d p with
  | none => s
  | some i => f { i with instant := (s.actInstant d i).getD (s.tbNow d) } (s.doneAction d i)

/-- NOP (R63). -/
def execNop (die : Nat) (s : State) : Out := .next (s.onAction die (fun i => i.action == 0) fun _ s => s)

/-- EVENT (R63): a kind-1 record and the cue-event interrupt of the die. -/
def execEvent (die : Nat) (s : State) : Out :=
  .next (s.onAction die (fun i => i.action == 5) fun i s => (s.evrNow 1 false (die * 0x20000 + i.arg % 65536) 0).irq (8 + die))

/-- SAMPLE (R63): position and velocity are latched. -/
def execSample (die : Nat) (s : State) : Out :=
  .next (s.onAction die (fun i => i.action == 0x0A) fun _ s =>
    (s.wr40 die P.CUE_SAMPLE_POS (s.tbTick die)).wr die F.CUE_SAMPLE_VEL_sample_vel (s.tbVel die))

/-- LIST_CTRL with an operation: disable 0, enable 1, stop 2. -/
def isListCtrl (op : Nat) (i : Issued) : Bool := i.action == 6 && i.arg / 16 % 4 == op

/-- LIST_CTRL_DISABLE (R63, R79). -/
def execListCtrlDisable (die : Nat) (s : State) : Out :=
  .next (s.onAction die (isListCtrl 0) fun i s => s.wr die (F.CUE_LIST_CFG_enable (i.arg % 16)) 0)

/-- LIST_CTRL_ENABLE (R63, R79). -/
def execListCtrlEnable (die : Nat) (s : State) : Out :=
  .next (s.onAction die (isListCtrl 1) fun i s => s.wr die (F.CUE_LIST_CFG_enable (i.arg % 16)) 1)

/-- A stop waits for the next update (R79). -/
def State.listStop (s : State) (d j : Nat) : State := s.modList d j fun l => { l with stopPend := true }

/-- LIST_CTRL_STOP (R63, R79). -/
def execListCtrlStop (die : Nat) (s : State) : Out := .next (s.onAction die (isListCtrl 2) fun i s => s.listStop die (i.arg % 16))

/-! ### Editing (R76 to R79) -/

/-- An entry is the head of a list that is not idle, or is reached from it through chain bits (R76). -/
def State.cueLive (s : State) (d i : Nat) : Bool :=
  (List.range 16).any fun j => !s.listIdle d j && (s.cueUnit d 4096 (s.listHead d j)).1.contains i

/-- A result of the edit command; a refusal sets write_reject (R76). -/
def State.editResult (s : State) (d r : Nat) : State :=
  let s := s.wr d F.CUE_EDIT_RESULT_result r
  if 1 ≤ r ∧ r ≤ 3 then s.reject d .cue F.CUE_STATUS_write_reject else s

/-- The edit registers as an entry. -/
def State.editEntry (s : State) (d : Nat) : CueEntry :=
  ⟨s.rd d (F.CUE_EDIT_W_word 0), s.rd d (F.CUE_EDIT_W_word 1), s.rd d (F.CUE_EDIT_W_word 2), s.rd d (F.CUE_EDIT_W_word 3)⟩

/-- The read command (R76); entry 4,095 reads as zero (R60). -/
def State.editRead (s : State) (d : Nat) : State :=
  let i := s.rd d F.CUE_EDIT_IDX_idx
  let s := if i = cueEnd then s else s.readEntry d i
  let e := if i = cueEnd then CueEntry.zero else s.cueEntry d i
  let s := ((s.wr d (F.CUE_EDIT_W_word 0) e.w0).wr d (F.CUE_EDIT_W_word 1) e.w1).wr d (F.CUE_EDIT_W_word 2) e.w2
  (s.wr d (F.CUE_EDIT_W_word 3) e.w3).editResult d 0

/-- The result code of a write of an entry: the lowest that applies (R60, R76). -/
def State.editCheck (s : State) (d i : Nat) (e : CueEntry) : Nat :=
  if s.cueLive d i then 1
  else if i < 1024 ∨ (1 ≤ e.action ∧ e.action ≤ 3) ∨ e.next < 1024 then 2
  else if i = cueEnd ∨ bitsN e.w0 13 12 ≠ 0 ∨ !actionValid d e.action e.w3 then 3
  else 0

/-- The write command (R76). -/
def State.editWrite (s : State) (d : Nat) : State :=
  let i := s.rd d F.CUE_EDIT_IDX_idx
  let e := s.editEntry d
  let r := s.editCheck d i e
  (if r = 0 then s.storeEntry d i e else s).editResult d r

/-- The link command: only the next field is written (R77), a partial write (R365). -/
def State.editLink (s : State) (d : Nat) : State :=
  let i := s.rd d F.CUE_EDIT_IDX_idx
  let nxt := (s.editEntry d).next
  if i < 1024 ∨ nxt < 1024 then s.editResult d 2
  else if i = cueEnd then s.editResult d 3
  else
    let e := s.cueEntry d i
    let s := s.linkEntry d i { e with w0 := e.w0 - e.next + nxt }
    let ended := (List.range' 4 12).any fun j => s.listIdle d j && s.rd d (F.CUE_LIST_LAST_last j) == i
    s.editResult d (if ended then 4 else 0)

/-- A write to CUE_LIST_HEAD_j (R78). The end code is accepted too and leaves the list idle, and an accepted write clears halted, which
nothing else does (DESIGN CHOICE, log entries 250 and 251). -/
def State.headWrite (s : State) (d j v : Nat) : State :=
  let h := v % 4096
  if j < 4 ∨ h < 1024 ∨ !(s.listIdle d j || s.listHalted d j) then s.reject d .cue F.CUE_STATUS_write_reject
  else ((s.setHead d j h).wr d (F.CUE_LIST_HEAD_halted j) 0).cueRunning d

/-- A write to CUE_LIST_CMD (R78, R79). -/
def State.listCmd (s : State) (d op j : Nat) : State :=
  if j < 4 then s.reject d .cue F.CUE_STATUS_write_reject else if op = 1 then s.listStop d j else s

/-- The clear_counters command of CUE_CMD (R81). -/
def State.cueClear (s : State) (d : Nat) : State :=
  s.clearAll d [F.CUE_EXEC_CNT_exec_cnt, F.CUE_LATE_CNT_late_cnt, F.CUE_LATE_MAX_late_max, F.CUE_SKIP_CNT_skip_cnt,
    F.CUE_HARD_MISS_CNT_hard_miss_cnt]

/-- EDIT_READ (R76). -/
def execEditRead (die : Nat) (s : State) : Out := .next (if s.hasDie die then s.editRead die else s)

/-- EDIT_WRITE (R76). -/
def execEditWrite (die : Nat) (s : State) : Out := .next (if s.hasDie die then s.editWrite die else s)

/-- EDIT_LINK (R77). -/
def execEditLink (die : Nat) (s : State) : Out := .next (if s.hasDie die then s.editLink die else s)

/-- LIST_HEAD_WRITE (R78). -/
def execListHeadWrite (die list head : Nat) (s : State) : Out :=
  .next (if s.hasDie die && decide (list < 16) then s.headWrite die list head else s)

/-- LIST_STOP (R79). -/
def execListStop (die list : Nat) (s : State) : Out := .next (if s.hasDie die && decide (list < 16) then s.listCmd die 1 list else s)

/-- CUE_CLEAR_COUNTERS (R81). -/
def execCueClearCounters (die : Nat) (s : State) : Out := .next (if s.hasDie die then s.cueClear die else s)

/-- A write to CUE_REP_COH_TOL: the threshold is set and CUE_REP_ERR_MAX cleared (R59). -/
def State.cohTolWrite (s : State) (n v : Nat) : State :=
  (s.wr n F.CUE_REP_COH_TOL_coh_tol v).wr n F.CUE_REP_ERR_MAX_err_max 0

/-- COH_TOL_WRITE (R59). -/
def execCohTolWrite (n v : Nat) (s : State) : Out := .next (if s.hasStn n then s.cohTolWrite n v else s)

end Sys2Proof.Machine
end

