-- ==== Sys2Proof/Machine/Rin.lean ====
section
/-! DEFINITION. Raster sets, stream contexts and station buffers (R111 to R131): descriptors, seal and unseal, commits and the guard, the
fetch of a sweep's rows, patch tiles, and the BAR2 windows. -/

namespace Sys2Proof.Machine

/-! ### Sequence numbers and descriptors (R112, R114, R118) -/

/-- The signed distance between two 20-bit sequence numbers (R118). -/
def seqDiff (a b : Nat) : Int :=
  let m := ((a : Int) - b) % 1048576
  if m < 524288 then m else m - 1048576

/-- The unused entry (R114). -/
abbrev unusedDesc : List Nat := [0xC0000, 0, 0, 0, 0, 0, 0, 0]

/-- A raster-set descriptor as its words. -/
abbrev RDesc := List Nat

def RDesc.mode (e : RDesc) : Nat := e.getD 0 0xC0000 / 0x40000
def RDesc.bpp (e : RDesc) : Nat :=
  match bitsN (e.getD 0 0) 17 16 with
  | 0 => 1
  | 1 => 2
  | _ => 4
def RDesc.ctx (e : RDesc) : Nat := bitsN (e.getD 0 0) 15 13
def RDesc.width (e : RDesc) : Nat := bitsN (e.getD 1 0) 14 0 + 1
def RDesc.base (e : RDesc) : Nat := e.getD 2 0 * 80
def RDesc.stride (e : RDesc) : Nat := bitsN (e.getD 3 0) 7 0 * 64
def RDesc.lines (e : RDesc) : Nat := bitsN (e.getD 4 0) 15 0
def RDesc.prime (e : RDesc) : Nat := bitsN (e.getD 5 0) 15 0
def RDesc.pbase (e : RDesc) : Nat := e.getD 6 0 * 80
def RDesc.pslots (e : RDesc) : Nat := bitsN (e.getD 7 0) 19 16
def RDesc.pslot (e : RDesc) : Nat := bitsN (e.getD 7 0) 15 0 * 1024
/-- Bytes of a line (R112). -/
def RDesc.lineBytes (e : RDesc) : Nat := (e.width * e.bpp + 7) / 8
/-- Bytes of the raster region and of the inbox (R115). -/
def RDesc.region (e : RDesc) : Nat := e.stride * e.lines
def RDesc.inbox (e : RDesc) : Nat := e.pslots * e.pslot

/-- A table entry of a station. -/
def State.rdesc (s : State) (n i : Nat) : RDesc := ((s.rin n).desc.lookup i).getD unusedDesc

/-- The largest L_s(a) of a station: 33 to 63 act as 0 (R152, R173). -/
def State.scanLines (s : State) (n a : Nat) : Nat :=
  let l := s.rd n (F.SCN_GEOM_lines a)
  if 32 < l then 0 else l

/-- Two regions share a byte. -/
def overlaps (a la b lb : Nat) : Bool := decide (a < b + lb ∧ b < a + la)

/-- A field of the descriptor is outside what R114 and R115 allow; an unused entry holds no region, and its stride and lines may be zero. -/
def State.descFieldBad (s : State) (n : Nat) (e : RDesc) : Bool :=
  let ls := max (s.scanLines n 0) (max (s.scanLines n 1) (s.scanLines n 2))
  bitsN (e.getD 0 0) 12 0 != 0 || bitsN (e.getD 1 0) 19 15 != 0 || bitsN (e.getD 3 0) 19 8 != 0 || bitsN (e.getD 4 0) 19 16 != 0
    || bitsN (e.getD 5 0) 19 16 != 0 || bitsN (e.getD 0 0) 17 16 == 3 || decide (16384 < e.width) || decide (8192 < e.stride)
    || decide (32768 < e.lines)
    || (if e.mode = 2 then
        decide (e.prime ≠ 0) || decide (e.pslots < 1) || decide (e.pslot < 1024 ∨ 1048576 < e.pslot)
          || decide (0x4000000 < e.pbase + e.inbox)
      else e.getD 6 0 != 0 || e.getD 7 0 != 0)
    || (e.mode != 3 &&
      (decide (e.stride < max 64 e.lineBytes) || decide (e.lines < 1) || decide (0x4000000 < e.base + e.region)
        || (e.mode == 0 && decide (e.lines < max 128 (3 * ls + 4)))))

/-- The regions of an entry. -/
def RDesc.regions (e : RDesc) : List (Nat × Nat) :=
  if e.mode = 3 then [] else if e.mode = 2 then [(e.base, e.region), (e.pbase, e.inbox)] else [(e.base, e.region)]

/-- The entries of a station but one. -/
def State.otherDescs (s : State) (n i : Nat) : List RDesc := ((s.rin n).desc.filter fun d => d.1 ≠ i).map (·.2)

/-- The result of a descriptor write: the lowest that applies (R115). A set is sealed here if the station sealed it: an entry that was unused when
its set was sealed on other stations may be written (DESIGN CHOICE, log entry 253). -/
def State.descCheck (s : State) (n i : Nat) (e : RDesc) : Nat :=
  if (s.rin n).sealedSets.contains i then 1
  else if s.descFieldBad n e then 2
  else if (e.regions.any fun r => (s.otherDescs n i).any fun o => (RDesc.regions o).any fun q => overlaps r.1 r.2 q.1 q.2)
      || (e.mode == 2 && overlaps e.base e.region e.pbase e.inbox) then 3
  else if (e.mode == 0 || e.mode == 2)
      && ((s.otherDescs n i).any fun o => (RDesc.mode o == 0 || RDesc.mode o == 2) && RDesc.ctx o == e.ctx) then 4
  else 0

/-- A block reads a table entry: its two code words are checked (R364). -/
def State.tableRead (s : State) (n i : Nat) : State := ((s.memRead n 2 (2 * i) .control).2.memRead n 2 (2 * i + 1) .control).2

/-- The read command (R114). -/
def State.descRead (s : State) (n : Nat) : State :=
  let i := s.rd n F.RIN_DESC_IDX_idx
  let s := s.tableRead n i
  let e := s.rdesc n i
  (s.each (List.range 8) fun w s => s.wr n (F.RIN_DESC_W_word w) (e.getD w 0)).wr n F.RIN_DESC_RESULT_result 0

/-- The write command (R115). -/
def State.descWrite (s : State) (n : Nat) : State :=
  let i := s.rd n F.RIN_DESC_IDX_idx
  let e : RDesc := (List.range 8).map fun w => s.rd n (F.RIN_DESC_W_word w)
  let s := s.each ((s.rin n).desc.map (·.1)) fun j s => s.tableRead n j
  let r := s.descCheck n i e
  let s := s.wr n F.RIN_DESC_RESULT_result r
  if r ≠ 0 then s.reject n .rin F.RIN_STATUS_write_reject
  else
    let s := (s.memStored n 2 (2 * i) false).memStored n 2 (2 * i + 1) false
    s.modRin n fun x => { x with desc := if e = unusedDesc then storeDel x.desc i else storePut x.desc i e }

/-- DESC_READ (R114). -/
def execDescRead (n : Nat) (s : State) : Out := .next (if s.hasStn n then s.descRead n else s)

/-- DESC_WRITE (R115). -/
def execDescWrite (n : Nat) (s : State) : Out := .next (if s.hasStn n then s.descWrite n else s)

/-! ### Seal and unseal (R116) -/

/-- The admitted frames that name a set and have not been retired (R116). -/
def State.useCount (s : State) (rset : Nat) : Nat := (s.frm.frames.filter fun f => f.rset == rset).length

/-- A context is bound to a set; its values return to zero at the seal (R118, R131). Frames of an earlier binding that the station still holds
have been retired: they leave the context. -/
def State.bindCtx (s : State) (n c kind rset : Nat) : State :=
  let s := ((s.wr n (F.RIN_CTX_COMMIT_commit c) 0).wr n (F.RIN_CTX_REL_release c) 0).wr n (F.RIN_CTX_NEXT_next c) 0
  let s := s.modRin n fun x => { x with
    late := x.late.filter fun l => l.1 ≠ c
    frames := x.frames.map fun f => if f.ctx = c ∧ (f.mode = 0 ∨ f.mode = 2) then { f with mode := 3, gone := true } else f }
  ((s.wr n (F.RIN_CTX_STATE_kind c) kind).wr n (F.RIN_CTX_STATE_rset c) rset).keepUnit n (.ctx c)

/-- The hub's mirror takes a station's raster-set table and context values (R122). -/
def State.mirrorSets (s : State) (n : Nat) : State :=
  let ctx := (List.range 8).map fun c =>
    (s.rd n (F.RIN_CTX_COMMIT_commit c), s.rd n (F.RIN_CTX_REL_release c), s.rd n (F.RIN_CTX_NEXT_next c))
  (s.modMirror n fun m => { m with desc := (s.rin n).desc, ctx := ctx, sealedSets := (s.rin n).sealedSets }).keepUnit 0 (.mirror n)

/-- A station seals a set that it has an entry for. A station on which it is sealed already keeps its contexts. -/
def State.sealOn (s : State) (rset n : Nat) : State :=
  let e := s.rdesc n rset
  if e.mode = 3 ∨ (s.rin n).sealedSets.contains rset then s
  else
    let s := (s.tableRead n rset).modRin n fun x => { x with sealedSets := rset :: x.sealedSets }
    if e.mode = 0 then s.bindCtx n e.ctx 1 rset else if e.mode = 2 then s.bindCtx n e.ctx 2 rset else s

/-- A station opens a set: its context is unbound, and the values stand until the next seal (R131). -/
def State.unsealOn (s : State) (rset n : Nat) : State :=
  if !(s.rin n).sealedSets.contains rset then s
  else
    let e := s.rdesc n rset
    let s := (s.tableRead n rset).modRin n fun x => { x with sealedSets := x.sealedSets.filter (· ≠ rset), tiles := x.tiles.filter (·.rset ≠ rset) }
    if e.mode = 0 ∨ e.mode = 2 then
      s.withUnit n (.ctx e.ctx) fun s => (s.wr n (F.RIN_CTX_STATE_kind e.ctx) 0).wr n (F.RIN_CTX_STATE_rset e.ctx) 0
    else s

/-- The seal command: the result is pending until every station with an entry has acknowledged it (R116). The mirror stands at the tables of
all stations and the contexts' new values from then on (R122). A second seal takes the place of one that waits, and an unseal gives its own
result over it (DESIGN CHOICE, log entry 206). -/
def State.sealSet (s : State) (rset : Nat) : State :=
  let ns := s.stns.filter fun n => decide ((s.rdesc n rset).mode ≠ 3)
  let s := s.each s.stns fun n s => (if ns.contains n then s.sealOn rset n else s).mirrorSets n
  let s := s.withUnit 0 (.rset rset) fun s =>
    let old := s.rsets.sealedSets
    s.modRsets fun _ => ⟨if old.contains rset then old else rset :: old, if ns.isEmpty then none else some (rset, ns)⟩
  s.wr 0 F.RIN_RSET_RESULT_result (if ns.isEmpty then 0 else 2)

/-- The unseal command, refused while an admitted frame names the set (R116). -/
def State.unsealSet (s : State) (rset : Nat) : State :=
  let s := s.useUnit 0 (.rset rset)
  if s.useCount rset ≠ 0 then (s.wr 0 F.RIN_RSET_RESULT_result 1).reject 0 .rin F.RIN_HSTATUS_write_reject
  else
    let s := s.each s.stns fun n s => s.unsealOn rset n
    let s := (s.modRsets fun r => { r with sealedSets := r.sealedSets.filter (· ≠ rset) }).keepUnit 0 (.rset rset)
    s.wr 0 F.RIN_RSET_RESULT_result 0

/-- SEAL (R116). -/
def execSeal (rset : Nat) (s : State) : Out := .next (if rset < 256 then s.sealSet rset else s)

/-- SEAL_ACKNOWLEDGED (R116). -/
def execSealAcknowledged (s : State) : Out :=
  match s.rsets.pend with
  | none => .next s
  | some _ => .next ((s.modRsets fun r => { r with pend := none }).wr 0 F.RIN_RSET_RESULT_result 0)

/-- UNSEAL (R116). -/
def execUnseal (rset : Nat) (s : State) : Out := .next (if rset < 256 then s.unsealSet rset else s)

/-! ### Commits and patch groups (R118 to R121) -/

/-- A little-endian number of `k` bytes in a list of bytes, from a place on. -/
def leBytesAt (l : List Nat) (a : Nat) : Nat → Nat
  | 0 => 0
  | k + 1 => l.getD a 0 + 256 * leBytesAt l (a + 1) k

/-- The tile that a header describes, with the end of its data; nothing where the header is malformed (R121). The padding behind the data is not
looked at (DESIGN CHOICE, log entry 254). -/
def RDesc.tileOf (e : RDesc) (rset g stop a : Nat) (hdr : List Nat) : Option (Tile × Nat) :=
  let x0 := leBytesAt hdr 0 2
  let w := leBytesAt hdr 2 2
  let y0 := leBytesAt hdr 4 4
  let h := leBytesAt hdr 8 2
  let fl := hdr.getD 10 0
  let len := leBytesAt hdr 12 4
  let fit := a + 16 + (len + 15) / 16 * 16
  if x0 % 8 ≠ 0 ∨ w % 8 ≠ 0 ∨ w < 8 ∨ 2048 < w ∨ 0x100000 ≤ y0 ∨ h < 1 ∨ 1024 < h ∨ 1 < fl ∨ hdr.getD 11 0 ≠ 0
      ∨ len ≠ h * w * e.bpp / 8 ∨ e.width < x0 + w ∨ e.lines < y0 + h ∨ stop < fit then none
  else some (⟨g, e.ctx, rset, x0, w, y0, h, a + 16, fl == 1⟩, fit)

/-- The tiles of a patch group in its inbox slot, from a header on; nothing where the group is malformed (R121). A header is read through its
code words (R363), and one that cannot be corrected is malformed (DESIGN CHOICE, log entry 207). -/
def State.parseTiles (s : State) (n : Nat) (e : RDesc) (rset g stop : Nat) : Nat → Nat → Option (List Tile) × State
  | 0, _ => (none, s)
  | k + 1, a =>
    if stop < a + 16 then (none, s)
    else
      let (l, s) := s.bufRead n a 16 .raster
      match if l.any (·.2) then none else e.tileOf rset g stop a (l.map (·.1)) with
      | none => (none, s)
      | some (t, fit) =>
        if t.last then (some [t], s)
        else
          let (r, s) := s.parseTiles n e rset g stop k fit
          (r.map (t :: ·), s)

/-- The tiles of a run of groups. -/
def State.parseGroups (s : State) (n : Nat) (e : RDesc) (rset : Nat) : Nat → Nat → Option (List Tile) × State
  | 0, _ => (some [], s)
  | k + 1, g =>
    let a := e.pbase + g % (max 1 e.pslots) * e.pslot
    match s.parseTiles n e rset g (a + e.pslot) 64 a with
    | (none, s) => (none, s)
    | (some l, s) =>
      let (r, s) := s.parseGroups n e rset k ((g + 1) % 1048576)
      (r.map (l ++ ·), s)

/-- Lines of a commit that were absent at their deadline (R124). -/
def State.lateLines (s : State) (n c old new : Nat) : List (Nat × Nat) :=
  (s.rin n).late.filter fun l => l.1 == c && decide (0 ≤ seqDiff l.2 old) && decide (0 < seqDiff new l.2)

/-- A context's commit is stored. It came through the hub, whose mirror takes it at once, so that a request never overstates the free space (R140;
DEDUCED, log entry 258). -/
def State.commitTo (s : State) (n c v : Nat) : State :=
  let s := (s.wr n (F.RIN_CTX_COMMIT_commit c) v).keepUnit n (.ctx c)
  (s.modMirror n fun m => { m with ctx := m.ctx.modify c fun x => (v, x.2) }).keepUnit 0 (.mirror n)

/-- A write to RIN_CTX_COMMIT_c (R118, R121, R124): every write sent earlier is in the buffer first (R120). -/
def State.commit (s : State) (n c v : Nat) : State :=
  let s := s.useUnit n (.ctx c)
  let kind := s.rd n (F.RIN_CTX_STATE_kind c)
  let rset := s.rd n (F.RIN_CTX_STATE_rset c)
  let e := s.rdesc n rset
  let old := s.rd n (F.RIN_CTX_COMMIT_commit c)
  let rel := s.rd n (F.RIN_CTX_REL_release c)
  let room := if kind = 2 then e.pslots else e.lines
  let s := if kind = 0 then s else s.tableRead n rset
  if kind = 0 then s.reject n .rin F.RIN_STATUS_write_reject
  else if seqDiff v old ≤ 0 then s
  else if (room : Int) < seqDiff v rel then s.reject n .rin F.RIN_STATUS_write_reject
  else
    let s := s.flushAll n
    if kind = 2 then
      match s.parseGroups n e rset (seqDiff v old).toNat old with
      | (none, s) => s.reject n .rin F.RIN_STATUS_write_reject
      | (some ts, s) => (s.commitTo n c v).modRin n fun x => { x with tiles := x.tiles ++ ts }
    else
      let late := s.lateLines n c old v
      let s := (s.commitTo n c v).modRin n fun x => { x with late := x.late.filter fun l => !late.contains l }
      if !late.isEmpty then
        ((s.bump n F.RIN_LATE_CNT_late_cnt).wr n F.RIN_STATUS_late_s 1).detect (.lateCommit n c) n .rin 9 .c 0 []
      else s

/-! ### The guard (R119) -/

/-- The sequence numbers from release on that are still needed. -/
def needed (rel com : Nat) : List Nat := (List.range (seqDiff com rel).toNat).map fun k => (rel + k) % 1048576

/-- The byte ranges of a station that the guard protects. -/
def State.guarded (s : State) (n : Nat) : List (Nat × Nat) :=
  (s.rin n).sealedSets.flatMap fun i =>
    let e := s.rdesc n i
    let rel := s.rd n (F.RIN_CTX_REL_release e.ctx)
    let com := s.rd n (F.RIN_CTX_COMMIT_commit e.ctx)
    if e.mode = 0 then (needed rel com).map fun q => (e.base + q % (max 1 e.lines) * e.stride, e.stride)
    else if e.mode = 2 then
      (e.base, e.region) :: (needed rel com).map fun g => (e.pbase + g % (max 1 e.pslots) * e.pslot, e.pslot)
    else [(e.base, e.region)]

/-- A run of bytes that are written, each with its address. -/
def State.writeRun (s : State) (d : Nat) : List (Nat × (Nat × Bool)) → State
  | [] => s
  | (a, v) :: t =>
    let run := (t.zipIdx.takeWhile fun x => x.1.1 == a + 1 + x.2).map fun x => x.1.2
    if run.length = t.length then s.bufWrite d (t.length + 1) a (v :: run)
    else (s.bufWrite d 1 a [v]).writeRun d t

/-- The guard reads the entries of the sealed sets and their contexts. -/
def State.guardRead (s : State) (n : Nat) : State :=
  s.each (s.rin n).sealedSets fun i s =>
    let e := s.rdesc n i
    let s := s.tableRead n i
    if e.mode = 0 ∨ e.mode = 2 then s.useUnit n (.ctx e.ctx) else s

/-- Bytes arriving at a station buffer through BAR2 or a transfer channel: guarded ones are discarded, and the access counts once (R119). -/
def State.guardedWrite (s : State) (n a : Nat) (bytes : List (Nat × Bool)) : State :=
  let s := s.guardRead n
  let g := s.guarded n
  let items := bytes.zipIdx.map fun x => (a + x.2, x.1)
  let kept := items.filter fun x => !(g.any fun r => decide (r.1 ≤ x.1 ∧ x.1 < r.1 + r.2))
  let s := if kept.length = items.length then s
    else ((s.bump n F.RIN_DROP_CNT_drop_cnt).wr n F.RIN_STATUS_drop_s 1).reportC n .rin 9
  s.writeRun n kept

/-! ### BAR2 (R128) -/

/-- The host path is held off: the part is not released (R128, R398). -/
def State.hostHeld (s : State) (d : Nat) : Bool :=
  (s.boot.phase != .released && !(s.boot.phase == .window && d == 0)) || s.boot.held.contains d

/-- The window of a BAR2 offset. -/
def bar2Window (a : Nat) : Nat := a / 0x2000000 % 8

/-- An access that R128 drops, in whole or in part, is counted once. -/
def State.bar2Drop (s : State) : State := (s.bump 0 F.RIN_BAR2_DROP_CNT_drop_cnt).wr 0 F.RIN_HSTATUS_bar2_drop_s 1

/-- The die and first byte that a BAR2 offset reaches; nothing where the window is off or the die absent. In boot-window mode the hub SRAM
lies at the start of BAR2 (R392). -/
def State.bar2Target (s : State) (a : Nat) : Option (Nat × Nat) :=
  if s.boot.phase = .window then (if a < 0x200000 then some (0, a) else none)
  else
    let w := bar2Window a
    let d := s.rd 0 (F.RIN_WIN_CFG_die w)
    if s.on 0 (F.RIN_WIN_CFG_en w) && s.hasDie d then some (d, s.rd 0 (F.RIN_WIN_CFG_base_mib w) * 0x100000 + a % 0x2000000) else none

/-- A BAR2 read of `len` bytes; uncorrectable words return the stored data (R128, R368). -/
def State.bar2Read (s : State) (a len : Nat) : List Nat × State :=
  match s.bar2Target a with
  | none => (List.replicate len 0, if s.boot.phase = .released then s.bar2Drop else s.bump 0 F.HIF_ABSENT_CNT_absent)
  | some (d, x) =>
    if s.hostHeld d then (List.replicate len 0, s.bump 0 F.HIF_ABSENT_CNT_absent)
    else
      let k := min len (bufSize d - x)
      let (l, s) := s.bufRead d x k .raster
      (l.map (·.1) ++ List.replicate (len - k) 0, if k < len then s.bar2Drop else s)

/-- A BAR2 write (R128), under the guard of R119. -/
def State.bar2Write (s : State) (a : Nat) (bytes : List Nat) : State :=
  match s.bar2Target a with
  | none => if s.boot.phase = .released then s.bar2Drop else s.bump 0 F.HIF_ABSENT_CNT_absent
  | some (d, x) =>
    if s.hostHeld d then s.bump 0 F.HIF_ABSENT_CNT_absent
    else
      let k := min bytes.length (bufSize d - x)
      let part := (bytes.take k).map fun b => (b, false)
      let s := if d = 0 then s.bufWrite 0 k x part else s.guardedWrite d x part
      if k < bytes.length then s.bar2Drop else s

/-- BAR2_READ (R128). -/
def execBar2Read (addr len : Nat) (s : State) : Out :=
  let (l, s) := s.bar2Read addr len
  .next (s.answer .host l)

/-- BAR2_WRITE (R128). -/
def execBar2Write (addr : Nat) (bytes : List Nat) (s : State) : Out := .next (s.bar2Write addr bytes)

/-! ### Fetch (R124 to R127) -/

/-- Ring of grid positions: 1/1024 tick over the 40-bit ring. -/
abbrev gridRing : Nat := two40 * 1024

/-- The signed distance between two grid positions. -/
def gridDiff (a b : Nat) : Int :=
  let m := ((a : Int) - b) % (gridRing : Int)
  if m < (gridRing : Int) / 2 then m else m - gridRing

def gridAdd (a : Nat) (d : Int) : Nat := (((a : Int) + d) % (gridRing : Int)).toNat

/-- The stored pitch of an addressability, in 1/1024 tick (R14). -/
def pitchOf (a : Nat) : Nat :=
  match a with
  | 0 => 2774357
  | 1 => 2080768
  | _ => 1387179

/-- v_max of an addressability, ticks per µs (R8, R88). -/
def vMax (a : Nat) : Nat := if a = 2 then 128 else 192

/-- The line of a frame that stands at a grid position on a station. -/
def SFrame.lineAt (f : SFrame) (pos : Nat) : Int := rdivUp (gridDiff pos (f.first * 1024)) (pitchOf f.addr)

/-- The frame of a station that owns the row at a grid position, with the line; a frame that was retired before its close owns none. -/
def ownerOf (fs : List SFrame) (addr pos : Nat) : Option (SFrame × Nat) :=
  match fs with
  | [] => none
  | f :: t =>
    let i := f.lineAt pos
    if f.addr = addr ∧ !f.outside ∧ !f.gone ∧ 0 ≤ i ∧ i < f.lines then some (f, i.toNat) else ownerOf t addr pos

def State.modSFrame (s : State) (n id : Nat) (f : SFrame → SFrame) : State :=
  s.modRin n fun x => { x with frames := x.frames.map fun y => if y.id = id then f y else y }

/-- The address of a line of a frame in the station buffer (R112, R117, R118). -/
def SFrame.lineAddr (f : SFrame) (e : RDesc) (i : Nat) : Nat :=
  let slot := if f.mode = 0 then (f.seq0 + i) % 1048576 % (max 1 e.lines) else i
  e.base + slot * e.stride

/-- The tiles of a frame's group that are not yet placed and reach a line: first pixel and width (R126). -/
def State.openTiles (s : State) (n : Nat) (f : SFrame) (i : Nat) : List (Nat × Nat) :=
  if f.mode ≠ 2 then []
  else (((s.rin n).tiles.filter fun t => t.rset == f.rset && t.group == f.seq0 && decide (t.y0 ≤ i ∧ i < t.y0 + t.h)).map
    fun t => (t.x0, t.w))

/-- The bytes of a word as a read returned them that found no uncorrectable error: an error that its syndrome hid stands in them (R362). -/
def State.readBytes (s : State) (n a k : Nat) (bad : List Nat) : List (Nat × Nat) :=
  let odd := (wordsOf a k).filter fun w => s.memErr n 0 w != 0
  let plain := (s.mem n).bytes.filter fun b => decide (a ≤ b.1 ∧ b.1 < a + k) && !odd.contains (b.1 / 10)
  let hidden := (odd.filter fun w => !bad.contains w).flatMap fun w =>
    ((List.range' (10 * w) 10).filter fun x => decide (a ≤ x ∧ x < a + k)).map fun x => (x, s.rawByte n x)
  (plain ++ hidden).map fun b => (b.1 - a, b.2)

/-- One row is fetched (R124, R126, R127): a line past its deadline that is not committed is absent; the words of a line are checked. A word
that lies in two lines counts at the fetch of each (DESIGN CHOICE, log entry 257). -/
def State.fetchRow (s : State) (n : Nat) (row : Int) (f : SFrame) (i : Nat) : State :=
  let e := s.rdesc n f.rset
  let first := decide (f.judged ≤ i)
  let gone := f.mode == 0 && first && decide (seqDiff (s.rd n (F.RIN_CTX_COMMIT_commit f.ctx)) (f.seq0 + i) ≤ 0)
  let absent := gone || f.absent.contains i
  let tiles := s.openTiles n f i
  let s := s.modSFrame n f.id fun x => { x with judged := max x.judged (i + 1), absent := if gone then x.absent ++ [i] else x.absent }
  let s := if gone then s.modRin n fun x => { x with late := x.late ++ [(f.ctx, (f.seq0 + i) % 1048576)] } else s
  let s := if gone then (s.bump n F.RIN_UNDERRUN_CNT_underrun_cnt).wr n F.RIN_STATUS_underrun_s 1 else s
  let s := if first && !tiles.isEmpty then (s.bump n F.RIN_UNDERRUN_CNT_underrun_cnt).wr n F.RIN_STATUS_patch_inc_s 1 else s
  if absent then s.modRin n fun x => { x with nextRows := x.nextRows ++ [⟨row, f.id, i, [], true, [], [], e.bpp, e.width⟩] }
  else
    let a := f.lineAddr e i
    let k := e.lineBytes
    let ws := wordsOf a k
    let s := s.flushWhere n fun w => ws.contains w
    let bad := ws.filter fun w => decide (eccClass (s.memErr n 0 w) = .uncorrectable)
    let s := s.each ws fun w s => (s.memRead n 0 w .raster).2
    let s := s.each bad fun w s => ((s.bump n F.RIN_UE_CNT_ue_cnt).wr n F.RIN_STATUS_ue_s 1).wr40 n P.RIN_UE_ADDR (10 * w)
    let bytes := s.readBytes n a k bad
    s.modRin n fun x => { x with nextRows := x.nextRows ++ [⟨row, f.id, i, bytes, false, tiles, bad, e.bpp, e.width⟩] }

/-- The fetch of a sweep: its lines with two more on each side (R124). -/
def State.fetchSweep (s : State) (n target lines addr : Nat) : State :=
  let s := s.modRin n fun x => { x with nextRows := [] }
  let pos := fun (k : Nat) => gridAdd target (((k : Int) - 2) * pitchOf addr)
  let sets := ((List.range (lines + 4)).filterMap fun k => (ownerOf (s.rin n).frames addr (pos k)).map fun x => x.1.rset).eraseDups
  let s := s.each sets fun i s => s.tableRead n i
  let cs := (((s.rin n).frames.filter fun f => (f.mode == 0 || f.mode == 2) && sets.contains f.rset).map (·.ctx)).eraseDups
  let s := s.each cs fun c s => s.useUnit n (.ctx c)
  let s := s.each (List.range (lines + 4)) fun k s =>
    let row : Int := (k : Int) - 2
    match ownerOf (s.rin n).frames addr (gridAdd target (row * pitchOf addr)) with
    | some (f, i) => s.fetchRow n row f i
    | none => s
  s.modRin n fun x => { x with frames := x.frames.map fun f =>
    { f with fetchedTo := if f.addr = addr then max f.fetchedTo (f.lineAt target + lines - 2).toNat else f.fetchedTo } }

/-- A channel that feeds a context is halted (R144). -/
def State.feederHalted (s : State) (n c : Nat) : Bool :=
  (List.range 32).any fun k => s.rd 0 (F.XFR_CH_CFG_req_sel k) == 8 * (n - 1) + c + 1 && s.rd 0 (F.XFR_CH_STATUS_state k) == 3

/-- A U report of RIN, at most one for each frame and source index (R129). -/
def State.rinReport (s : State) (n id src cause : Nat) : State :=
  let s := s.flagFrames [id] n cause
  if (s.rin n).frames.any fun f => f.id == id && !f.reported.contains src then
    (s.modSFrame n id fun f => { f with reported := src :: f.reported }).report n .rin src .u cause [id]
  else s

/-- The outcome of a fetched row that a sweep uses (R124, R126, R127, R144). -/
def State.rowOutcome (s : State) (n : Nat) (r : FetchRow) : State :=
  let ctx := (((s.rin n).frames.find? fun f => f.id == r.frame).map (·.ctx)).getD 0
  let s := if r.absent then
      s.rinReport n r.frame ctx (if s.feederHalted n ctx then causeBit 4 + causeBit 5 else causeBit 4)
    else if !r.tiles.isEmpty then s.rinReport n r.frame ctx (causeBit 4) else s
  if r.ue.isEmpty then s else s.rinReport n r.frame 8 (causeBit 3)

/-- Release of a context moves up to a sequence number. -/
def State.releaseTo (s : State) (n c q : Nat) : State :=
  if 0 < seqDiff q (s.rd n (F.RIN_CTX_REL_release c)) then s.withUnit n (.ctx c) fun s => s.wr n (F.RIN_CTX_REL_release c) q else s

/-- Release follows the sweep that has been written or blanked: its last line minus one, and a frame's end once the grid has another pitch, for
no later span holds its lines (R125). A frame that has passed is forgotten. -/
def State.releaseSweep (s : State) (n target lines addr : Nat) : State :=
  let lastPos := gridAdd target (((lines - 1) * pitchOf addr : Nat) : Int)
  let s := s.each (s.rin n).frames fun f s =>
    if f.mode = 0 ∧ f.addr = addr ∧ 0 < f.lineAt lastPos then
      s.releaseTo n f.ctx ((f.seq0 + min f.lines (f.lineAt lastPos - 1).toNat) % 1048576)
    else if f.mode = 0 ∧ f.addr ≠ addr ∧ f.ended then s.releaseTo n f.ctx ((f.seq0 + f.lines) % 1048576)
    else s
  s.modRin n fun x => { x with frames := x.frames.filter fun f =>
    !(f.ended && decide (f.addr ≠ addr ∨ (f.lines : Int) + 1 ≤ f.lineAt lastPos)) }

/-! ### Patch placement (R126) -/

/-- The previous frame that names the set has been admitted and fetched past the lines of a tile; group 0 has none before it (R126). A frame that
was retired before its close is waited for no longer (DESIGN CHOICE, log entry 255). -/
def State.tileFree (s : State) (n : Nat) (t : Tile) : Bool :=
  decide (0 ≤ seqDiff (s.rd n (F.RIN_CTX_NEXT_next t.ctx)) t.group)
    && !(s.rin n).frames.any fun f => f.mode == 2 && f.rset == t.rset && decide (seqDiff f.seq0 t.group < 0) && !f.ended
    && decide (f.fetchedTo ≤ t.y0 + t.h + 1)

/-- A tile of a station may be placed. -/
def State.tileReady (s : State) (n : Nat) : Bool := (s.rin n).tiles.any fun t => s.tileFree n t

/-- A tile's rows are copied from the inbox into the resident region through channel 7; when no tile of the group is left, its slot is released
(R126). -/
def State.placeTile (s : State) (n : Nat) (t : Tile) : State :=
  let s := s.tableRead n t.rset
  let e := s.rdesc n t.rset
  let k := t.w * e.bpp / 8
  let s := s.each (List.range t.h) fun j s =>
    let (l, s) := s.bufRead n (t.addr + j * k) k .raster
    let a := t.addr + j * k
    let bad := (wordsOf a k).filter fun w => (l.zipIdx.any fun x => x.1.2 && (a + x.2) / 10 == w)
    let s := if bad.isEmpty then s
      else ((s.bump n (F.XFR_CH_POISON_CNT_poison_cnt 7) bad.length).wr n (F.XFR_CH_STATUS_poison_s 7) 1).reportC n .xfr 7
    s.bufWrite n k (e.base + (t.y0 + j) * e.stride + t.x0 * e.bpp / 8) l
  let s := ((s.flushAll n).modRin n fun x => { x with tiles := x.tiles.erase t }).bumpWrap n (F.XFR_CH_DONE_CNT_done_cnt 7)
  if (s.rin n).tiles.any fun x => x.ctx == t.ctx && x.group == t.group then s
  else s.withUnit n (.ctx t.ctx) fun s => s.wr n (F.RIN_CTX_REL_release t.ctx) ((t.group + 1) % 1048576)

/-- PATCH_TILE_PLACEMENT (R126): the first tile in the order of the headers that may be placed (DESIGN CHOICE, log entry 256). -/
def execPatchTilePlacement (n : Nat) (s : State) : Out :=
  match (s.rin n).tiles.find? fun t => s.tileFree n t with
  | none => .next s
  | some t => .next (s.placeTile n t)

/-! ### Counters and the mirror (R122, R131) -/

/-- The clear_counters command (R131). -/
def State.rinClear (s : State) (n : Nat) : State :=
  (s.clearAll n [F.RIN_UNDERRUN_CNT_underrun_cnt, F.RIN_LATE_CNT_late_cnt, F.RIN_DROP_CNT_drop_cnt, F.RIN_UE_CNT_ue_cnt]).wr40 n P.RIN_UE_ADDR 0

/-- RIN_CLEAR_COUNTERS (R131). -/
def execRinClearCounters (n : Nat) (s : State) : Out := .next (if s.hasStn n then s.rinClear n else s)

/-- A station's report of its RIN, SCN and forbid state (R88, R122, R169, R220). -/
def State.mirrorOf (s : State) (n : Nat) : Mirror where
  desc := (s.rin n).desc
  sealedSets := (s.rin n).sealedSets
  ctx := (List.range 8).map fun c =>
    (s.rd n (F.RIN_CTX_COMMIT_commit c), s.rd n (F.RIN_CTX_REL_release c), s.rd n (F.RIN_CTX_NEXT_next c))
  kind := s.rd n F.SCN_CFG_kind
  running := s.on n F.SCN_STATUS_running
  lockOk := s.rd n F.SCN_STATUS_lock_ok
  rph := s.rd n F.SCN_RPH_DIST_rph
  rlk := (List.range 3).map fun a => s.rd n (F.SCN_RLK_DIST_rlk a)
  forbid := s.on n F.LSR_STATUS_forbid || !s.on n F.LSR_STATUS_link_up
  chgForbid := s.on n F.HVC_STATUS_chg_forbid

end Sys2Proof.Machine
end

