-- ==== Sys2Proof/Machine/Lpl.lean ====
section
/-! DEFINITION. Line placement and exposure (R174 to R187): the placement chain, the exposure codes of a sweep, the tables and corrections in
use, and the LPL commands. -/

namespace Sys2Proof.Machine

/-! ### Geometry (R174, R175, R179) -/

/-- N_b: 0 acts as 1, 41 to 63 as 40 (R193). -/
def State.nBeams (s : State) (n : Nat) : Nat := max 1 (min 40 (s.rd n F.LPL_CFG_nbeams))

/-- The beam pitch, in 1/1024 tick (R174). A pitch of 0, for which R175 is not defined, acts as 1. -/
def State.beamPitch (s : State) (n : Nat) : Nat := max 1 (s.rd40 n P.LPL_BEAM_PITCH)

/-- Pixel clocks of an active sweep: 0 acts as 1, above 16,384 as 16,384 (R193). -/
def State.activePx (s : State) (n : Nat) : Nat := max 1 (min 16384 (s.rd n F.LPL_ACTIVE_PX_active_px))

/-- 64·x0(a), rounded down (R175). -/
def State.lplX0 (s : State) (n a : Nat) : Int :=
  let b := s.beamPitch n
  (32 * (((s.nBeams n : Int) - 1) * b - ((s.scanLines n a : Int) - 1) * pitchOf a)) / (b : Int)

/-- The nominal coordinate of slot j, 1/64 beam (R175). -/
def State.slotCoord (s : State) (n a j : Nat) : Int :=
  let b := s.beamPitch n
  rdiv (s.lplX0 n a * b + ((64 * j * pitchOf a : Nat) : Int)) b

/-- The facets of a polygon (R173). -/
def State.facetCount (s : State) (n : Nat) : Nat :=
  match s.rd n F.SCN_CFG_facets with
  | 0 => 6
  | 2 => 10
  | _ => 8

/-- Facet identification: by signature, by index, or none (R161, R173). -/
def State.fidSignature (s : State) (n : Nat) : Bool := s.rd n F.SCN_CFG_fid_mode == 0
def State.fidIndex (s : State) (n : Nat) : Bool := s.rd n F.SCN_CFG_fid_mode == 1 && s.rd n F.SCN_CFG_bd1_use == 2

/-- The facet indices, or directions, that the scanner uses (R179). -/
def State.facetsUsed (s : State) (n : Nat) : List Nat :=
  match s.rd n F.SCN_CFG_kind with
  | 0 => if s.fidSignature n || s.fidIndex n then List.range (s.facetCount n) else [0]
  | 1 => [0, 1]
  | _ => []

/-- lim_web in 1/16 tick (R193). -/
def State.limWeb (s : State) (n : Nat) : Nat := 256 * s.rd n F.LPL_REG_LIM_lim_web

/-- The steering range r(a) for a limit of the along-web correction and facet trims read by a given function, in whole lines (R179). -/
def State.steer (s : State) (n a lim : Nat) (trim : Nat → Nat) : Int :=
  let m := (((s.facetsUsed n).map fun f => (sgn 20 (trim f)).natAbs).foldl max 0) + lim
  let q : Int := pitchOf a
  (s.lplX0 n a * s.beamPitch n - 4096 * m - 32 * q) / (64 * q)

/-- The facet trims in use, and those of the shadow. -/
def State.trimUse (s : State) (n f : Nat) : Nat := s.rdUse n (F.LPL_FACET_WEB_facet_web f)
def State.trimShadow (s : State) (n f : Nat) : Nat := s.rd n (F.LPL_FACET_WEB_facet_web f)

/-- The steering range with the values in use, as LPL_RANGE shows it: 0 where it is negative or the addressability is not supported. -/
def State.steerRange (s : State) (n a : Nat) : Nat :=
  if s.scanLines n a = 0 then 0 else min 15 (s.steer n a (s.limWeb n) (s.trimUse n)).toNat

/-- Some supported addressability would be left without a line of steering (R179). -/
def State.steerBad (s : State) (n lim : Nat) (trim : Nat → Nat) : Bool :=
  [0, 1, 2].any fun a => s.scanLines n a != 0 && decide (s.steer n a lim trim < 1)

/-- The shown ranges and origins follow the values in use. -/
def State.lplShow (s : State) (n : Nat) : State :=
  let s := ((s.wr n F.LPL_RANGE_r0 (s.steerRange n 0)).wr n F.LPL_RANGE_r1 (s.steerRange n 1)).wr n F.LPL_RANGE_r2 (s.steerRange n 2)
  s.each [0, 1, 2] fun a s => s.wrS n (F.LPL_X0_x0 a) (if s.scanLines n a = 0 then 0 else s.lplX0 n a)

/-! ### Corrections (R176, R177, R183) -/

/-- The sweep shift u for a phase error in 1/16 tick: 1/64 beam (R176). -/
def State.sweepShift (s : State) (n f : Nat) (e : Int) : Int :=
  rdiv (4096 * (-e + sgn 20 (s.trimUse n f) + s.rdS n F.LPL_REG_WEB_reg_web)) (s.beamPitch n)

/-- The start phase of LPL, 1/64 pixel (R183). -/
def State.startPhase (s : State) (n f : Nat) : Int :=
  let scan := s.rdS n F.LPL_REG_SCAN_reg_scan
  if s.rd n F.SCN_CFG_kind = 1 then scan else sgn 20 (s.rdUse n (F.LPL_FACET_SCAN_facet_scan f)) + scan

/-- A knot of the segment table in use: beyond ±128 acts as ±128 (R177, R193). -/
def State.segKnot (s : State) (n f k : Nat) : Int := clampI (-128) 128 (sgn 20 (s.rdUse n (F.LPL_SEG_seg f k)))

/-- The segment length in use: 0 acts as 512 (R193). -/
def State.segPx (s : State) (n : Nat) : Nat := if s.rdUse n F.LPL_SEG_CFG_seg_px = 0 then 512 else s.rdUse n F.LPL_SEG_CFG_seg_px

/-- The bend of a pixel, 1/64 line (R177). -/
def State.bend (s : State) (n f i : Nat) : Int :=
  let p := s.segPx n
  if 32 ≤ i / p then s.segKnot n f 32
  else rdiv (s.segKnot n f (i / p) * p + (i % p : Nat) * (s.segKnot n f (i / p + 1) - s.segKnot n f (i / p))) p

/-- Whole lines and the remainder of a bend (R177). -/
def bendSplit (v : Int) : Int × Int := ((v + 32) / 64, v - 64 * ((v + 32) / 64))

/-- The rank pattern (R178). -/
def rankPattern : List Int := [0, 4, 2, 6, 1, 5, 3, 7]

/-- The lower beam of a coordinate and the eighths that the next beam takes at a pixel (R178). -/
def blend (x : Int) (i : Nat) : Int × Nat :=
  let f := x % 64
  (x / 64, (f / 8).toNat + b2n (decide (rankPattern.getD (i % 8) 0 < f % 8)))

/-! ### Code words of the tables (R364, R366) -/

/-- The copies of the CKS, LPL and LSR words of a station's memory 5 in the armed bank and in use stand at a distance (DESIGN CHOICE, log entry
213). -/
abbrev armedCopy : Nat := 0x4000
abbrev inUseCopy : Nat := 0x8000

/-- A block reads the table words of a range of offsets in one of the copies. -/
def State.calRead (s : State) (n lo hi copy : Nat) : State := s.ctlRead n 5 lo hi copy

/-- The table words of a range are copied: an uncorrectable word is copied as a poisoned one. -/
def State.calCopy (s : State) (n lo hi src dst : Nat) : State :=
  if (s.mem n).flip.isNone && ((s.mem n).errs.getD 5 []).isEmpty && ((s.mem n).merge.all fun x => x.mem != 5) then s
  else
    let s := s.calRead n lo hi src
    s.each (List.range' (ctlWord 5 lo) (ctlWord 5 (hi - 1) + 1 - ctlWord 5 lo)) fun w s =>
      s.memStored n 5 (w + dst) (decide (eccClass (s.memErr n 5 (w + src)) = .uncorrectable))

/-- The ranges of the LPL shadow (R184), of the exposure tables (R182), and of the CKS shadow (R204). -/
def lplRanges : List (Nat × Nat) := [(0xB0020, 0xB0024), (0xB0080, 0xB0200), (0xB0400, 0xB1000)]
def lutRange : Nat × Nat := (0xB0200, 0xB0300)
def cksRanges : List (Nat × Nat) := [(0x90140, 0x90180), (0x90400, 0x90800)]

/-- A register of a station that a table of memory 5 holds: LPL, CKS, and the set points, drive codes and levels of LSR. -/
def isCalWord (off : Nat) : Bool :=
  ((lutRange :: (0xC0100, 0xC0200) :: (0xC0300, 0xC0500) :: lplRanges) ++ cksRanges).any fun r => decide (r.1 ≤ off ∧ off < r.2)

/-- Chervil and CKS read their tables in use. -/
def State.useTables (s : State) (n : Nat) : State :=
  s.each (lplRanges ++ cksRanges) fun r s => s.calRead n r.1 r.2 inUseCopy

/-! ### The codes of a sweep (R178, R180 to R183) -/

/-- A pixel of a fetched row as stored (R111). -/
def FetchRow.pixel (r : FetchRow) (i : Nat) : Nat :=
  let per := 8 / r.bpp
  storeGet r.bytes (i / per) 0 / 2 ^ (8 - r.bpp * (i % per + 1)) % 2 ^ r.bpp

/-- The code of a pixel value (R180). -/
def pixelCode (bpp v : Nat) : Nat := if bpp = 4 then v else if bpp = 2 then 5 * v else 15 * v

/-- A row of the present sweep belongs to the new job of a straddling sweep (R98, R182). -/
def State.rowIsNew (s : State) (n : Nat) (row : Int) : Bool :=
  match (s.sweep n).jobAt with
  | none => false
  | some t =>
    let q := pitchOf (s.sweep n).addr
    decide (0 ≤ rdivUp (gridDiff (gridAdd (s.sweep n).base (row * q)) (t * 1024)) q)

/-- The code that a row gives at a pixel: 0 outside the line, where the line or its tile is missing, for a frame that is not written, and
for the rows of the new job while its page is late (R124, R126, R180, R186, R227). -/
def State.rowCode (s : State) (n : Nat) (row : Int) (i : Nat) : Nat :=
  match (s.rin n).rows.find? fun r => decide (r.row = row) with
  | none => 0
  | some r =>
    if r.absent || decide (r.width ≤ i) || (r.tiles.any fun t => decide (t.1 ≤ i ∧ i < t.1 + t.2)) || !(s.sweep n).written.contains r.frame
      || ((s.sweep n).pageLate && s.rowIsNew n row) then 0
    else pixelCode r.bpp (r.pixel i)

/-- The contributions to a beam at a pixel: weight in eighths, code, and the job of the row (R178, R182). -/
def State.contributions (s : State) (n k i : Nat) : List (Nat × Nat × Bool) :=
  let w := s.sweep n
  let (d, rho) := bendSplit (s.bend n w.facet i)
  let h := rdiv (rho * pitchOf w.addr) (s.beamPitch n)
  (List.range w.lines).flatMap fun j =>
    let (b, e) := blend (s.slotCoord n w.addr j + w.u + h) i
    let row : Int := (j : Int) - d
    (if b = (k : Int) ∧ e < 8 then [(8 - e, s.rowCode n row i, s.rowIsNew n row)] else []) ++
      (if b + 1 = (k : Int) ∧ 0 < e then [(e, s.rowCode n row i, s.rowIsNew n row)] else [])

/-- The output codes of a run of sums, with the carry (R181). -/
def carryCodes : List Nat → Nat → List Nat
  | [], _ => []
  | y :: t, c => if y = 0 then 0 :: carryCodes t 0 else (y + c) / 8 :: carryCodes t ((y + c) % 8)

/-- The pixels that a beam's delay may bring into the active slots: those of the widest fetched line, and no fewer than the slots (R183). -/
def State.streamLen (s : State) (n : Nat) : Nat := ((s.rin n).rows.map (·.width)).foldl max (s.activePx n)

/-- The slot of the first pixel of the stream, without delay: reverse sweeps take the pixels from the far end (R164, R183). -/
def State.streamStart (s : State) (n : Nat) : Int := if (s.sweep n).rev then (s.activePx n : Int) - s.streamLen n else 0

/-- The pixel that stands at a place of the stream (R164). -/
def State.streamPixel (s : State) (n t : Nat) : Nat := if (s.sweep n).rev then s.streamLen n - 1 - t else t

/-- The codes of a beam in the order of time, before its delay (R181). -/
def State.beamStream (s : State) (n k : Nat) : List Nat :=
  carryCodes ((List.range (s.streamLen n)).map fun t =>
    (s.contributions n k (s.streamPixel n t)).foldl (fun a c => a + c.1 * c.2.1) 0) 0

/-- The delay of a beam in use: whole pixels, and the fraction delivered as its fine delay (R183). -/
def State.beamDelay (s : State) (n k : Nat) : Int × Nat :=
  let d := sgn 20 (s.rdUse n (F.LPL_BEAM_DLY_beam_dly k))
  (d / 64, (d % 64).toNat)

/-- The slot of the first pixel of a beam's stream: the whole part of its delay, after the stream's own start (R183). -/
def State.beamStart (s : State) (n k : Nat) : Int := (s.beamDelay n k).1 + s.streamStart n

/-- What a pixel-clock slot takes from a stream that starts at a slot: 0 where no pixel falls on it (R183). -/
def slotOf (l : List Nat) (whole : Int) (c : Nat) : Nat := if (c : Int) < whole then 0 else l.getD ((c : Int) - whole).toNat 0

/-- A beam takes the old job's table at a pixel: its contribution of greater weight is a row of the old job (R182). -/
def State.takesOld (s : State) (n k i : Nat) : Bool :=
  let l := s.contributions n k i
  let top : Bool → Nat := fun new => ((l.filter fun c => c.2.2 == new).map fun c => c.1).foldl max 0
  decide (top true < top false)

/-- The bound of a column of a straddling sweep: beams below it take the old job's table (R222). -/
def State.columnBound (s : State) (n c : Nat) : Nat :=
  (List.range (s.nBeams n)).foldl (fun a k =>
    let t : Int := (c : Int) - s.beamStart n k
    if 0 ≤ t ∧ t < (s.streamLen n : Int) ∧ s.takesOld n k (s.streamPixel n t.toNat) then k + 1 else a) 0

/-! ### Tables and corrections in use (R184, R185) -/

/-- The words of a shadow are copied into use, with their code words. -/
def State.shadowCopy (s : State) (n : Nat) (rs : List (Nat × Nat)) : State :=
  s.each rs fun r s => (s.modInUse fun u => storeCopyRange u s.regs n r.1 r.2).calCopy n r.1 r.2 0 inUseCopy

/-- The whole shadow is copied into use. -/
def State.lplCopy (s : State) (n : Nat) : State :=
  let s := s.shadowCopy n lplRanges
  (s.wr n F.LPL_STATUS_apply_pend 0).lplShow n

/-- The apply command (R179, R184). -/
def State.lplApply (s : State) (n : Nat) : State :=
  if s.steerBad n (s.limWeb n) (s.trimShadow n) then s.reject n .lpl F.LPL_STATUS_write_reject
  else if s.on n F.SCN_STATUS_running then s.wr n F.LPL_STATUS_apply_pend 1
  else s.lplCopy n

/-- A correction outside its limit: the limit is taken, and the clamp is reported (R185). -/
def State.clampReg (s : State) (n : Nat) (f : Fld) (lim : Nat) : State :=
  let v := s.rdS n f
  if lim < v.natAbs then ((s.wrS n f (clampI (-lim) lim v)).wr n F.LPL_STATUS_reg_clamp_s 1).reportC n .lpl else s

/-- Both corrections are held to the limits in force. -/
def State.clampRegs (s : State) (n : Nat) : State :=
  (s.clampReg n F.LPL_REG_WEB_reg_web (s.limWeb n)).clampReg n F.LPL_REG_SCAN_reg_scan (s.rd n F.LPL_REG_LIM_lim_scan)

/-- A write to LPL_REG_WEB or LPL_REG_SCAN (R185). -/
def State.regWrite (s : State) (n : Nat) (scan : Bool) (v : Nat) : State :=
  if scan then (s.wr n F.LPL_REG_SCAN_reg_scan v).clampReg n F.LPL_REG_SCAN_reg_scan (s.rd n F.LPL_REG_LIM_lim_scan)
  else (s.wr n F.LPL_REG_WEB_reg_web v).clampReg n F.LPL_REG_WEB_reg_web (s.limWeb n)

/-- A write to LPL_REG_LIM: lim_web is refused where it would leave no steering; the corrections are clamped at the next sweep, at once
where the scanner is not running (R179, R185). -/
def State.regLimWrite (s : State) (n v : Nat) : State :=
  let s := s.wr n F.LPL_REG_LIM_lim_scan (v / 1024)
  let s := if s.steerBad n (256 * (v % 1024)) (s.trimUse n) then s.reject n .lpl F.LPL_STATUS_write_reject
    else (s.wr n F.LPL_REG_LIM_lim_web v).lplShow n
  if s.on n F.SCN_STATUS_running then s else s.clampRegs n

/-- The clear_counters command (R193). -/
def State.lplClear (s : State) (n : Nat) : State :=
  s.clearAll n [F.LPL_BLANK_SWP_CNT_blank_cnt, F.LPL_BYPASS_CNT_bypass_cnt, F.LPL_PLACE_FLAG_CNT_place_cnt]

/-- LPL_APPLY (R184). -/
def execLplApply (n : Nat) (s : State) : Out := .next (if s.stnPowered n then s.lplApply n else s)

/-- LPL_CLEAR_COUNTERS (R193). -/
def execLplClearCounters (n : Nat) (s : State) : Out := .next (if s.stnPowered n then s.lplClear n else s)

/-- REG_WEB_WRITE (R185): reg_web, or reg_scan. -/
def execRegWebWrite (n : Nat) (scan : Bool) (v : Nat) (s : State) : Out := .next (if s.stnPowered n then s.regWrite n scan v else s)

/-- REG_LIM_WRITE (R179, R185). -/
def execRegLimWrite (n v : Nat) (s : State) : Out := .next (if s.stnPowered n then s.regLimWrite n v else s)

end Sys2Proof.Machine
end

