-- ==== Sys2Proof/Machine/Web.lean ====
section
/-! DEFINITION. The web timebase (R39 to R58): encoders, the estimator and the published position, signal faults and the cross-check, the
mains phase; and the replicas and die links of the stations (R32, R33, R51 to R55, R59). -/

namespace Sys2Proof.Machine

/-! ### Encoders (R39 to R42) -/

/-- Encoder B is the selected encoder: after failover (R48). -/
def State.onB (s : State) : Bool := s.on 0 F.WTB_STATUS_on_secondary

def Wtb.enc (w : Wtb) : Enc → Encoder
  | .a => w.encA
  | .b => w.encB

def State.setEnc (s : State) (e : Enc) (x : Encoder) : State :=
  s.modWtb fun w => match e with
    | .a => { w with encA := x }
    | .b => { w with encB := x }

/-- The encoder that is selected (R48). -/
def State.selected (s : State) : Enc := if s.onB then .b else .a

/-- Ticks per count of an encoder, with 24 fractional bits (R42). -/
def State.encScale (s : State) : Enc → Nat
  | .a => s.rd40 0 P.WTB_SCALE_A
  | .b => s.rd40 0 P.WTB_SCALE_B

/-- The measured position of the selected encoder, with 24 fractional bits (R43). -/
def State.measured (s : State) : Int := (s.wtb.enc s.selected).acc + s.wtb.selOfs

/-- High-water count minus present count of the selected encoder (R45). -/
def State.backlog (s : State) : Int := (s.wtb.enc s.selected).hw - (s.wtb.enc s.selected).count

def encFault : Enc → Fld
  | .a => F.WTB_STATUS_enc_a_fault
  | .b => F.WTB_STATUS_enc_b_fault

def encFaultS : Enc → Fld
  | .a => F.WTB_STATUS_enc_a_fault_s
  | .b => F.WTB_STATUS_enc_b_fault_s

def encErr : Enc → Fld
  | .a => F.WTB_ENC_ERR_CNT_enc_a_err
  | .b => F.WTB_ENC_ERR_CNT_enc_b_err

def encInvert : Enc → Fld
  | .a => F.WTB_ENC_A_CFG_invert
  | .b => F.WTB_ENC_B_CFG_invert

/-- A field of WTB_ENC_A_CFG or WTB_ENC_B_CFG. -/
def State.encMode (s : State) : Enc → Nat
  | .a => s.rd 0 F.WTB_ENC_A_CFG_mode
  | .b => s.rd 0 F.WTB_ENC_B_CFG_mode

def State.encGlitch (s : State) : Enc → Nat
  | .a => s.rd 0 F.WTB_ENC_A_CFG_glitch_ns
  | .b => s.rd 0 F.WTB_ENC_B_CFG_glitch_ns

/-- log2 of the interpolation steps of a signal period: 0 and 1 act as 2, 13 to 15 as 12 (R39, R58). -/
def State.encInterp (s : State) : Enc → Nat
  | .a => max 2 (min 12 (s.rd 0 F.WTB_ENC_A_CFG_interp_log2))
  | .b => max 2 (min 12 (s.rd 0 F.WTB_ENC_B_CFG_interp_log2))

/-- Source index of an encoder input. -/
def encSrc : Enc → Nat
  | .a => 0
  | .b => 1

/-- Counts in the sense of the input, positive or negative: the scale goes into the accumulator for each, the high-water count and the
deepest backlog follow (R39, R42, R45, R46). -/
def State.encCount (s : State) (e : Enc) (n : Int) : State :=
  let d := if s.on 0 (encInvert e) then -n else n
  let x := s.wtb.enc e
  let s := s.setEnc e { x with count := x.count + d, acc := x.acc + d * s.encScale e, hw := max x.hw (x.count + d) }
  if s.selected = e then s.raiseTo 0 F.WTB_REV_DEPTH_rev_depth_max s.backlog.toNat else s

/-- A level of a line changes and stands for `ns`. -/
def Encoder.edge (x : Encoder) (lineB : Bool) (ns glitch : Nat) : Encoder :=
  let keep := decide (glitch ≤ ns)
  if lineB then { x with lineB := !x.lineB, filtB := if keep then !x.lineB else x.filtB }
  else { x with lineA := !x.lineA, filtA := if keep then !x.lineA else x.filtA }

/-- The count of a change of one filtered level: A leading B counts up (DESIGN CHOICE, log entry 196). -/
def quadCount (x y : Encoder) : Int :=
  if x.filtA ≠ y.filtA then (if y.filtA ≠ y.filtB then 1 else -1)
  else if x.filtB ≠ y.filtB then (if y.filtA = y.filtB then 1 else -1)
  else 0

/-- Quadrature (R39): a level of one line changes. The filter passes a level that stands for glitch_ns, and a filtered change is one count. -/
def State.encEdge (s : State) (e : Enc) (lineB : Bool) (ns : Nat) : State :=
  let x := s.wtb.enc e
  let y := x.edge lineB ns (s.encGlitch e)
  (s.setEnc e y).encCount e (quadCount x y)

/-- Both lines change within one step of 1 ns: the transition joins those of the last ms, and the count stays (R41). The glitch filter does
not act on it, and both new levels pass (DESIGN CHOICE, log entry 247). -/
def Encoder.both (x : Encoder) (now : Nat) : Encoder :=
  { x with lineA := !x.lineA, lineB := !x.lineB, filtA := !x.lineA, filtB := !x.lineB,
           illegal := (now :: x.illegal.filter fun t => decide (now < t + 1000000)).take 17 }

/-- Quadrature (R41): both lines change within one step of 1 ns. The transition is counted and moves the count by zero; more than 16 of them
within 1 ms meet the condition of a signal fault. -/
def State.encIllegal (s : State) (e : Enc) : State :=
  let x := s.wtb.enc e
  let y := x.both s.now
  let s := s.setEnc e { y with due := x.due || decide (16 < y.illegal.length), lastBad := s.now }
  (s.bump 0 (encErr e)).reportC 0 .wtb (encSrc e)

/-- The steps from one phase to another, the way that is less than half a period (R39). -/
def interpSteps (log2 p q : Nat) : Int := sgn log2 (q * 2 ^ log2 / 1048576 + 2 ^ log2 - p * 2 ^ log2 / 1048576 % 2 ^ log2)

/-- The steps to a phase from the last one (R39). -/
def Encoder.stepsTo (x : Encoder) (log2 phase : Nat) : Int :=
  match x.phase with
  | none => 0
  | some p => interpSteps log2 p phase

/-- Sin/cos (R39, R40): a sample outside 0.5 to 1.4 of the nominal radius is rejected and counted, the fourth in a row meets the condition of a
signal fault; any other moves the count by the interpolation steps since the last. -/
def State.encSample (s : State) (e : Enc) (phase radius : Nat) : State :=
  let x := s.wtb.enc e
  if radius < 500 ∨ 1400 < radius then
    (s.setEnc e { x with badRun := x.badRun + 1, due := x.due || decide (4 ≤ x.badRun + 1), lastBad := s.now }).bump 0 (encErr e)
  else
    let n := x.stepsTo (s.encInterp e) phase
    (s.setEnc e { x with badRun := 0, phase := some phase }).encCount e n

/-- ENCODER_COUNT (R39 to R42): what happens on an input counts only in the mode that looks at it. -/
def execEncoderCount (enc : Enc) (ev : EncEvent) (s : State) : Out :=
  match ev, s.encMode enc with
  | .edge lineB ns, 0 => .next (s.encEdge enc lineB ns)
  | .both, 0 => .next (s.encIllegal enc)
  | .sample phase radius, 1 => .next (s.encSample enc phase radius)
  | _, _ => .next s

/-! ### The timebase condition, signal faults and the cross-check (R46 to R49) -/

/-- The conditions of R49 but for ENC_MISMATCH: what the stations take as a valid position, for under ENC_MISMATCH the position continues and
the lines are written normally (R47, R103), while rep_ok clear would stop the replicas (R75; DEDUCED, log entry 15). -/
def State.positionValid (s : State) : Bool :=
  s.on 0 F.WTB_STATUS_cal_done && !s.on 0 (encFault s.selected) && !s.on 0 F.WTB_STATUS_preset_req && !s.on 0 F.WTB_STATUS_web_reverse

/-- tb_ok follows R49, and the hub cue engine shows it (R81). A mark window that is open without it gives no valid mark (R245). -/
def State.updateTbOk (s : State) : State :=
  let ok := s.positionValid && !s.on 0 F.WTB_STATUS_enc_mismatch
  let s := (s.wrB 0 F.WTB_STATUS_tb_ok ok).wrB 0 F.CUE_STATUS_tb_valid ok
  if ok then s else s.modRgc fun r => { r with wins := r.wins.map fun w => { w with bad := true } }

/-- A new cross-check span starts from here (R47). -/
def State.newSpan (s : State) : State :=
  let c := s.rdWord 0 F.WTB_XCHK_xchk_tol.off
  s.modWtb fun w => { w with spanA := w.encA.acc, spanB := w.encB.acc, spanCfg := some c }

/-- A field of WTB_XCHK as the span in progress has taken it (R58). -/
def State.spanField (s : State) (f : Fld) : Nat :=
  getBits (s.wtb.spanCfg.getD (s.rdWord 0 F.WTB_XCHK_xchk_tol.off)) f.hi f.lo

/-- The cross-check is suspended: ENC_MISMATCH clears at once (R47, R48). -/
def State.suspendCheck (s : State) : State :=
  ((s.wr 0 F.WTB_STATUS_enc_mismatch 0).modWtb fun w => { w with missRun := 0 }).updateTbOk

/-- The cross-check runs (R47, R48). -/
def State.checking (s : State) : Bool :=
  decide (1 ≤ s.rd 0 F.WTB_CTRL_enc_source ∧ s.rd 0 F.WTB_CTRL_enc_source ≤ 2) && !s.wtb.xchkOff && !s.on 0 F.WTB_STATUS_enc_b_fault

/-- A signal fault (R40, R41, R48): the outcome depends on enc_source, the input and whether failover has taken place. Where A fails under
enc_source 2 while a fault of B is active, the table has no row: the model fails over all the same, and B's active fault then keeps tb_ok
clear (DESIGN CHOICE, log entry 197). -/
def State.signalFault (s : State) (e : Enc) : State :=
  let s := (s.wr 0 (encFault e) 1).wr 0 (encFaultS e) 1
  let src := s.rd 0 F.WTB_CTRL_enc_source
  if s.selected = e ∧ !(src = 2 ∧ e = .a) then
    let s := (s.wr 0 F.WTB_STATUS_preset_req 1).updateTbOk
    (s.setActive 0 .wtb true).raiseF 0 .wtb (encSrc e) 11 s.framesInProgress
  else if s.selected = e then (s.modWtb fun w => { w with failover := true }).updateTbOk
  else if src = 0 ∨ e = .a then (s.bump 0 (encErr e)).reportC 0 .wtb (encSrc e)
  else s.suspendCheck.report 0 .wtb (encSrc e) .u 0 []

/-- The failover that an update carries out (R48): the position continues from its present value with B's increments, and the cross-check is
suspended for good. -/
def State.failOver (s : State) : State :=
  if !s.wtb.failover then s
  else
    let s := s.wr 0 F.WTB_STATUS_on_secondary 1
    let s := s.modWtb fun w => { w with selOfs := w.selOfs + w.encA.acc - w.encB.acc, xchkOff := true, failover := false }
    s.suspendCheck.report 0 .wtb (encSrc .a) .u (causeBit 11) s.framesInProgress

/-- SIGNAL_FAULT (R40, R41, R48): the samples or transitions of the input have met the condition. A fault that is active already is not
detected again. -/
def execSignalFault (enc : Enc) (s : State) : Out :=
  if !(s.wtb.enc enc).due then .next s
  else
    let s := s.setEnc enc { s.wtb.enc enc with due := false }
    .next (if s.on 0 (encFault enc) then s else s.signalFault enc)

/-- SIGNAL_FAULT_CLEAR (R48): the input has met R40 and R41 for 1 ms. The cross-check that a fault of B suspended resumes with a new span;
f_active falls with the fault of the selected encoder. -/
def execSignalFaultClear (enc : Enc) (s : State) : Out :=
  if !s.on 0 (encFault enc) ∨ s.now < (s.wtb.enc enc).lastBad + 1000000 then .next s
  else
    let s := (s.wr 0 (encFault enc) 0).setEnc enc { s.wtb.enc enc with due := false }
    let s := if enc = .b then s.newSpan else s
    let s := if s.selected = enc then s.setActive 0 .wtb false else s
    .next s.updateTbOk

/-- SPAN (R47): the primary has advanced one span; the secondary's advance over it is compared. -/
def execSpan (s : State) : Out :=
  let a := s.wtb.encA.acc - s.wtb.spanA
  if !s.checking ∨ a < ((2 ^ (16 + s.spanField F.WTB_XCHK_span_sel) * 16777216 : Nat) : Int) then .next s
  else
    let b := s.wtb.encB.acc - s.wtb.spanB
    let tol := s.spanField F.WTB_XCHK_xchk_tol
    let misses := s.spanField F.WTB_XCHK_xchk_n
    let s := s.newSpan
    if tol * 16777216 < (a - b).natAbs then
      let run := s.wtb.missRun + 1
      let s := s.modWtb fun w => { w with missRun := run }
      if max 1 misses ≤ run ∧ !s.on 0 F.WTB_STATUS_enc_mismatch then
        let s := ((s.wr 0 F.WTB_STATUS_enc_mismatch 1).wr 0 F.WTB_STATUS_mismatch_s 1).updateTbOk
        .next (s.detect .encMismatch 0 .wtb 3 .u (causeBit 11) s.framesInProgress)
      else .next s
    else .next ((s.modWtb fun w => { w with missRun := 0 }).wr 0 F.WTB_STATUS_enc_mismatch 0).updateTbOk

/-! ### The estimator (R43) -/

/-- 2π in 10^-15. -/
abbrev twoPi : Int := 6283185307179586

/-- Estimator bandwidth, kHz. -/
def State.estKHz (s : State) : Int :=
  match s.rd 0 F.WTB_CTRL_est_bw with
  | 0 => 2
  | 1 => 5
  | 2 => 10
  | _ => 20

/-- One update of the estimator (R43): the measured position, compensated by 64 ns, against the prediction. Positions in 2^-48 tick,
velocities in 2^-48 tick per ns; k1 = 2ζωt and k2 = ω²t. The answer is the compensated measurement with the new estimates. -/
def State.estimate (s : State) (t : Nat) : Int × Int × Int :=
  let v := s.wtb.vEst
  let meas := s.measured * 16777216 + v * 64
  let pred := s.wtb.pEst + v * t
  let e := meas - pred
  let w := twoPi * s.estKHz
  (meas, pred + rdiv (e * 1414 * w * t) 1000000000000000000000000, v + rdiv (e * w * w * t) 1000000000000000000000000000000000000000000)

/-- The published velocity: 1/256 tick per µs, a negative estimate as zero (R43, R45). -/
def publishVel (v : Int) : Nat := satN 19 (rdiv (v * 256000) 281474976710656).toNat

/-- The time since which the published velocity has been zero (R338, R352). -/
def State.noteZero (s : State) : State :=
  s.modWtb fun w => { w with zeroSince := if s.vel = 0 then some (w.zeroSince.getD s.now) else none }

/-- The position and velocity of an update are published (R43, R45): the candidate lies within one count step of the measurement, is never
behind the published position, and a backlog holds it. -/
def State.publish (s : State) (meas : Int) : State :=
  let step := (s.encScale s.selected : Int) * 16777216
  let cand := rdivUp (clampI (meas - step) (meas + step) s.wtb.pEst) 281474976710656
  let hold := decide (0 < s.backlog)
  let pub := if hold then s.wtb.pub else max s.wtb.pub cand
  let v := if hold then 0 else publishVel s.wtb.vEst
  (((s.modWtb fun w => { w with pub := pub }).wr40 0 P.WTB_POS (unsgn 40 pub)).wr 0 F.WTB_VEL_vel v).noteZero

/-- WEB_REVERSE is set by a backlog above web_hyst and clears when the backlog is repaid; a standing backlog joins the deepest (R46). -/
def State.judgeReverse (s : State) : State :=
  let s := s.raiseTo 0 F.WTB_REV_DEPTH_rev_depth_max s.backlog.toNat
  let on := s.on 0 F.WTB_STATUS_web_reverse
  if !on && decide ((s.rd 0 F.WTB_HYST_web_hyst : Int) < s.backlog) then
    let s := (s.wr 0 F.WTB_STATUS_web_reverse 1).wr 0 F.WTB_STATUS_reverse_s 1
    s.detect .webReverse 0 .wtb 2 .u (causeBit 10) s.framesInProgress
  else if on && decide (s.backlog ≤ 0) then s.wr 0 F.WTB_STATUS_web_reverse 0
  else s

/-- An accumulator, and the high-water count with it, as a preset loads them (R50). -/
def Encoder.load (x : Encoder) (p : Nat) : Encoder := { x with acc := (p : Int) * 16777216, hw := x.count }

/-- A preset takes effect in place of the estimate of this update: the published position, the accumulators and the high-water counts are
loaded (R50). It clears preset_req, also while the fault of the selected encoder is still active (DESIGN CHOICE, log entry 248). -/
def State.loadPreset (s : State) (p : Nat) : State :=
  let s := s.modWtb fun w => { w with encA := w.encA.load p, encB := w.encB.load p, selOfs := 0,
                                      pEst := (p : Int) * 281474976710656, pub := p, presetPend := none, presetBit := true }
  let s := ((s.newSpan.wr40 0 P.WTB_POS p).wr 0 F.WTB_VEL_vel (publishVel s.wtb.vEst)).wr 0 F.WTB_STATUS_preset_req 0
  s.noteZero.cuePreset 0

/-- The estimate of one update, published (R43 to R45). -/
def State.estimateStep (s : State) (t : Nat) : State :=
  let (meas, p, v) := s.estimate t
  (s.modWtb fun w => { w with pEst := p, vEst := v }).publish meas

/-- The mains phase by interpolation from the last accepted crossing (R56); a half-cycle begins at phase 0 and at one half (R284). -/
def State.mainsPhase (s : State) : State :=
  match s.wtb.mainsLast with
  | none => s
  | some t =>
    if !s.on 0 F.WTB_STATUS_mains_ok ∨ s.wtb.mainsPeriod = 0 then s
    else
      let ph := (s.now - t) % s.wtb.mainsPeriod * 1048576 / s.wtb.mainsPeriod
      let s := s.wr 0 F.WTB_MAINS_PHASE_phase ph
      let cycle := s.now - (s.now - t) % s.wtb.mainsPeriod
      if ph < 524288 then (if s.fsr.second then s.fsrRising cycle else s) else s.fsrHalf (cycle + s.wtb.mainsPeriod / 2)

/-! ### The position feedback of a motor channel (R57, R299) -/

/-- An event on the encoder of a channel of kind 1, quadrature, or 2, sin/cos; `due` marks the condition of R40 or R41 (R299). -/
def Encoder.motor (x : Encoder) (kind glitch log2 now : Nat) (ev : EncEvent) : Encoder :=
  match kind, ev with
  | 1, .edge b ns =>
    let y := x.edge b ns glitch
    { y with count := y.count + quadCount x y }
  | 1, .both => let y := x.both now; { y with due := x.due || decide (16 < y.illegal.length) }
  | 2, .sample p r =>
    if r < 500 ∨ 1400 < r then { x with badRun := x.badRun + 1, due := x.due || decide (4 ≤ x.badRun + 1) }
    else { x with badRun := 0, phase := some p, count := x.count + x.stepsTo log2 p }
  | _, _ => x

/-- The commutation sector of a mechanical angle. -/
def sectorOf (pp a : Nat) : Nat := a * pp * 6 / 1048576 % 6

/-- An index more than 4 counts away from a multiple of cpr (R299). -/
def indexOff (cpr : Nat) (first : Option Int) (count : Int) : Bool :=
  match first with
  | none => false
  | some r => let x := (count - r) % (cpr : Int); decide (4 < min x (cpr - x))

/-- A mechanical angle in the positive direction of the channel (R313). -/
def State.chSense (s : State) (d k raw : Nat) : Nat :=
  if s.on d (F.MDR_CH_CFG_inv k) then (1048576 - raw % 1048576) % 1048576 else raw % 1048576

/-- The angle of a channel whose shaft angle begins at the first commutation edge after the start (R57). -/
def Chan.turnTo (c : Chan) (edge : Bool) (m : Nat) : Chan :=
  let first := edge && !c.shaftSet
  { c with mech := m, shaftZero := if first then m else c.shaftZero, shaftSet := c.shaftSet || first }

/-- An event on the feedback of a channel: its angle, the zero of its shaft angle, and an index out of its place (R57, R299). -/
def State.fbEvent (s : State) (d k t : Nat) (ev : FbEvent) : State :=
  let kind := s.rd d (F.MDR_CH_CFG_fb_kind k)
  let cpr := max 1 (s.rd d (F.MDR_CH_CPR_cpr k))
  let counts := kind == 1 || kind == 2
  let pp := s.rd d (F.MDR_CH_CFG_pole_pairs k) + 1
  let runs := s.on d (F.MDR_CH_STATUS_running k)
  s.modChan d k fun c => match ev with
    | .enc e =>
      if !counts then c
      else
        let x := c.enc.motor kind (s.rd d (F.MDR_CH_ENC_glitch_ns k)) (max 2 (min 12 (s.rd d (F.MDR_CH_ENC_interp_log2 k)))) t e
        { c with enc := x, mech := s.chSense d k (x.count % (cpr : Int) * 1048576 / cpr).toNat }
    | .index =>
      if !counts then c
      else { c with shaftZero := c.mech, shaftSet := true, zRef := some (c.zRef.getD c.enc.count),
                    zBad := c.zBad || (s.on d (F.MDR_CH_CFG_z_en k) && indexOff cpr c.zRef c.enc.count) }
    | .hall h a =>
      if kind ≠ 0 then c else { c.turnTo (runs && h % 8 != c.hall) (s.chSense d k a) with hall := h % 8 }
    | .observer a =>
      if kind ≠ 3 then c
      else
        let m := s.chSense d k a
        c.turnTo (runs && sectorOf pp m != sectorOf pp c.mech) m

/-- The feedback of a channel up to a time, ns. -/
def State.fbDrain (s : State) (d k t : Nat) : State :=
  let (due, rest) := (s.chan d k).fbq.partition fun e => decide (e.1 ≤ t)
  if due.isEmpty then s
  else (s.modChan d k fun c => { c with fbq := rest }).each due fun e s => s.fbEvent d k e.1 e.2

/-- The shaft angle of a channel (R57). -/
def Chan.shaft (c : Chan) : Nat := (c.mech + 1048576 - c.shaftZero % 1048576) % 1048576

/-- The hub's shaft angles, from what the feedback has done so far (R57). -/
def State.hubShafts (s : State) : State :=
  s.each [0, 1, 2, 3] fun k s =>
    let s := s.fbDrain 0 k s.now
    s.wr 0 (F.WTB_SHAFT_ANGLE_angle k) (s.chan 0 k).shaft

/-- The bit of the position that WEBPULSE follows (R426). -/
def State.webPulseBit (s : State) : Nat := max 8 (min 30 (s.rd 0 F.FIN_CFG_wp_log2)) - 1

/-- The level that WEBPULSE takes from a position (R426). -/
def State.webPulseAt (s : State) (p : Nat) : Bool := s.on 0 F.FIN_CFG_wp_en && !p.testBit s.webPulseBit

/-- The level that WEBPULSE takes from the published position (R426). -/
def State.webPulseLevel (s : State) : Bool := s.webPulseAt s.pos

/-- WTB_UPDATE (R43 to R46, R50, R56, R57, R66, R426). With the power down only the time of the Bay goes on (R409). -/
def execWtbUpdate (s : State) : Out :=
  let t := s.tbInterval 0
  let left := (40000000 + s.wtb.frac) % s.fabKhz 0
  let s := (s.modNow fun n => n + t).modBay fun b => { b with rtcNs := b.rtcNs + t }
  if s.bay.down then .next s else
  let s := s.modWtb fun w => { w with frac := left }
  let s := s.failOver
  let s := match s.wtb.presetPend with
    | some p => let s := s.loadPreset p; s.modPorts fun x => { x with webPulse := s.webPulseLevel }
    | none => s.estimateStep t
  let s := s.judgeReverse.updateTbOk
  .next ((s.modWtb fun w => { w with valid := s.positionValid }).mainsPhase.hubShafts.cueUpdate 0)

/-! ### Commands of WTB (R50, R55, R58) -/

/-- The preset command (R50). -/
def State.preset (s : State) : State :=
  if s.frmRuns then s.reject 0 .wtb F.WTB_STATUS_write_reject
  else
    let p := s.rd40 0 P.WTB_PRESET
    s.modWtb fun w => { w with presetPend := some p }

/-- The capture command (R50). -/
def State.capture (s : State) : State := (s.wr40 0 P.WTB_CAPT s.pos).wr 0 F.WTB_CAPT_VEL_capt_vel s.vel

/-- The clear_counters command (R58). -/
def State.wtbClear (s : State) : State :=
  s.clearAll 0 [F.WTB_REV_DEPTH_rev_depth_max, F.WTB_ENC_ERR_CNT_enc_a_err, F.WTB_ENC_ERR_CNT_enc_b_err]

/-- The hub's cal_done: every present link is calibrated (R49). -/
def State.updateCal (s : State) : State :=
  (s.wrB 0 F.WTB_STATUS_cal_done (s.stns.all fun n => s.on n F.CUE_REP_STATUS_cal_done)).updateTbOk

/-- The link-loss level of a station falls once broadcasts arrive again and the recalibration has passed (R33). -/
def State.linkActive (s : State) (n : Nat) : State :=
  if (s.link n).lost ∨ (s.link n).hubLost ∨ !s.on n F.CUE_REP_STATUS_cal_done then s
  else (s.setActive n .dlk false).setHub19 n false

/-- Parts of a tick in the 40-bit ring of a replica. -/
abbrev replicaRing : Nat := two40 * tickParts

/-- The signed distance between two replica positions. -/
def replicaDiff (a b : Nat) : Int :=
  let m := ((a : Int) - b) % (replicaRing : Int)
  if m < (replicaRing : Int) / 2 then m else m - replicaRing

/-- The replica's position and velocity as its registers show them. -/
def State.showReplica (s : State) (n : Nat) : State := s.wr40 n P.CUE_REP_POS ((s.link n).rep / tickParts)

/-- Half the mean round trip, in 1/16 ns (R55, step 2). -/
def calLat (c : LinkCal) : Nat := (rdiv (c.trips.foldl (· + ·) 0 * 8 : Nat) (max 1 c.trips.length)).toNat

/-- The round-trip spread, ns (R55, step 2). -/
def calSpread (c : LinkCal) : Nat := c.trips.foldl max 0 - c.trips.foldl min (c.trips.headD 0)

/-- Velocity of the synthetic ramp: 128 ticks per µs, in 1/256 tick per µs (R55, step 4). -/
abbrev rampVel : Nat := 32768

/-- Position that broadcast `k` of the synthetic ramp carries: one broadcast in 160 ns (R30, R55). -/
def rampPos (k : Nat) : Nat := (rdivUp (k * 160 * 128 : Nat) 1000).toNat

/-- The position a replica is to take from broadcast `k` of the ramp, in parts of a tick (R51). -/
def rampTarget (lat k : Nat) : Int := rampPos k * tickParts + rampVel * lat

/-- The largest error of the broadcasts from `k` on against the prediction each makes for the next, in parts of a tick (R51, R55, step 5). -/
def rampErr (lat : Nat) : Nat → List Nat → Nat
  | k, d :: e :: ds =>
    max (rampTarget lat k + rampVel * (2560 + (e : Int) - d) - rampTarget lat (k + 1)).natAbs (rampErr lat (k + 1) (e :: ds))
  | _, _ => 0

/-- The calibration of one link passes with a spread of at most 4 ns and a coherence error of at most 1.0 tick (R55). -/
def calPassed (c : LinkCal) : Bool := decide (calSpread c ≤ 4) && decide (rampErr (calLat c) 0 c.delays ≤ tickParts)

/-- One link is calibrated and proved (R55): the ramp stands in the replica until the first real broadcast is loaded. A link that returns no
echo or takes no ramp fails. -/
def State.calibrate (s : State) (results : List LinkCal) (n : Nat) : State :=
  match results.find? (fun c => c.stn == n) with
  | none => s.wr n F.CUE_REP_STATUS_cal_done 0
  | some c =>
    if c.trips = [] ∨ c.delays = [] then s.wr n F.CUE_REP_STATUS_cal_done 0
    else
      let s := s.wrSat 0 (F.WTB_LAT_spread n) (calSpread c)
      if 4 < calSpread c then s.wr n F.CUE_REP_STATUS_cal_done 0
      else
        let s := (s.wrSat 0 (F.WTB_LAT_lat n) (calLat c)).wrSat n F.CUE_REP_LAT_lat (calLat c)
        let t := (rampTarget (calLat c) (c.delays.length - 1)).toNat
        let s := (s.modLink n fun l => { l with target := t, rep := t, loadNext := calPassed c }).wr n F.CUE_REP_VEL_rep_vel rampVel
        ((s.wrB n F.CUE_REP_STATUS_cal_done (calPassed c)).showReplica n).linkActive n

/-- The calibration of every present link (R55). -/
def State.calibrateAll (s : State) (results : List LinkCal) : State := (s.each s.stns fun n s => s.calibrate results n).updateCal

/-- The recal command, refused as a preset is (R50, R55). -/
def State.recal (s : State) (results : List LinkCal) : State :=
  if s.frmRuns then s.reject 0 .wtb F.WTB_STATUS_write_reject else s.calibrateAll results

/-- PRESET (R50). -/
def execPreset (s : State) : Out := .next s.preset

/-- CAPTURE (R50). -/
def execCapture (s : State) : Out := .next s.capture

/-- REBASELINE (R47). -/
def execRebaseline (s : State) : Out := .next s.newSpan

/-- RECAL (R55). -/
def execRecal (results : List LinkCal) (s : State) : Out := .next (s.recal results)

/-- WTB_CLEAR_COUNTERS (R58). -/
def execWtbClearCounters (s : State) : Out := .next s.wtbClear

/-! ### Mains (R56) -/

/-- A crossing is accepted: the selected input, its time, the rms of its cycle (R283), and the period, which WTB_MAINS_PERIOD shows in 1/16 µs. A
cycle begins with it, unless the timebase has begun one already. -/
def State.mainsAccept (s : State) (input t period vrms : Nat) : State :=
  let first := !s.on 0 F.WTB_STATUS_mains_ok
  let s := s.wrSat 0 F.FSR_MAINS_VRMS_vrms vrms
  let s := s.modWtb fun w => { w with mainsSrc := input, mainsLast := some t, mainsPeriod := period, mainsCand := none }
  let s := (s.wrSat 0 F.WTB_MAINS_PERIOD_period (rdiv (period * 16) 1000).toNat).wr 0 F.WTB_STATUS_mains_ok 1
  let s := if first then s.fsrMainsBack else s
  if first || s.fsr.second then s.fsrRising t else s

/-- MAINS_CROSSING (R56, R283): at time t, ns, on an input, with the rms voltage of the cycle that ends, 0.1 V. Only the tracked input and the one that src selects count. While the mains is
tracked, a crossing within 2 % of a period of its prediction that keeps the period within 45 to 65 Hz is accepted; before that, the second of
two crossings a period of 45 to 65 Hz apart. The first crossing of an input that src has come to select may follow the last one of the other
input within 2 % of a period: it stands for the same cycle. -/
def execMainsCrossing (input t vrms : Nat) (s : State) : Out :=
  let src := s.rd 0 F.WTB_MAINS_CFG_src
  match s.on 0 F.WTB_STATUS_mains_ok, s.wtb.mainsLast with
  | true, some last =>
    let p := s.wtb.mainsPeriod
    if input ≠ src ∧ input ≠ s.wtb.mainsSrc then .next s
    else
      let n := (rdiv ((t : Int) - last) (max 1 p)).toNat
      let k := if input = s.wtb.mainsSrc then max 1 n else n
      let q := if k = 0 then p else (t - last) / k
      if 50 * ((t : Int) - (last + k * p)).natAbs ≤ p ∧ 15384615 ≤ q ∧ q ≤ 22222222 then .next (s.mainsAccept input t q vrms)
      else .next (s.bump 0 F.WTB_MAINS_REJ_rej_cnt)
  | _, _ =>
    if input ≠ src then .next s
    else match s.wtb.mainsCand with
      | some c =>
        if 15384615 ≤ t - c ∧ t - c ≤ 22222222 then .next (s.mainsAccept input t (t - c) vrms)
        else .next ((s.bump 0 F.WTB_MAINS_REJ_rej_cnt).modWtb fun w => { w with mainsCand := some t })
      | none => .next (s.modWtb fun w => { w with mainsCand := some t })

/-- MAINS_LOSS (R56): no crossing has been accepted for two of the tracked periods. -/
def execMainsLoss (s : State) : Out :=
  if !s.on 0 F.WTB_STATUS_mains_ok ∨ s.now < s.wtb.mainsLast.getD 0 + 2 * s.wtb.mainsPeriod then .next s
  else
    let s := (s.wr 0 F.WTB_STATUS_mains_ok 0).wr 0 F.WTB_STATUS_mains_loss_s 1
    let s := s.modWtb fun w => { w with mainsLast := none, mainsCand := none }
    .next (s.fsrMainsLost.report 0 .wtb 4 .u (causeBit 17) s.framesInProgress)

/-! ### Broadcasts and replicas (R51 to R55) -/

/-- The die link of a station runs: it stops while the station's fabric PLL is on bypass (R194, R210). -/
def State.dieLinkRuns (s : State) (n : Nat) : Bool := !s.on n F.CKS_SYS_STATUS_bypass && !s.on n F.CKS_SYS_STATUS_ramp

/-- POSITION_BROADCAST (R51): the flit of this slot, from the last hub update, on every link that runs. -/
def execPositionBroadcast (s : State) : Out :=
  let b : Bcast := ⟨s.pos, s.vel, s.wtb.seq, s.wtb.valid, s.on 0 F.WTB_STATUS_web_reverse, s.wtb.presetBit, false,
    s.on 0 F.CUE_STATUS_degraded⟩
  let s := s.each (s.stns.filter fun n => s.dieLinkRuns n) fun n s => s.modLink n fun l => { l with flit := some b }
  .next (s.modWtb fun w => { w with seq := (w.seq + 1) % 256, presetBit := false })

/-- The error of a broadcast against the prediction, before correction: its record, and REP_COHERENCE on the third in a row above coh_tol
(R51, R53). -/
def State.judgeCoherence (s : State) (n : Nat) (err : Nat) : State :=
  let s := s.raiseTo n F.CUE_REP_ERR_MAX_err_max (rdiv (err * 16) tickParts).toNat
  if max 0x10 (s.rd n F.CUE_REP_COH_TOL_coh_tol) * tickParts < err * 16 then
    let run := (s.link n).cohRun + 1
    let s := s.modLink n fun l => { l with cohRun := run }
    if 3 ≤ run ∧ s.on n F.CUE_REP_STATUS_coh_ok then
      let s := (s.wr n F.CUE_REP_STATUS_coh_ok 0).wr n F.CUE_REP_STATUS_coh_s 1
      s.detect (.repCoh n) n .cue 16 .u (causeBit 12) (s.framesOn n)
    else s
  else (s.modLink n fun l => { l with cohRun := 0 }).wr n F.CUE_REP_STATUS_coh_ok 1

/-- Missing sequence numbers (R51). -/
def State.missedFlits (s : State) (n seq : Nat) : State :=
  let l := s.link n
  let gap := if l.seqKnown then (seq + 511 - l.lastSeq) % 256 else 0
  if gap = 0 then s
  else ((s.bump n F.CUE_REP_MISS_CNT_miss_cnt gap).wr n F.CUE_REP_STATUS_miss_s 1).detect (.bcastMiss n) n .cue 17 .c 0 []

/-- BROADCAST_ARRIVAL (R33, R46, R51, R53, R55). -/
def execBroadcastArrival (n : Nat) (s : State) : Out :=
  match (s.link n).flit with
  | none => .next s
  | some b =>
    let s := s.missedFlits n b.seq
    let target := (b.pos * tickParts + b.vel * s.rd n F.CUE_REP_LAT_lat) % replicaRing
    let direct := b.preset || b.synth || (s.link n).loadNext
    let s := if direct then s else s.judgeCoherence n (replicaDiff (s.link n).rep target).natAbs
    let s := s.modLink n fun l => { l with
      flit := none, lastSeq := b.seq, seqKnown := true, lastArrival := s.now, loadNext := false, lost := false, hubLost := false, degraded := b.degraded,
      blank := !b.valid || b.reverse, target := target, rep := if direct || decide (0 ≤ replicaDiff target l.rep) then target else l.rep }
    let s := ((s.wr n F.CUE_REP_VEL_rep_vel b.vel).wrB n F.CUE_REP_STATUS_rep_ok b.valid).wrB n F.CUE_REP_STATUS_reverse b.reverse
    let s := ((s.wrB n F.CUE_STATUS_tb_valid b.valid).showReplica n).linkActive n
    .next (if b.preset then s.cuePreset n else s)

/-- The station's shaft angles: scanner, drum, developer (R57). -/
def State.stnShafts (s : State) (n : Nat) : State :=
  let s := s.each [0, 1, 4] fun k s => s.fbDrain n k (s.tbNow n)
  let s := s.wr n (F.CUE_SHAFT_ANGLE_angle 0) (s.chan n 4).shaft
  (s.wr n (F.CUE_SHAFT_ANGLE_angle 1) (s.chan n 0).shaft).wr n (F.CUE_SHAFT_ANGLE_angle 2) (s.chan n 1).shaft

/-- The replica advances by its velocity over 40 ns; a replica ahead of the corrected target holds (R51, R75). -/
def State.advanceReplica (s : State) (n : Nat) : State :=
  let now := s.now
  let s := s.modLink n fun l => { l with clock := max (l.clock + 40) now }
  if !s.on n F.CUE_REP_STATUS_rep_ok then s
  else
    let step := s.rd n F.CUE_REP_VEL_rep_vel * 640
    (s.modLink n fun l =>
      let t := (l.target + step) % replicaRing
      { l with target := t, rep := if 0 ≤ replicaDiff t l.rep then t else l.rep }).showReplica n

/-! ### Die links (R32, R33) -/

/-- FLIT_CRC_FAIL (R32): a replay is a C-class event of the hub FLT; a class-1 flit is lost. -/
def execFlitCrcFail (n cls : Nat) (s : State) : Out :=
  if !s.hasStn n then .next s
  else if cls = 1 then .next (s.modLink n fun l => { l with flit := none })
  else .next (s.detect (.replay n) 0 .dlk n .c 0 [])

/-- Link loss (R33): the sweep in progress completes, later sweeps blank, laser and HV are safe by the station itself; the station and the
hub raise an F-class fault. -/
def State.linkLoss (s : State) (n : Nat) : State :=
  let s := ((s.wr n F.CUE_REP_STATUS_rep_ok 0).wr n F.CUE_STATUS_tb_valid 0).wr n F.CUE_REP_STATUS_cal_done 0
  let s := ((s.modLink n fun l => { l with blank := true }).setActive n .dlk true).setHub19 n true
  let fs := s.framesInProgress
  ((s.updateCal.raiseF n .dlk 0 13 fs).raiseF 0 .dlk n 13 fs)

/-- The link-loss timeout of a station, ns: four slots of 160 ns, or 40 µs while it receives degraded broadcasts (R33, R54). -/
def State.linkTimeout (s : State) (n : Nat) : Nat := if (s.link n).degraded then 40000 else 640

/-- LINK_LOSS (R33, R54): the station has received no valid broadcast for its timeout. -/
def execLinkLoss (n : Nat) (s : State) : Out :=
  if !s.hasStn n || (s.link n).lost || decide (s.now < (s.link n).lastArrival + s.linkTimeout n) then .next s
  else
    let first := !(s.link n).hubLost
    let s := s.modLink n fun l => { l with lost := true, flit := none }
    .next (if first then s.linkLoss n else s)

/-- HUB_LINK_LOSS (R33): a link has stayed in replay for more than 2 µs. -/
def execHubLinkLoss (n : Nat) (s : State) : Out :=
  if !s.hasStn n || (s.link n).hubLost then .next s
  else
    let first := !(s.link n).lost
    let s := s.modLink n fun l => { l with hubLost := true }
    .next (if first then s.linkLoss n else s)

end Sys2Proof.Machine
end

