-- ==== Sys2Proof/Machine/Cks.lean ====
section
/-! DEFINITION. Clock synthesis (R194 to R215): the pixel clock of a sweep, the retune, loss of lock and re-lock of the pixel and fabric PLLs,
and the CKS commands. -/

namespace Sys2Proof.Machine

/-! ### The base rate (R197 to R204) -/

/-- The scan duty, or the usable fraction, in 0.1 %: polygon 400 to 900, resonant 500 to 850 (R173). -/
def State.duty (s : State) (n : Nat) : Nat :=
  let d := s.rd n F.SCN_DUTY_duty
  if s.rd n F.SCN_CFG_kind = 1 then max 500 (min 850 d) else max 400 (min 900 d)

/-- A facet trim in use, 2^-20: beyond ±4,096 acts as ±4,096 (R215). -/
def State.facetTrim (s : State) (n f : Nat) : Int := clampI (-4096) 4096 (sgn 20 (s.rdUse n (F.CKS_FACET_TRIM_trim f)))

/-- The automatic term applies (R198). -/
def State.autoTrim (s : State) (n : Nat) : Bool := s.on n F.CKS_PX_CFG_auto_trim && s.rd n F.SCN_CFG_bd1_use == 1

/-- An entry of the linearisation table in use, 2^-16: below 1.0 acts as 1.0 (R215). -/
def State.linPoint (s : State) (n k : Nat) : Nat := max 0x10000 (s.rdUse n (F.CKS_LIN_p k))

/-- The period ratio of a slot, 2^-16 (R200). -/
def State.linRatio (s : State) (n slot : Nat) : Int :=
  let a := s.activePx n - 1
  if a = 0 then s.linPoint n 0
  else
    let k := slot * 255 / a
    let p : Int := s.linPoint n k
    rdiv (p * a + (s.linPoint n (min 255 (k + 1)) - p) * (slot * 255 % a : Nat)) a

/-- The sum of the ratios over the active slots (R200). -/
def State.linSum (s : State) (n : Nat) : Nat := ((List.range (s.activePx n)).foldl (fun a k => a + s.linRatio n k) (0 : Int)).toNat

/-- The base rate in 1/1000 Hz for a facet interval or half-period in 1/16 ns (R197, R200). -/
def State.pxRate (s : State) (n f t : Nat) : Nat :=
  let den := max 1 (s.duty n * t)
  if s.rd n F.SCN_CFG_kind = 1 then s.rd40 n P.CKS_PX_LIN_SUM * 16000000000000000 / (65536 * den)
  else
    let auto := if s.autoTrim n then s.rdS n (F.CKS_FACET_AUTO_auto f) else 0
    ((s.activePx n : Int) * (1048576 + s.facetTrim n f + auto) * 16000000000000000 / (1048576 * den : Nat)).toNat

/-- The lane rate, Mbit/s (R240). -/
def State.laneRate (s : State) (n : Nat) : Nat :=
  match s.rd n F.LSR_CFG_lane_rate with
  | 1 => 1600
  | 2 => 800
  | _ => 3200

/-- A base rate that the clock range and the capacity of the laser link permit (R202, R228). -/
def State.rateOk (s : State) (n f : Nat) : Bool :=
  decide (20000000000 ≤ f ∧ f ≤ 160000000000) && decide (f * (3 + (s.nBeams n + 1) / 2) * 100 ≤ 76 * s.laneRate n * 1000000000)

/-- The divider of a lock (R199). -/
def lockDivider (f : Nat) : Nat := max 25 (min 280 (cdivN 4800000000000 f))

/-- The divider of a retune: it moves by 1 where the VCO would leave 4.1 to 5.5 GHz (R199). -/
def retuneDivider (d f : Nat) : Nat :=
  if 5500000000000 < d * f then max 25 (d - 1) else if d * f < 4100000000000 then min 280 (d + 1) else d

/-- FW for a VCO frequency in 1/1000 Hz, its integer part from 160 to 224 (R195). -/
def fwOf (vco : Nat) : Nat := max (160 * 1048576) (min (225 * 1048576 - 1) (rdiv ((vco * 1048576 : Nat) : Int) 25000000000).toNat)

/-- The FW in force. -/
def State.pxFw (s : State) (n : Nat) : Nat := s.rd n F.CKS_PX_FW_HI_fw_int * 0x100000 + s.rd n F.CKS_PX_FW_LO_fw_frac

/-- The pixel PLL is programmed. -/
def State.pxProgram (s : State) (n d f : Nat) : State :=
  let fw := fwOf (d * f)
  ((s.wr n F.CKS_PX_PDIV_pdiv d).wr n F.CKS_PX_FW_HI_fw_int (fw / 0x100000)).wr n F.CKS_PX_FW_LO_fw_frac (fw % 0x100000)

/-- The edge of a slot after the first one, in 1/64 base period, rounded to the interpolator's step (R200). -/
def State.edgePhase (s : State) (n c : Nat) : Nat :=
  if s.rd n F.SCN_CFG_kind = 1 then
    let w := s.sweep n
    let at_ := fun (k : Nat) => s.linRatio n (if w.rev then s.activePx n - 1 - k else k)
    (rdivUp (((List.range c).foldl (fun a k => a + at_ k) (0 : Int)) * 64) 65536).toNat
  else 64 * c

/-- The output is the edge generator of the fabric clock, or a divider step of R208 (R211). -/
def State.onBypass (s : State) (n : Nat) : Bool := s.on n F.CKS_PX_STATUS_bypass || s.on n F.CKS_PX_STATUS_ramp

/-- The edge of a slot after the first one, 1/64 ns: on the pixel PLL, or in steps of 1 ns on the edge generator (R211). -/
def State.edgeTime (s : State) (n c : Nat) (byp : Bool) : Nat :=
  let e := s.edgePhase n c
  if byp then 64 * (rdivUp ((e * 1000000000000 : Nat) : Int) (64 * max 1 (s.cks n).fpx)).toNat
  else (rdivUp ((e * 1048576 * s.rd n F.CKS_PX_PDIV_pdiv * 40 : Nat) : Int) (max 1 (s.pxFw n))).toNat

/-- A phase in 1/64 base period as a time, 1/64 ns (R183, R201). -/
def State.phaseTime (s : State) (n : Nat) (phi : Int) : Int := rdivUp (phi * 1000000000000) (max 1 (s.cks n).fpx)

/-- The time of the first edge of the coming sweep, 1/64 ns: the sweep start moved by the start phase, in whole ns on the edge generator
(R183, R201, R211). The offset of a mirror's direction is in the sweep start already (R153, R164). -/
def State.firstEdge (s : State) (n : Nat) (phi : Int) : Nat :=
  let t := (4 * ((s.scn n).startAt : Int) + s.phaseTime n phi).toNat
  if s.onBypass n then 64 * ((t + 32) / 64) else t

/-- The stamp of a column: the launch is 640 ns before the first edge (R223). -/
def State.stampOn (s : State) (n c : Nat) (byp : Bool) : Nat := (40960 + s.edgeTime n c byp) % 65536

/-- The stamp of a column on the present output. -/
def State.stamp (s : State) (n c : Nat) : Nat := s.stampOn n c (s.onBypass n)

/-- The columns of the sweep in progress that have not been sent, 320 ns before their edges, are stamped on 1 ns steps (R211, R223, R225). -/
def State.restamp (s : State) (n : Nat) : State :=
  let t := 64 * (s.now + 320)
  let t0 := (s.sweep n).firstAt
  let upd := fun (c : List Nat × Nat) => if t < t0 + s.edgeTime n c.2 false then leBytes (s.stampOn n c.2 true) 2 ++ c.1.drop 2 else c.1
  let s := s.modLsr n fun x => { x with columns := x.columns.zipIdx.map upd }
  let ws := s.sweepWords n .final
  if (s.lsr n).launched then s.modLsr n fun x => { x with tx := ws } else s

/-- The pixel PLL loses lock: the output goes to the edge generator, on which the line in progress goes on (R206, R211). A loss during the
divider steps of a re-lock goes back to the second step (R208). -/
def State.pxLost (s : State) (n : Nat) : State :=
  let s := if (s.scn n).inSweep && !s.onBypass n then
      ((s.restamp n).modSweep n fun w => { w with bypass := true }).wr n F.LPL_STATUS_bypass 1
    else s
  let s := ((s.wr n F.CKS_PX_STATUS_locked 0).wr n F.CKS_PX_STATUS_bypass 1).wr n F.CKS_PX_STATUS_ramp 0
  let now := s.now
  let s := ((s.wr n F.CKS_PX_STATUS_pll_lost_s 1).bump n F.CKS_PX_LOST_CNT_lost_cnt).modCks n fun c =>
    { c with px := if 2 ≤ c.px then 1 else 0, pxSince := now }
  s.report n .cks 0 .u 0 []

/-- The base rate of the coming sweep and the retune (R197, R199): a loop that is not in lock takes the divider of a lock; a step beyond retune_max is not made in lock, and is a loss of lock. -/
def State.retune (s : State) (n f t : Nat) : State :=
  let r := s.pxRate n f t
  let s := s.modCks n fun c => { c with fpx := r }
  if !s.rateOk n r then s
  else
    let d := s.rd n F.CKS_PX_PDIV_pdiv
    if d = 0 ∨ !s.on n F.CKS_PX_STATUS_locked then s.pxProgram n (lockDivider r) r
    else
      let d' := retuneDivider d r
      let old := s.pxFw n
      let step := ((fwOf (d' * r) : Int) - old).natAbs
      let lim := max 1 (min 50 (s.rd n F.CKS_PX_RETUNE_retune_max))
      if lim * old < step * 1000 then ((s.pxLost n).wr n F.CKS_PX_STATUS_retune_s 1).pxProgram n d' r
      else s.pxProgram n d' r

/-- auto_f from the BD0-to-BD1 times of the last 16 revolutions; 0 until every facet has been measured, and where it does not apply (R198). -/
def State.cksAuto (s : State) (n : Nat) : State :=
  let l := (s.scn n).bdToBd1
  let fs := List.range (s.facetCount n)
  let mean : Nat → Nat := fun f =>
    let ts := ((l.filter fun x => x.1 == f).map fun x => x.2).take 16
    (ts.foldl (· + ·) 0) / max 1 ts.length
  let all := if (fs.map mean).all (· != 0) then (fs.map mean).foldl (· + ·) 0 / max 1 fs.length else 0
  s.each fs fun f s => s.wrS n (F.CKS_FACET_AUTO_auto f)
    (if s.autoTrim n ∧ all ≠ 0 then rdiv (((all : Int) - mean f) * 1048576) all else 0)

/-- The along-scan error estimate of a sweep on bypass, 1/64 pixel, for a base rate in 1/1000 Hz (R212). -/
def errEstimate (f : Nat) : Nat := cdivN (64 * f) 1000000000000

/-- The shadow of the facet trims and the linearisation table is copied into use (R204). -/
def State.cksCopy (s : State) (n : Nat) : State :=
  let s := s.shadowCopy n cksRanges
  s.wr40 n P.CKS_PX_LIN_SUM (s.linSum n)

/-- The apply command of CKS_PX_CMD (R204). The command waits for the sweep start of a running scanner. -/
def State.pxApply (s : State) (n : Nat) : State :=
  if s.on n F.SCN_STATUS_running then s.modCks n fun c => { c with applyPend := true } else s.cksCopy n

/-- PX_APPLY (R204). -/
def execPxApply (n : Nat) (s : State) : Out := .next (if s.stnPowered n then s.pxApply n else s)

/-- CKS_PX_CLEAR_COUNTERS (R215). -/
def State.pxClear (s : State) (n : Nat) : State :=
  s.clearAll n [F.CKS_PX_LOST_CNT_lost_cnt, F.CKS_PX_RELOCK_CNT_fail_cnt, F.CKS_PX_RELOCK_CNT_relock_cnt]

/-- CKS_PX_CLEAR_COUNTERS (R215). -/
def execCksPxClearCounters (n : Nat) (s : State) : Out := .next (if s.stnPowered n then s.pxClear n else s)

/-- CKS_SYS_CLEAR_COUNTERS (R214). -/
def execCksSysClearCounters (die : Nat) (s : State) : Out :=
  .next (if s.hasDie die then s.wr die F.CKS_SYS_LOST_CNT_lost_cnt 0 else s)

/-! ### Loss of lock (R209 to R211) -/

/-- PIXEL_PLL_LOSS_OF_LOCK (R211). -/
def execPixelPllLossOfLock (n : Nat) (s : State) : Out :=
  .next (if s.hasStn n && s.on n F.CKS_PX_STATUS_locked then s.pxLost n else s)

/-- The pixel PLL stops with its scanner (R214): the next one to run acquires from bypass, and computes its rate afresh. -/
def State.pxOff (s : State) (n : Nat) : State :=
  (((s.wr n F.CKS_PX_STATUS_locked 0).wr n F.CKS_PX_STATUS_bypass 1).wr n F.CKS_PX_STATUS_ramp 0).modCks n
    fun c => { c with px := 0, fpx := 0, modIn := 0, acc1 := 0, acc2 := 0, acc3 := 0, carry2 := 0, carry3 := 0, carry3' := 0, modOut := 0 }

/-- A fabric PLL leaves lock and its outputs go to bypass; a loop that was re-locking goes on from the second step of R208. -/
def State.sysBypass (s : State) (d : Nat) : State :=
  let now := s.now
  (((s.wr d F.CKS_SYS_STATUS_locked 0).wr d F.CKS_SYS_STATUS_bypass 1).wr d F.CKS_SYS_STATUS_ramp 0).modCks d
    fun c => { c with sys := min 1 c.sys, since := now }

/-- A fabric PLL is in lock and drives its outputs, as after the first acquisition of a start (R393). -/
def State.fabricUp (s : State) (d : Nat) : State :=
  ((s.wr d F.CKS_SYS_STATUS_locked 1).wr d F.CKS_SYS_STATUS_bypass 0).modCks d fun c => { c with sys := 0, osc := none }

/-- A station's safe-off falls at the end of the line in progress: at once where no sweep is in progress (R209). -/
def State.lineEndSafeOff (s : State) (n : Nat) : State :=
  if (s.scn n).inSweep then s.modCks 0 fun c => { c with lineEnd := if c.lineEnd.contains n then c.lineEnd else c.lineEnd ++ [n] }
  else s.safeOffDie n

/-- The hub's own safe-off follows the end of the last line in progress (R38, R209). -/
def State.hubLineEnd (s : State) : State := if (s.cks 0).lineEnd.isEmpty then s.safeOffDie 0 else s

/-- A station's line in progress has ended: its safe-off, and after the last one the hub's (R209). -/
def State.lineEnded (s : State) (n : Nat) : State :=
  if (s.cks 0).lineEnd.contains n then
    ((s.modCks 0 fun c => { c with lineEnd := c.lineEnd.filter (· ≠ n) }).safeOffDie n).hubLineEnd
  else s

/-- The hub-PLL row of R103 (R209): the hub runs on bypass, every station finishes its line, and the fault is held until it is cleared. -/
def State.hubPllLost (s : State) : State :=
  let s := (s.sysBypass 0).wr 0 F.CUE_STATUS_degraded 1
  let s := ((s.beginShadow .hubBypass).setActive 0 .cks true).each s.stns fun n s => s.lineEndSafeOff n
  ((s.hubLineEnd).modCks 0 fun c => { c with stopPend := true }).raiseF 0 .cks 0 0 s.framesInProgress true

/-- The fabric-PLL outcome of a station (R210): safe at once, the line in progress is cut, and the links stop with DLK and LNK (R33, R194). A
laser link without a clock is down until it is trained. -/
def State.stnPllLost (s : State) (n : Nat) : State :=
  let s := ((s.sysBypass n).setActive n .cks true).modCks n fun c => { c with sys := 1 }
  let s := ((s.wr n F.LSR_STATUS_link_up 0).modLsr n fun x => { x with train := 0 }).assertLine n .farEnd
  let s := if (s.scn n).inSweep then s.modSweep n fun w => { w with cut := true } else s
  let first := !(s.link n).lost && !(s.link n).hubLost
  let s := s.modLink n fun l => { l with lost := true, hubLost := true, flit := none }
  if first then s.linkLoss n else s.raiseF n .cks 0 13 s.framesInProgress

/-- A loss of lock is recorded. -/
def State.sysLostS (s : State) (d : Nat) : State := (s.wr d F.CKS_SYS_STATUS_lost_s 1).bump d F.CKS_SYS_LOST_CNT_lost_cnt

/-- SYSTEM_PLL_LOSS_OF_LOCK (R209): a loss during a re-lock sends the sequence back to its second step (R208). -/
def execSystemPllLossOfLock (s : State) : Out :=
  if 2 ≤ (s.cks 0).sys then .next ((s.sysLostS 0).sysBypass 0)
  else if s.on 0 F.CKS_SYS_STATUS_locked then .next (s.sysLostS 0).hubPllLost
  else .next s

/-- REFCLK_LOSS (R209, R210): no edge on a die for 200 ns. The rate of the internal oscillator is a free value within 25 MHz ± 20 %. -/
def execRefclkLoss (die : Nat) (s : State) : Out :=
  if !s.hasDie die then .next s
  else
    let held := s.on die F.CKS_SYS_STATUS_locked
    let (f, s) := (s.wr die F.CKS_SYS_STATUS_ref_lost_s 1).takeFree
    let s := s.modCks die fun c => { c with osc := some (20000 + f % 10001) }
    if !held then .next (s.sysBypass die)
    else if die = 0 then .next s.hubPllLost
    else .next (s.stnPllLost die)

/-- STATION_FABRIC_PLL_LOSS (R210). -/
def execStationFabricPllLoss (n : Nat) (s : State) : Out :=
  if !s.hasStn n then .next s
  else if 2 ≤ (s.cks n).sys then
    .next ((s.sysLostS n).sysBypass n)
  else if s.on n F.CKS_SYS_STATUS_locked then .next ((s.sysLostS n).stnPllLost n)
  else .next s

/-! ### Re-lock (R208, R209, R211) -/

/-- The lines that the present sweep of a station carries. -/
def State.linesCarried (s : State) (n : Nat) : List FetchRow :=
  (s.rin n).rows.filter fun r => decide (0 ≤ r.row ∧ r.row < ((s.sweep n).lines : Int))

/-- RELOCK_ATTEMPT (R211): at the active start of a sweep that carries no line. -/
def execRelockAttempt (n : Nat) (s : State) : Out :=
  if !s.hasStn n || !s.on n F.SCN_STATUS_running || s.on n F.CKS_PX_STATUS_locked || (s.cks n).px != 0 || !(s.scn n).inSweep
      || !(s.linesCarried n).isEmpty then .next s
  else
    let f := (s.cks n).fpx
    let seed := s.rd n F.CKS_PX_SEED_seed
    let bw := 250 * 2 ^ s.rd n F.CKS_PX_CFG_bw_sel
    let now := s.now
    let s := s.modCks n fun c => { c with px := 1, pxSince := now, lfsr := if seed = 0 then 1 else seed, bw := bw }
    .next (if s.rateOk n f then s.pxProgram n (lockDivider f) f else s)

/-- SYSTEM_PLL_RETRY (R209): 1 ms after the loss or the last attempt. -/
def execSystemPllRetry (s : State) : Out :=
  .next (if s.on 0 F.CKS_SYS_STATUS_locked || decide (s.now < (s.cks 0).since + 1000000) then s
    else s.modCks 0 fun c => { c with sys := 1, since := s.now })

/-- LOCK_ACQUIRED (R205, R208): of the pixel PLL or of the fabric PLL of a die, after 256 cycles, 10.24 µs, within 1 ns. The output leaves bypass at
16 times the final divider. -/
def execLockAcquired (die : Nat) (px : Bool) (s : State) : Out :=
  if px then
    .next (if s.hasStn die && (s.cks die).px == 1 && decide ((s.cks die).pxSince + 10240 ≤ s.now) then
      (((s.wr die F.CKS_PX_STATUS_locked 1).wr die F.CKS_PX_STATUS_ramp 1).wr die F.CKS_PX_STATUS_bypass 0).modCks die
        fun c => { c with px := 2, pxSince := s.now } else s)
  else
    .next (if s.hasDie die && (s.cks die).sys == 1 && decide ((s.cks die).since + 10240 ≤ s.now) then
      (((s.wr die F.CKS_SYS_STATUS_locked 1).wr die F.CKS_SYS_STATUS_ramp 1).wr die F.CKS_SYS_STATUS_bypass 0).modCks die
        fun c => { c with sys := 2, since := s.now } else s)

/-- A re-lock that has not ended 2 µs before a sweep start: the output stays on bypass (R211). -/
def State.pxRelockFail (s : State) (n : Nat) : State :=
  let s := ((s.wr n F.CKS_PX_STATUS_locked 0).wr n F.CKS_PX_STATUS_bypass 1).wr n F.CKS_PX_STATUS_ramp 0
  ((s.bump n F.CKS_PX_RELOCK_CNT_fail_cnt).modCks n fun c => { c with px := 0 }).reportC n .cks

/-- The output of the pixel PLL has its final value (R208, R211); later than 2 µs before a known sweep start it fails. -/
def State.pxFinal (s : State) (n : Nat) : State :=
  if (s.scn n).refAt.isSome && decide ((s.scn n).startAt < 16 * s.now + 32000) then s.pxRelockFail n
  else
    ((s.wr n F.CKS_PX_STATUS_ramp 0).bump n F.CKS_PX_RELOCK_CNT_relock_cnt).modCks n fun c => { c with px := 0 }

/-- The output of a fabric PLL has its final value; the hub is at full rate again (R208, R209). -/
def State.sysFinal (s : State) (d : Nat) : State :=
  let s := (s.wr d F.CKS_SYS_STATUS_ramp 0).modCks d fun c => { c with sys := 0, osc := none, since := s.now }
  let s := s.setActive d .cks false
  if d = 0 then s.wr 0 F.CUE_STATUS_degraded 0 else s

/-- DIVIDER_STEP (R208): 16, 8, 4 and 2 times the final divider, each for 64 reference cycles, then the final value. -/
def execDividerStep (die : Nat) (px : Bool) (s : State) : Out :=
  if px then
    let k := (s.cks die).px
    if !s.hasStn die || decide (k < 2) || decide (s.now < (s.cks die).pxSince + 2560) then .next s
    else if k < 5 then .next (s.modCks die fun c => { c with px := k + 1, pxSince := s.now })
    else .next (s.pxFinal die)
  else
    let k := (s.cks die).sys
    if !s.hasDie die || decide (k < 2) || decide (s.now < (s.cks die).since + 2560) then .next s
    else if k < 5 then .next (s.modCks die fun c => { c with sys := k + 1, since := s.now })
    else .next (s.sysFinal die)

/-! ### The dither of the modulator (R195, R196) -/

/-- One step of the 20-bit maximal-length LFSR. The manual names no polynomial: x^20 + x^17 + 1 (DESIGN CHOICE, log entry 214). -/
def lfsrNext (v : Nat) : Nat := (2 * v + b2n (v.testBit 19 != v.testBit 16)) % 1048576

/-- One cycle of the third-order MASH modulator (R195): three stages of one order, each of which adds up what the one before has left, and the
divider from their carries. The manual names the structure only (PRESUMED, log entry 260). -/
def Cks.mash (c : Cks) (x : Nat) : Cks :=
  let a := c.acc1 + x % 1048576
  let b := c.acc2 + a % 1048576
  let e := c.acc3 + b % 1048576
  let (p, q, r) := (a / 1048576, b / 1048576, e / 1048576)
  { c with modIn := x, acc1 := a % 1048576, acc2 := b % 1048576, acc3 := e % 1048576, carry2 := q, carry3 := r, carry3' := c.carry3,
           modOut := (x / 1048576 + p + q : Nat) - c.carry2 + r - 2 * c.carry3 + c.carry3' }

/-- A reference cycle of the pixel loop: the modulator's input is FW, with the dither one LSB above or below it (R195, R196). -/
def State.pxCycle (s : State) (n : Nat) : State :=
  if !s.on n F.CKS_PX_STATUS_locked && (s.cks n).px == 0 then s
  else
    let v := lfsrNext (s.cks n).lfsr
    let fw := s.pxFw n
    let x := if !s.on n F.CKS_PX_CFG_dither_en then fw else if v.testBit 0 then fw + 1 else fw - 1
    s.modCks n fun c => { c.mash x with lfsr := v }

end Sys2Proof.Machine
end

