-- ==== Sys2Proof/Machine/Lsr.lean ====
section
/-! DEFINITION. The laser channel (R216 to R240): link training, sweep and control frames, power control, the safe-off line, the beam watchdog
and the write window. -/

namespace Sys2Proof.Machine

/-! ### Frames of the link (R217 to R227) -/

/-- A control frame is sent. -/
def State.sendCtl (s : State) (n op : Nat) (payload : List Nat) : State :=
  let f := ctlFrame op payload
  s.modLsr n fun x => { x with control := x.control ++ [f], tx := x.tx ++ linkFrame .control .final f }

/-- An exposure-table entry in the form of a PAGE payload, read by a given function; an entry of code 0 is zero (R182, R193, R226). -/
def lutEntry (get : Fld → Nat) (t v : Nat) : Nat :=
  if v = 0 then 0
  else get (F.LPL_LUT_start t v) + 64 * min 64 (get (F.LPL_LUT_width t v)) + 8192 * get (F.LPL_LUT_power t v)

/-- The PAGE payload of the bank that a function reads (R226, R227). -/
def pagePayload (page : Nat) (get : Fld → Nat) : List Nat :=
  page :: (List.range 64).flatMap fun k => leBytes (lutEntry get (k / 16) (k % 16)) 3

/-- The configuration byte's two fields as CONFIG carries them (R226). -/
def State.configPayload (s : State) (n : Nat) : List Nat := [s.nBeams n, s.rd n F.LSR_CFG_lane_rate % 3, 0, 0]

def State.levelsPayload (s : State) (n : Nat) : List Nat := (List.range 64).flatMap fun i => leBytes (s.rd n (F.LSR_PWR_LVL_level i)) 2

def State.drivePayload (s : State) (n : Nat) : List Nat := (List.range (s.nBeams n)).flatMap fun k => leBytes (s.rd n (F.LSR_DRV_drv k)) 2

/-- The sweep header (R221). -/
def State.sweepHeader (s : State) (n : Nat) (blank : Bool) : List Nat :=
  let w := s.sweep n
  let p := (s.lsr n).page
  let b1 := b2n w.straddle * 128 + b2n w.rev * 64 + b2n blank * 32 + b2n (s.onBypass n) * 16 + p * 8
    + (if w.straddle then (1 - p) else p) * 4
  let h := [s.rd n F.LSR_SWEEP_SEQ_seq, b1, w.tblOld * 64 + w.tblNew * 16] ++ leBytes (if blank then 0 else s.activePx n) 2
    ++ [s.nBeams n, 0, 0] ++ (List.range (s.nBeams n)).map fun k => (s.beamDelay n k).2
  padWord (h ++ leBytes (crc16 h) 2)

/-- Two beams to a byte, the even beam above. -/
def packCodes : List Nat → List Nat
  | [] => []
  | [a] => [16 * a]
  | a :: b :: t => (16 * a + b) :: packCodes t

/-- The columns of a sweep (R222). -/
def State.sweepColumns (s : State) (n : Nat) : List (List Nat) :=
  let ks := List.range (s.nBeams n)
  let streams := ks.map fun k => (s.beamStream n k, s.beamStart n k)
  (List.range (s.activePx n)).map fun c =>
    leBytes (s.stamp n c) 2 ++ (if (s.sweep n).straddle then [s.columnBound n c] else [])
      ++ packCodes (streams.map fun x => slotOf x.1 x.2 c)

/-- SWEEP_FRAME_LAUNCH (R221 to R223): the frame of the present sweep, blank if the sweep is blank or the line is low (R233). -/
def execSweepFrameLaunch (n : Nat) (s : State) : Out :=
  if !s.hasStn n || !s.on n F.LSR_STATUS_link_up || !(s.scn n).inSweep || (s.lsr n).launched then .next s
  else
    let s := s.wr n F.LSR_SWEEP_SEQ_seq (s.rd n F.LSR_SWEEP_SEQ_seq + 1)
    let blank := (s.sweep n).blank || s.on n F.LSR_STATUS_lso || !s.on n F.LSR_STATUS_scan_ok
    let h := s.sweepHeader n blank
    let cols := if blank then [] else s.sweepColumns n
    let t := (s.sweep n).firstAt - 40960
    let s := s.modLsr n fun x => { x with launched := true, header := h, columns := cols, control := [], launchAt := t }
    let ws := s.sweepWords n .final
    .next (s.modLsr n fun x => { x with tx := ws })

/-! ### Training (R219, R220) -/

/-- Causes of R233 that hold LSR's own side of the line. -/
def State.ownCauses (s : State) (n : Nat) : List LineCause := (s.stn n).line.filter (· ≠ .farEnd)

/-- The training ordered set (R219): /A/, the lane numbers, the configuration byte and D10.2. -/
def State.trainingSet (s : State) (n : Nat) : List (List Nat) :=
  [LinkCtl.align.word, List.range 8, laneWord (4 * s.nBeams n + s.rd n F.LSR_CFG_lane_rate % 3), laneWord (10 + 32 * 2)]

/-- LSR sends training ordered sets: 20 µs after the first step, and only while no other cause holds the line (R220). -/
def State.setsSent (s : State) (n : Nat) : Bool :=
  (s.lsr n).train == 2 || ((s.lsr n).train == 1 && (s.ownCauses n).isEmpty && decide ((s.lsr n).trainAt + 20000 ≤ s.now))

/-- The second step of a training begins. -/
def State.sendSets (s : State) (n : Nat) : State :=
  if s.setsSent n then s.modLsr n fun x => { x with train := 2, tx := s.trainingSet n } else s

/-- Training begins with its first step: link_up clears, LSR sends /I/, and the far end holds the line low. -/
def State.startTraining (s : State) (n : Nat) : State :=
  let s := (s.wr n F.LSR_STATUS_link_up 0).modLsr n fun x => { x with train := 0 }
  let tmo := max 1 (s.rd n F.LSR_TRAIN_TMO_train_tmo)
  (s.assertLine n .farEnd).modLsr n fun x =>
    { x with train := 1, trainAt := s.now, test := none, tmo := tmo, control := [], tx := [LinkCtl.idle.word] }

/-- The train command, refused while FRM runs on a trained link (R220). -/
def State.trainCmd (s : State) (n : Nat) : State :=
  if s.frmRuns && s.on n F.LSR_STATUS_link_up then s.reject n .lsr F.LSR_STATUS_write_reject else s.startTraining n

/-- TRAIN (R220). -/
def execTrain (n : Nat) (s : State) : Out := .next (if s.stnPowered n then s.trainCmd n else s)

/-- FAR_END_RELEASE (R219, R220): the far end has aligned to the ordered sets, whose lane numbers and configuration byte it accepts. -/
def execFarEndRelease (n : Nat) (s : State) : Out :=
  .next (if s.hasStn n && s.setsSent n then ((s.sendSets n).modLsr n fun x => { x with train := 3 }).releaseLine n .farEnd else s)

/-- LSO_HIGH_1US (R220): CONFIG, LEVELS, PAGE for the active bank, DRIVE. -/
def execLsoHigh1us (n : Nat) (s : State) : Out :=
  if s.hasStn n && (s.lsr n).train == 3 && !s.on n F.LSR_STATUS_lso && decide ((s.lsr n).highAt + 1000 ≤ s.now) then
    let s := (s.sendCtl n 1 (s.configPayload n)).sendCtl n 2 (s.levelsPayload n)
    let s := (s.calRead n lutRange.1 lutRange.2 inUseCopy).calRead n 0xC0300 0xC0500 0
    let s := s.sendCtl n 3 (pagePayload (s.lsr n).page fun f => s.rd n f)
    .next ((s.sendCtl n 4 (s.drivePayload n)).modLsr n fun x => { x with train := 4, drvPend := false, pageOwed := false })
  else .next s

/-- LINK_UP (R220). -/
def execLinkUp (n : Nat) (s : State) : Out :=
  .next (if s.hasStn n && (s.lsr n).train == 4 then
    ((s.wr n F.LSR_STATUS_link_up 1).bump n F.LSR_TRAIN_CNT_ok_cnt).modLsr n fun x => { x with train := 0 } else s)

/-- TRAIN_TMO (R220): train_tmo of ordered sets without a release; the line stays asserted. -/
def execTrainTmo (n : Nat) (s : State) : Out :=
  if s.hasStn n && s.setsSent n && decide ((s.lsr n).trainAt + 20000 + 1000000 * (s.lsr n).tmo ≤ s.now) then
    let s := (((s.sendSets n).wr n F.LSR_STATUS_train_tmo_s 1).bump n F.LSR_TRAIN_CNT_fail_cnt).modLsr n fun x => { x with train := 0 }
    .next (s.report n .lsr 0 .u 0 [])
  else .next s

/-! ### Test (R226, R238, R240) -/

/-- A run of bits of a PRBS of a degree with a second tap, from a state of its register. -/
def prbsBits (deg tap : Nat) : Nat → Nat → List Nat
  | 0, _ => []
  | k + 1, v =>
    let b := b2n (v.testBit (deg - 1) != v.testBit (tap - 1))
    b :: prbsBits deg tap k ((2 * v + b) % 2 ^ deg)

/-- The words of a test pattern (R240), from the first one: PRBS-7 and PRBS-31 as data bytes from a register of all ones, D21.5, or K28.7. The
manual gives neither the polynomials, here x^7 + x^6 + 1 and x^31 + x^28 + 1, nor the order of their bits (PRESUMED, log entry 215). -/
def testWord (p k : Nat) : List Nat :=
  let bytes := fun (deg tap : Nat) =>
    let l := (prbsBits deg tap (64 * k + 64) (2 ^ deg - 1)).drop (64 * k)
    (List.range 8).map fun j => ((l.drop (8 * j)).take 8).foldl (fun a b => 2 * a + b) 0
  match p with
  | 0 => bytes 7 6
  | 1 => bytes 31 28
  | 2 => laneWord (21 + 32 * 5)
  | _ => laneWord (256 + 28 + 32 * 7)

/-- The test command, refused while SCN or FRM runs (R238). -/
def State.testCmd (s : State) (n : Nat) : State :=
  if s.on n F.SCN_STATUS_running || s.frmRuns then s.reject n .lsr F.LSR_STATUS_write_reject
  else
    let p := s.rd n F.LSR_TEST_pattern
    ((s.sendCtl n 0x0F [p]).wr n F.LSR_STATUS_link_up 0).modLsr n fun x =>
      { x with test := some p, train := 0, tx := x.tx ++ [testWord p 0] }

/-- TEST (R238). -/
def execTest (n : Nat) (s : State) : Out := .next (if s.stnPowered n then s.testCmd n else s)

/-- The test_stop command (R240): the pattern ends. -/
def State.testStop (s : State) (n : Nat) : State :=
  if (s.lsr n).test.isNone then s else s.modLsr n fun x => { x with test := none, tx := [LinkCtl.idle.word] }

/-- TEST_STOP (R240). -/
def execTestStop (n : Nat) (s : State) : Out := .next (if s.stnPowered n then s.testStop n else s)

/-- The clear_counters command (R240). -/
def State.lsrClear (s : State) (n : Nat) : State :=
  s.clearAll n [F.LSR_WD_CNT_wd_cnt, F.LSR_DRV_SAFEOFF_CNT_drv_cnt, F.LSR_FORBID_SWP_CNT_forbid_cnt, F.LSR_TRAIN_CNT_fail_cnt,
    F.LSR_TRAIN_CNT_ok_cnt]

/-- LSR_CLEAR_COUNTERS (R240). -/
def execLsrClearCounters (n : Nat) (s : State) : Out := .next (if s.stnPowered n then s.lsrClear n else s)

/-! ### The page of a job (R227) -/

/-- PAGE_SEND (R227): in an inactive interval, the armed bank's tables as the page that is not active; a page that is owed is sent from the
bank that holds it now. -/
def execPageSend (n : Nat) (s : State) : Out :=
  let x := s.lsr n
  let armed := s.on n F.CUE_BANK_STATUS_armed
  if !s.hasStn n || !s.on n F.LSR_STATUS_link_up || (s.scn n).inSweep then .next s
  else if armed && !x.pageSent then
    let s := s.calRead n lutRange.1 lutRange.2 armedCopy
    .next ((s.sendCtl n 3 (pagePayload (1 - x.page) fun f => s.rdArmed n f)).modLsr n fun x => { x with pageSent := true, pageOwed := false })
  else if x.pageOwed then
    let s := s.calRead n lutRange.1 lutRange.2 inUseCopy
    .next ((s.sendCtl n 3 (pagePayload x.page fun f => s.rd n f)).modLsr n fun x => { x with pageOwed := false })
  else .next s

/-! ### Power control (R229 to R232) -/

/-- Pulse length of a power-control pulse, µs. -/
def State.apcPulse (s : State) (n : Nat) : Nat := max 2 ((s.lsr n).pulseUs.getD (s.rd n F.LSR_APC_CFG_pulse_us))

/-- A PULSE frame launched at a time: its pulse begins 640 ns later (R226). -/
def State.pulseFrame (s : State) (n k power ns launch : Nat) : State :=
  (s.sendCtl n 5 ([k] ++ leBytes power 2 ++ leBytes 40960 2 ++ leBytes ns 2 ++ [0])).modLsr n
    fun x => { x with pulses := (x.pulses.filter fun p => decide (s.now < p.2 + 1000)) ++ [(launch + 640, launch + 640 + ns)] }

/-- A PULSE frame at set power for a beam (R226, R230). -/
def State.sendPulse (s : State) (n k : Nat) : State := s.pulseFrame n k 4096 (1000 * s.apcPulse n) s.now

/-- The time by which a pair of pulses has ended, 1/16 ns: 1 µs before the next BD0 window opens, or before the next sweep of a mirror
starts. The window of the coming sweep has passed once its BD0 is known (R230). -/
def State.apcUntil (s : State) (n : Nat) : Option Nat :=
  let x := s.scn n
  if s.rd n F.SCN_CFG_kind = 1 then some ((if x.refAt.isSome then x.startAt else x.startAt + x.halfPeriod) - 16000)
  else if x.refAt.isSome then none
  else x.bd0.map fun t =>
    let d := x.intervals[s.facetCount n - 1]?.getD (x.intervals.headD 0)
    t + d - max 1 (s.rd n F.SCN_BD_bd_win) * d / 1024 - 16000

/-- The next pair of the interval has its time: apc_dly after the active end, 1 µs after the last pulse, and it ends in time (R230). -/
def State.apcFits (s : State) (n : Nat) : Bool :=
  match (s.lsr n).endAt, s.apcUntil n with
  | some t, some u =>
    decide (t + (s.lsr n).apcDly ≤ s.now + 640 ∧ 16 * (s.now + 640 + 1000 * s.apcPulse n) ≤ u)
      && (s.lsr n).pulses.all fun p => decide (p.2 + 1000 ≤ s.now + 640)
  | _, _ => false

/-- The longest pulse of a PULSE frame, ns (R226). -/
abbrev pulseMost : Nat := 65535

/-- Assist pulses that follow one another through a window, from a start, ns: PULSE frames of two bytes of duration (R157, R226). -/
def assistRun (start ns : Nat) : List (Nat × Nat) :=
  (List.range (cdivN ns pulseMost)).map fun i => (start + pulseMost * i, min pulseMost (ns - pulseMost * i))

/-- The assist pulses whose launch is due are sent at the APC idle power, while SCN asks for them and no hardware holds the beam (R157, R229,
R233). -/
def State.assistStep (s : State) (n : Nat) : State :=
  let due := (s.lsr n).assists.filter fun a => decide (a.1 ≤ s.now + 640)
  if due.isEmpty then s
  else
    let s := s.modLsr n fun x => { x with assists := x.assists.filter fun a => !decide (a.1 ≤ s.now + 640) }
    if s.rd n F.SCN_STATUS_state = 2 ∧ s.on n F.LSR_STATUS_scan_ok ∧ s.on n F.LSR_STATUS_link_up ∧ !s.on n F.LSR_STATUS_lso then
      let k := s.rd n F.LSR_CFG_bd_beam
      let k := if k < s.nBeams n then k else 0
      s.each due fun a s => s.pulseFrame n k (s.rd n F.LSR_APC_LVL_apc_idle) a.2 (a.1 - 640)
    else s

/-- Power control may send pulses (R230). -/
def State.apcMay (s : State) (n : Nat) : Bool :=
  s.on n F.LSR_STATUS_link_up && s.on n F.LSR_STATUS_scan_ok && !s.on n F.LSR_STATUS_lso && !s.on n F.LSR_STATUS_forbid
    && !(s.scn n).inSweep && decide ((s.lsr n).apcSent < (s.lsr n).perSweep.getD (s.rd n F.LSR_APC_CFG_per_sweep)) && s.apcFits n

/-- APC_PULSE_PAIR (R230): one even and one odd beam, in beam order. -/
def execApcPulsePair (n : Nat) (s : State) : Out :=
  if !s.hasStn n || !s.apcMay n then .next s
  else
    let nb := s.nBeams n
    let x := s.lsr n
    let ks := if x.apcOdd < nb then [x.apcEven, x.apcOdd] else [x.apcEven]
    let s := s.each ks fun k s => s.sendPulse n k
    .next (s.modLsr n fun x => { x with
      apcSent := x.apcSent + 1, apcWait := x.apcWait ++ ks,
      apcEven := if x.apcEven + 2 < nb then x.apcEven + 2 else 0, apcOdd := if x.apcOdd + 2 < nb then x.apcOdd + 2 else 1 })

/-- The drive code of an output (R231). -/
def State.driveCode (s : State) (n : Nat) (out : Int) : Nat := min (s.rd n F.LSR_DRV_MAX_drv_max) (out / 128).toNat

/-- A beam whose drive is at its limit and whose power is low: APC_LIMIT on lim_n in a row, and again on as many more (R232). -/
def State.judgeLimit (s : State) (n k : Nat) (meas : Int) : State :=
  let low := s.rd n (F.LSR_DRV_drv k) == s.rd n F.LSR_DRV_MAX_drv_max && decide (16 * meas < 15 * s.rdS n (F.LSR_APC_SET_set k))
  let run := if low then ((s.lsr n).limRun.lookup k).getD 0 + 1 else 0
  let hit := low && decide (max 1 (s.rd n F.LSR_APC_LVL_lim_n) ≤ run)
  let s := s.modLsr n fun x => { x with limRun := assocSet x.limRun k (if hit then 0 else run) }
  if hit then
    (s.wr n F.LSR_STATUS_apc_lim_s 1).detect (.apcLimit n) n .lsr 5 .u (causeBit 19) (s.framesOn n)
  else s

/-- A drive code of a beam, with the output and the error that its next sample starts from: LSR stores them, and sends the code later (R231). -/
def State.driveTo (s : State) (n k code : Nat) (u e : Int) : State :=
  let s := ((s.wr n (F.LSR_DRV_drv k) code).ctlWrite n 5 (F.LSR_DRV_drv k).off).keepUnit n (.beam k)
  s.modLsr n fun y => { y with beams := assocSet y.beams k (u, e), drvPend := true }

/-- A slot of power control that is off, or has faulted, gives its safe output to the beam; under a write-forbid or a low line the drives are held
(R231, R237, R274; DEDUCED, log entry 262). -/
def State.apcSafe (s : State) (n i k : Nat) : State :=
  s.driveTo n k (s.driveCode n (s.slotSafe n i)) (q39 (s.slotSafe n i)) (((s.lsr n).beams.lookup k).getD (0, 0)).2

/-- A measurement of a beam triggers its slot with the beam's own output and error (R231, R259). -/
def State.apcMeasure (s : State) (n k : Nat) (meas : Int) : State :=
  let m := satS 20 meas
  let s := (s.calRead n (F.LSR_APC_SET_set k).off ((F.LSR_APC_SET_set k).off + 4) 0).useUnit n (.beam k)
  let s := (s.wrS n (F.LSR_APC_MEAS_meas k) m).modLsr n fun x => { x with apcWait := x.apcWait.erase k }
  let i := if k % 2 = 0 then s.rd n F.LSR_APC_CFG_slot0 else s.rd n F.LSR_APC_CFG_slot1
  let s :=
    if decide (i < 24) && s.on n (F.LPE_SLOT_CFG_ctx i) && s.rd n (F.LPE_SLOT_CFG_trig i) == 2 then
      let (u, e) := ((s.lsr n).beams.lookup k).getD (0, 0)
      if s.slotLive n i || s.laserBlocked n then
        s.slotOwnerTrigger n i { y := m, valid := true, r := s.rdS n (F.LSR_APC_SET_set k), u := u, e := e } (some k)
      else s.apcSafe n i k
    else s
  s.judgeLimit n k m

/-- LSR takes back the output of a slot that serves a beam (R231, R269). -/
def State.apcTake (s : State) (n i k : Nat) : State :=
  let x := s.slot n i
  s.driveTo n k (s.driveCode n x.out) x.u x.ePrev

/-- SLOT_UPDATE (R260): the sequencer, while its rate allows it, takes the ready slot of highest rank. -/
def execSlotUpdate (die : Nat) (adc : Int) (valid : Bool) (s : State) : Out :=
  match s.nextSlot die with
  | none => .next s
  | some i =>
    if lpeCapacity die ≤ (s.lpeRecent die).length then .next s
    else
      let ran := s.slotState die i == slotRun && s.on die (F.LPE_SLOT_CFG_ctx i)
      let s := (s.lpeTake die).slotRunUpdate die i adc valid
      .next (match (s.slot die i).chan with
        | some k => if ran && decide (1 ≤ die) then s.apcTake die i k else s
        | none => s)

/-- APC_MEASUREMENT (R230, R231). -/
def execApcMeasurement (n beam : Nat) (meas : Int) (s : State) : Out :=
  .next (if s.hasStn n && (s.lsr n).apcWait.contains beam then s.apcMeasure n beam meas else s)

/-- A host write of a drive code: power control continues from it (R231). -/
def State.drvWrite (s : State) (n k v : Nat) : State :=
  let e := (((s.lsr n).beams.lookup k).getD (0, 0)).2
  (s.useUnit n (.beam k)).driveTo n k v (((v % 4096 * 128 : Nat) : Int) * 1048576) e

/-- LSR_DRV_WRITE (R231). -/
def execLsrDrvWrite (n k v : Nat) (s : State) : Out := .next (if s.stnPowered n && decide (k < 40) then s.drvWrite n k v else s)

/-- Codes that wait are sent in one DRIVE frame as the inactive interval begins (R231). -/
def State.sendDrive (s : State) (n : Nat) : State :=
  if (s.lsr n).drvPend && s.on n F.LSR_STATUS_link_up then
    let s := s.calRead n 0xC0300 0xC0400 0
    (s.sendCtl n 4 (s.drivePayload n)).modLsr n fun x => { x with drvPend := false }
  else s

/-! ### The safe-off line, the watchdog and stray light (R233 to R236) -/

/-- The present sweep of a station is cut. -/
def State.cutSweep (s : State) (n : Nat) : State := if (s.scn n).inSweep then s.modSweep n fun w => { w with cut := true } else s

/-- DRV_SAFEOFF (R234): the far end has pulled the line low; training starts. -/
def execDrvSafeoff (n : Nat) (s : State) : Out :=
  if !s.hasStn n || s.on n F.LSR_STATUS_lso then .next s
  else
    let s := (s.wr n F.LSR_STATUS_drv_s 1).bump n F.LSR_DRV_SAFEOFF_CNT_drv_cnt
    let s := ((s.cutSweep n).addBlank n .farEnd).startTraining n
    .next (s.report n .lsr 1 .u (causeBit 8) (s.framesOn n))

/-- A transmitted column's stamp, its bound of a straddling sweep, and the code of a beam (R222). -/
def colStamp (c : List Nat) : Nat := c.getD 0 0 + 256 * c.getD 1 0
def colCode (straddle : Bool) (c : List Nat) (k : Nat) : Nat :=
  let b := c.getD ((if straddle then 3 else 2) + k / 2) 0
  if k % 2 = 0 then b / 16 else b % 16

/-- The 1/64 pixels that an entry of a table lights in its window (R224). -/
def lutLit (e : Nat) : Nat := min (e / 64 % 128) (64 - e % 64)

/-- What a beam's column lights: entry v of its job's table on its job's page (R222, R224). -/
def State.colLit (s : State) (n : Nat) (c : List Nat) (k : Nat) : Nat :=
  let w := s.sweep n
  let v := colCode w.straddle c k
  if w.straddle && decide (c.getD 2 0 ≤ k) then lutLit (lutEntry (fun f => s.rdArmed n f) w.tblNew v)
  else lutLit (lutEntry (fun f => s.rd n f) w.tblOld v)

/-- The on-time that the columns sent by a time command of a beam, 1/4096 ns: each column lasts to the next edge, the last as long as the one
before it (R224, R235). -/
def State.onTime (s : State) (n k t : Nat) : List (List Nat) → Nat → Nat → Nat
  | [], _, _ => 0
  | c :: rest, edge, d =>
    let d := match rest with
      | c' :: _ => (colStamp c' + 65536 - colStamp c % 65536) % 65536
      | [] => d
    if t < edge then 0 else d * s.colLit n c k + s.onTime n k t rest (edge + d) d

/-- A beam's count has crossed the bound of the sweep (R235). -/
def State.beamOver (s : State) (n : Nat) : Bool :=
  (s.lsr n).launched && (List.range (s.nBeams n)).any fun k =>
    decide ((s.sweep n).bound < 1000000 * s.onTime n k (64 * s.now) (s.lsr n).columns (s.sweep n).firstAt 0)

/-- The frame in progress is aborted: its columns end with /E/ (R217, R235). A column has been sent 320 ns before its edge (R225). -/
def State.abortFrame (s : State) (n : Nat) : State :=
  if (s.scn n).inSweep && (s.lsr n).launched then
    let t := 64 * (s.now + 320)
    let t0 := (s.sweep n).firstAt
    let byp := s.onBypass n
    let sent := ((s.lsr n).columns.zipIdx.filter fun c => decide (t0 + s.edgeTime n c.2 byp ≤ t)).map (·.1)
    let s := s.modLsr n fun x => { x with columns := sent }
    let ws := s.sweepWords n .abort
    s.modLsr n fun x => { x with tx := ws }
  else s

/-- The outcome of the beam-watchdog row of R103 (R235): the line is asserted, the sweep cut, and later sweeps blank. -/
def State.beamOff (s : State) (n : Nat) : State :=
  ((((s.bump n F.LSR_WD_CNT_wd_cnt).assertLine n .beam).cutSweep n).abortFrame n).addBlank n .beam

/-- BEAM_WATCHDOG (R235). -/
def execBeamWatchdog (n : Nat) (s : State) : Out :=
  if s.hasStn n && (s.scn n).inSweep && s.beamOver n then
    .next (((s.wr n F.LSR_STATUS_wd_s 1).beamOff n).report n .lsr 2 .u (causeBit 8) (s.framesOn n))
  else .next s

/-- STRAY_LIGHT (R236, R354): a photodiode reading, 1/4,096 of full scale, that has lasted for a time in ns, in the inactive interval outside
every commanded pulse and the 1 µs after it. A shadow keeps the report only. -/
def execStrayLight (n reading ns : Nat) (s : State) : Out :=
  if !s.hasStn n || (s.scn n).inSweep || ((s.lsr n).pulses.any fun p => decide (p.1 ≤ s.now ∧ s.now < p.2 + 1000)) || decide (ns < 100)
      || decide (reading ≤ (s.lsr n).strayThr.getD (s.rd n F.LSR_WD_stray_thr)) then .next s
  else
    let hidden := s.shadowed (.strayLight n)
    let s := (s.wr n F.LSR_STATUS_stray_s 1).beamOff n
    .next (if hidden then s.detect (.strayLight n) n .lsr 3 .u (causeBit 8) (s.framesOn n)
      else s.report n .lsr 3 .u (causeBit 8) (s.framesOn n))

/-! ### The write window (R237, R238) -/

/-- THM's signal rises: while a write-forbid is in effect the re-entry count starts. -/
def State.writeOkRise (s : State) (n : Nat) : State :=
  let t := s.rd n F.LSR_WRITE_REENTRY_TIME_reentry
  let s := (s.wr n F.LSR_STATUS_write_ok 1).modLsr n fun x => { x with okSince := some s.now, reentry := t }
  if s.on n F.LSR_STATUS_forbid then s.wr n F.LSR_STATUS_reentry 1 else s

/-- THM's signal falls: a count that runs is abandoned. -/
def State.writeOkFall (s : State) (n : Nat) : State :=
  ((s.wr n F.LSR_STATUS_write_ok 0).wr n F.LSR_STATUS_reentry 0).modLsr n fun x => { x with okSince := none }

/-- The sample of write_ok at a sweep start: a write-forbid takes effect from this sweep. -/
def State.sampleWriteOk (s : State) (n : Nat) : State :=
  if s.on n F.LSR_STATUS_write_ok then s
  else
    let s := s.addBlank n .writeForbid
    if s.on n F.LSR_STATUS_forbid then s
    else
      let s := (s.wr n F.LSR_STATUS_forbid 1).wr n F.LSR_STATUS_forbid_s 1
      (s.each (s.apcSlots n) fun i s => s.forceSlot n i).report n .lsr 4 .u (causeBit 2) []

/-- write_ok has stayed at 1 for the re-entry time (R237). -/
def State.reentryDue (s : State) (n : Nat) : Bool :=
  match (s.lsr n).okSince with
  | some t => decide (t + 1000000 * (s.lsr n).reentry ≤ s.now)
  | none => false

/-- REENTRY_COMPLETE (R237). -/
def execReentryComplete (n : Nat) (s : State) : Out :=
  .next (if s.hasStn n && s.on n F.LSR_STATUS_reentry && s.reentryDue n then
    ((s.wr n F.LSR_STATUS_reentry 0).wr n F.LSR_STATUS_forbid 0).releaseApc n else s)

end Sys2Proof.Machine
end

