-- ==== Sys2Proof/Machine/Trig.lean ====
section
/-! DEFINITION. Fixed-point sine, cosine and square root for the motor and scanner chapters: a turn is 2^20, results are in 2^-30. The manual
gives no precision for these; a polynomial of degree nine is used (DESIGN CHOICE, log entry 9). -/

namespace Sys2Proof.Machine

/-- sin of a quarter turn's fraction `x` in 2^-30, 0 to 1. -/
def sinQuarter (x : Int) : Int :=
  let x2 := x * x / 1073741824
  let h0 : Int := 168506
  let h1 := -5026995 + h0 * x2 / 1073741824
  let h2 := 85569300 + h1 * x2 / 1073741824
  let h3 := -693598700 + h2 * x2 / 1073741824
  let h4 := 1686629713 + h3 * x2 / 1073741824
  h4 * x / 1073741824

/-- sin of an angle of 2^-20 turn, in 2^-30. -/
def sinTurn (a : Nat) : Int :=
  let a := a % 1048576
  let q := a / 262144
  let r : Int := (a % 262144 : Nat)
  match q with
  | 0 => sinQuarter (r * 4096)
  | 1 => sinQuarter ((262144 - r) * 4096)
  | 2 => -sinQuarter (r * 4096)
  | _ => -sinQuarter ((262144 - r) * 4096)

/-- cos of an angle of 2^-20 turn, in 2^-30. -/
def cosTurn (a : Nat) : Int := sinTurn (a + 262144)

/-- The integer square root, by bisection over bits. -/
def isqrtAux (n : Nat) : Nat → Nat → Nat
  | 0, r => r
  | k + 1, r => isqrtAux n k (if (r + 2 ^ k) * (r + 2 ^ k) ≤ n then r + 2 ^ k else r)

/-- The integer square root of a number below 2^64. -/
def isqrt (n : Nat) : Nat := isqrtAux n 33 0

end Sys2Proof.Machine
end

