-- ==== Sys2Proof/Machine/Motor.lean ====
section
/-! DEFINITION. Motor drive: single-shunt sampling, the current and speed loops, catch and the reversal gate, the bus and its chopper, channel
faults and the channel commands (R291 to R313). Channel 4 of a station is the polygon channel of SCN. -/

namespace Sys2Proof.Machine

/-! ### Channels -/

/-- Channel states (R313). -/
def chOff : Nat := 0
def chCatch : Nat := 1
def chAlign : Nat := 2
def chRun : Nat := 3
def chBrake : Nat := 4
def chStopping : Nat := 5
def chHold : Nat := 6
def chCoast : Nat := 7

/-- The channels of a die (R291, R313). -/
def chanList (d : Nat) : List Nat := if d = 0 then [0, 1, 2, 3] else [0, 1, 4]

/-- A channel that exists on a die of the variant. -/
def State.hasChan (s : State) (d k : Nat) : Bool := s.hasDie d && (chanList d).contains k && (k != 4 || s.stnPowered d)

def State.chState (s : State) (d k : Nat) : Nat := s.rd d (F.MDR_CH_STATUS_state k)

/-- The summed bus power of a die (R305). -/
def State.busPower (s : State) (d : Nat) : Int := (chanList d).foldl (fun a k => a + (s.chan d k).power) 0

/-- The bus power of a die and the clamp of its channels, as the registers show them (R305, R312). -/
def State.busShow (s : State) (d : Nat) : State :=
  let was := s.on d F.MDR_STATUS_clamp
  let now := (chanList d).any fun j => s.on d (F.MDR_CH_STATUS_clamp j)
  let s := (s.wrS d F.MDR_BUS_P_p (s.busPower d)).wrB d F.MDR_STATUS_clamp now
  if now && !was then s.bump d F.MDR_CLAMP_CNT_clamp_cnt else s

/-- A channel takes a state; it runs in every state but OFF and COAST, in which no gate switches (R293, R308). A following error goes on through
the states from RUN to HOLD, and a rest of the web through RUN and BRAKE; rev_hold stands in BRAKE alone (R300, R304, R309). -/
def State.chTo (s : State) (d k st : Nat) : State :=
  let s := (s.wr d (F.MDR_CH_STATUS_state k) st).wrB d (F.MDR_CH_STATUS_running k) (st != chOff && st != chCoast)
  let s := s.wrB d (F.MDR_CH_STATUS_rev_hold k) (st == chBrake)
  let drives := decide (chRun ≤ st ∧ st ≤ chHold)
  let s := s.modChan d k fun c => { c with
    folAt := if drives then c.folAt else none, folAng := drives && c.folAng, fromGate := false, offs := [],
    holdAt := if st = chRun ∨ st = chBrake then c.holdAt else none }
  if st = chOff ∨ st = chCoast then
    let s := s.modChan d k fun c => { c with power := 0, want := 0, edges := [], lows := [], shuntAt := [], unload := none }
    (((s.wr d (F.MDR_CH_STATUS_fw k) 0).wr d (F.MDR_CH_STATUS_sat k) 0).wr d (F.MDR_CH_STATUS_clamp k) 0).busShow d
  else s

/-- The role of a channel (R291). -/
def State.role (s : State) (d k : Nat) : Nat := s.rd d (F.MDR_CH_CFG_role k)

/-- The hub channel with role web, if any (R291). -/
def State.webChannel (s : State) : Option Nat := [0, 1, 2, 3].find? fun k => s.role 0 k == 0

/-- A role takes a reference mode (R291). -/
def roleMode (role mode : Nat) : Bool :=
  match role with
  | 0 => mode == 0 || mode == 1
  | 1 => mode == 0 || mode == 1 || mode == 2
  | 2 => mode == 0 || mode == 1 || mode == 2
  | 3 => mode == 0 || mode == 1 || mode == 3
  | 4 => mode == 0 || mode == 1
  | 5 => mode == 0
  | _ => true

/-- The PWM period in ns: f_pwm clamped to 8 to 64 kHz (R293). -/
def State.pwmPeriod (s : State) (d k : Nat) : Nat := 1000000 / max 8 (min 64 (s.rd d (F.MDR_CH_PWM_f_pwm k)))

/-- The dead time and the sampling time as they act, ns (R313). -/
def State.deadTime (s : State) (d k : Nat) : Nat := max 50 (min 2000 (s.rd d (F.MDR_CH_PWM_dt k)))
def State.smpTime (s : State) (d k : Nat) : Nat := max 100 (s.rd d (F.MDR_CH_SMP_t_smp k))

/-- The least usable window, ns (R294). -/
def State.minWindow (s : State) (d k : Nat) : Nat := s.deadTime d k + s.rd d (F.MDR_CH_SMP_t_settle k) + s.smpTime d k

/-- The interval of a speed sample, ns (R299). -/
def State.speedInterval (s : State) (d k : Nat) : Nat := max 1 (s.rd d (F.MDR_CH_SPD_DIV_spd_div k)) * s.pwmPeriod d k

/-- The part acts on a channel's slots: those that drive it are forced or released (R271, R308). -/
def State.forceMotor (s : State) (d k : Nat) : State := s.forceOnto d fun dst => motorCode d dst == some k
def State.releaseMotor (s : State) (d k : Nat) : State := s.releaseOnto d fun dst => motorCode d dst == some k

/-! ### Stops and faults (R291, R308) -/

/-- The controlled ramp to zero begins; hold_ms is that of the stop (R308, R313). -/
def State.chRampDown (s : State) (d k : Nat) : State :=
  (s.chTo d k chStopping).modChan d k fun c => { c with holdMs := s.rd d (F.MDR_CH_HOLD_hold_ms k) }

/-- A channel at rest holds zero (R308, R309). -/
def State.chToHold (s : State) (d k : Nat) : State := (s.chTo d k chHold).modChan d k fun c => { c with holdAt := some s.now }

/-- The channel stops: coast, or the controlled ramp to zero, which goes on where it has begun (R308). -/
def State.chStop (s : State) (d k : Nat) (coast : Bool) : State :=
  let st := s.chState d k
  let s := if coast then s.chTo d k chCoast else if st = chStopping ∨ st = chHold then s else s.chRampDown d k
  let s := s.forceMotor d k
  let s := s.beginShadow (.motorStop d k)
  if d = 0 ∧ s.role 0 k = 0 then s.beginShadow .webStop else s

/-! ### The scanner as its motor channel acts on it (R156, R157, R166) -/

/-- Scanner states (R156). -/
def scOff : Nat := 0
def scSpinup : Nat := 1
def scSearch : Nat := 2
def scAcquire : Nat := 3
def scLocked : Nat := 4
def scRephase : Nat := 5
def scRelock : Nat := 6
def scHalt : Nat := 7

/-- Scanner kinds: 0 polygon, 1 resonant, others none (R173). -/
def State.isPolygon (s : State) (n : Nat) : Bool := s.rd n F.SCN_CFG_kind == 0
def State.isResonant (s : State) (n : Nat) : Bool := s.rd n F.SCN_CFG_kind == 1

def State.scState (s : State) (n : Nat) : Nat := s.rd n F.SCN_STATUS_state

/-- A grid runs in states 3 to 6 (R154, R156). -/
def State.scRuns (s : State) (n : Nat) : Bool := decide (3 ≤ s.scState n ∧ s.scState n ≤ 6)

/-- Limits of the rotation and the pull fraction as they act (R173). -/
def State.rpmMin (s : State) (n : Nat) : Nat := max 1000 (s.rd n F.SCN_RPM_MIN_rpm_min)
def State.rpmMax (s : State) (n : Nat) : Nat := min 40000 (s.rd n F.SCN_RPM_MAX_rpm_max)
def State.pull (s : State) (n : Nat) : Nat := max 5 (min 50 (s.rd n F.SCN_RES_CFG_pull))

/-- The scanner takes a state (R156, R169); its pixel PLL runs while it runs (R214). The time of R170 runs from SPINUP, or from SEARCH where another state came before (DESIGN CHOICE, log
entry 208). -/
def State.scTo (s : State) (n st : Nat) : State :=
  let s := s.wrB n F.SCN_STATUS_running (decide (3 ≤ st ∧ st ≤ 6))
  let s := if 3 ≤ st ∧ st ≤ 6 then s else s.wr n F.SCN_STATUS_lock_ok 0
  let t := if st = scSpinup ∨ (st = scSearch ∧ s.scState n ≠ scSpinup) then s.now else (s.scn n).spinAt
  let s := if st = scOff ∨ st = scHalt then s.pxOff n else s
  (s.wr n F.SCN_STATUS_state st).modScn n fun x => { x with run := 0, settled := 0, lockNext := false, spinAt := t }

/-- scan_ok falls in a sweep that is written: LSR holds every beam off, so the rest of the sweep is cut, and the frames that own its rows are
flagged as those of a sweep that begins without scan_ok are (R103, R157; DEDUCED, log entry 263). -/
def State.scanCut (s : State) (n : Nat) : State :=
  if (s.scn n).inSweep && s.on n F.LSR_STATUS_scan_ok && !(s.sweep n).blank && !(s.sweep n).cut then
    ((s.abortFrame n).cutSweep n).flagFrames (s.sweep n).owners n (causeBit 9)
  else s

/-- scan_ok, as SCN drives it and LSR shows it (R157). -/
def State.scanOk (s : State) (n : Nat) (b : Bool) : State :=
  let s := if b then s else s.scanCut n
  (s.wrB n F.SCN_STATUS_scan_ok b).wrB n F.LSR_STATUS_scan_ok b

/-- The facet, or the stable mirror, is to be found again (R166). -/
def State.forgetFacet (s : State) (n : Nat) : State :=
  s.modScn n fun x =>
    { x with intervals := [], bdCount := 0, facetKnown := false, fidBad := 0, stable := [], refAt := none, err := none }

/-- The frames in progress on a station that have lines to come after the sweep in progress, the ones whose first sweep has not begun among them
(R166). -/
def State.framesLeft (s : State) (n : Nat) : List Nat :=
  ((s.rin n).frames.filter fun f => (f.started || f.cued) && !f.ended && !f.outside && (match (s.scn n).grid with
    | some g => decide (f.lineAt g.target < (f.lines : Int)) || f.addr != g.addr
    | none => true)).map (·.id)

/-- The scanner-lock outcome (R103, R166): the lines to come of the frames in progress stay blank and flag them with cause 9, and later sweeps
blank. A detector that a reaction shadow covers is not reported (R354). -/
def State.lockOutcome (s : State) (n : Nat) (x : Option Detector) : State :=
  let ids := s.framesLeft n
  let s := ((s.wr n F.SCN_EVENT_lock_lost_s 1).bump n F.SCN_LOCK_LOST_CNT_lost).addBlank n .scanner
  let s := (s.each ids fun id s => s.modSFrame n id fun y => { y with blanked := true }).flagFrames ids n (causeBit 9)
  let s := match x with
    | some x => s.detect x n .scn 0 .u (causeBit 9) ids
    | none => s.report n .scn 0 .u (causeBit 9) ids
  s.beginShadow (.scnLost n)

/-- The polygon turns at rpm_min or faster: by motor feedback, or by the last BD0 interval where that edge is no older than such an interval
(R157). -/
def State.polyMoves (s : State) (n : Nat) : Bool :=
  let least := s.rpmMin n
  let slow := least * s.facetCount n
  let x := s.scn n
  decide (8 * least ≤ (s.rdS n (F.MDR_CH_SPEED_speed 4)).natAbs)
    || (match x.intervals.head?, x.bd0 with
      | some t, some b => decide (0 < t ∧ t * slow ≤ 960000000000 ∧ (16 * s.now - b) * slow ≤ 960000000000)
      | _, _ => false)

/-- scan_ok of a polygon follows its speed (R157). -/
def State.polyOk (s : State) (n : Nat) : State :=
  if s.isPolygon n then
    (s.scanOk n (s.polyMoves n)).wrSat n F.SCN_SPEED_speed (rdiv ((s.rdS n (F.MDR_CH_SPEED_speed 4)).natAbs : Int) 8).toNat
  else s

/-- The polygon channel has a fault: SCN_MOTOR takes the scanner to HALT and, if it was locked, the lock is lost with cause 9 (R166, R172). A
detector that a shadow covers is not reported (R354). -/
def State.scnMotor (s : State) (n : Nat) (x : Option Detector) : State :=
  let locked := decide (scLocked ≤ s.scState n ∧ s.scState n ≤ scRelock)
  let s := (((s.wr n F.SCN_EVENT_motor_s 1).scTo n scHalt).scanOk n false).forgetFacet n
  if locked then s.lockOutcome n x
  else
    let s := s.beginShadow (.scnLost n)
    match x with
    | some x => s.detect x n .scn 0 .u 0 []
    | none => s.report n .scn 0 .u 0 []

/-- f_active of MDR: the bus above trip, a shorted chopper, and on the hub, whose channel faults are F, a fault whose condition persists: GFLT_N
low, feedback lost, or the bus low for 1 ms (R291, R311, R343). -/
def State.mdrActive (s : State) (d : Nat) : State :=
  let isOver := decide (s.rd d F.MDR_BUS_TRIP_trip < s.rd d F.MDR_BUS_V_v)
  let persists := fun (k : Nat) => (s.chan d k).faulted
    && ((s.chan d k).gateLow || (s.chan d k).fbBad || decide (1000 ≤ (s.bus d).uvRun))
  s.setActive d .mdr (isOver || (d == 0 && (s.on 0 F.MDR_STATUS_chop_short || (chanList 0).any persists)))

/-- The report of a channel fault has the class of the channel's role (R291): F on the hub; on a station the drum or developer row of R103, and
SCN_MOTOR for the polygon. A fault that a shadow covers is counted and not reported. -/
def State.chReport (s : State) (d k : Nat) (evt : Fld) (x : Option Detector) : State :=
  let s := ((s.wr d evt 1).bump d (F.MDR_CH_FLT_CNT_flt k)).modChan d k fun c => { c with faulted := true }
  if d = 0 then
    let s := s.mdrActive 0
    match x with
    | some x => s.detectF x 0 .mdr k 6 s.framesInProgress
    | none => s.raiseF 0 .mdr k 6 s.framesInProgress
  else if k = 4 then s.scnMotor d x
  else
    let role := s.role d k
    let s := ((s.hvSafeOff d (.motor role)).assertLine d (.motor role)).addBlank d (.motor role)
    match x with
    | some x => s.detect x d .mdr k .u (causeBit 6) []
    | none => s.report d .mdr k .u (causeBit 6) []

/-- Channels of a die have a fault: each that drives is reported, and then they stop. The shadows of these stops begin after the detection
(R308, R354). -/
def State.chFaults (s : State) (d : Nat) (ks : List Nat) (evt : Nat → Fld) (coast : Bool) (x : Nat → Option Detector) : State :=
  let ks := ks.filter fun k => s.chState d k != chOff && s.chState d k != chCoast
  (s.each ks fun k s => s.chReport d k (evt k) (x k)).each ks fun k s => s.chStop d k coast

/-- A channel fault (R308). -/
def State.chFault (s : State) (d k : Nat) (evt : Nat → Fld) (coast : Bool) (x : Option Detector) : State :=
  s.chFaults d [k] evt coast fun _ => x

/-! ### The current loop (R294 to R298) -/

/-- Positions of the largest, middle and smallest duty. -/
def dutyOrder (a b c : Int) : Nat × Nat × Nat :=
  if b ≤ a then (if c ≤ b then (0, 1, 2) else if c ≤ a then (0, 2, 1) else (2, 0, 1))
  else (if c ≤ a then (1, 0, 2) else if c ≤ b then (1, 2, 0) else (2, 1, 0))

/-- The phase currents from the two shunt readings: +i of the largest duty, −i of the smallest (R294, R296). -/
def phaseCurrents (duty : List Int) (i1 i2 : Int) : List Int :=
  let (hi, mid, lo) := dutyOrder (duty.getD 0 0) (duty.getD 1 0) (duty.getD 2 0)
  ((([0, 0, 0] : List Int).set hi i1).set lo (-i2)).set mid (i2 - i1)

/-- Clarke and Park transforms of two phase currents at an electrical angle: i_d and i_q (R297). -/
def park (ia ib : Int) (th : Nat) : Int × Int :=
  let ibeta := rdiv ((ia + 2 * ib) * 100000000) 173205081
  let c := cosTurn th
  let n := sinTurn th
  (rdiv (ia * c + ibeta * n) 1073741824, rdiv (ibeta * c - ia * n) 1073741824)

/-- The inverse transforms: the three phase voltages. -/
def unpark (vd vq : Int) (th : Nat) : Int × Int × Int :=
  let c := cosTurn th
  let n := sinTurn th
  let va := rdiv (vd * c - vq * n) 1073741824
  let vb := rdiv (vd * n + vq * c) 1073741824
  let h := rdiv (vb * 173205081) 200000000
  (va, -(va / 2) + h, -(va / 2) - h)

/-- The increment of a law of the form of R263 with gain 1.0 and no feed-forward, in Q1.39; `t` in ns (R297, R300). -/
def piStep (kp ki : Nat) (t : Nat) (e ePrev : Int) : Int :=
  satS 40 (kp * (e - ePrev) * 256 + rdiv (ki * t * e) 1000)

/-- The voltage a period can make, Q1.19 of the nominal bus over √3 (R295). -/
def State.vAvail (s : State) (d k : Nat) : Int :=
  let f := 1000000 / s.pwmPeriod d k
  let room : Int := 1000000 - 4 * s.minWindow d k * f
  max 0 (rdiv ((s.rd d F.MDR_BUS_V_v : Int) * 524288 * room) (max 1 (s.rd d F.MDR_BUS_NOM_nom) * 1000000))

/-- Duties of the three phases with min-max injection, 2^-20 of the period (R293). -/
def State.duties (s : State) (d : Nat) (v : Int × Int × Int) : List Int :=
  let (a, b, c) := v
  let inj := (max a (max b c) + min a (min b c)) / 2
  let bus := s.rd d F.MDR_BUS_V_v * 173205081
  let one := fun (x : Int) => if bus = 0 then 524288
    else clampI 0 1048576 (524288 + rdiv ((x - inj) * 2 * s.rd d F.MDR_BUS_NOM_nom * 100000000) bus)
  [one a, one b, one c]

/-- The windows of a period that are shorter than the least usable one (R295). -/
def shortWindows (duty : List Int) (period wmin : Nat) : Nat :=
  let (hi, mid, lo) := dutyOrder (duty.getD 0 0) (duty.getD 1 0) (duty.getD 2 0)
  let len := fun (a b : Int) => (a - b) * period / 2097152
  b2n (decide (len (duty.getD hi 0) (duty.getD mid 0) < wmin)) + b2n (decide (len (duty.getD mid 0) (duty.getD lo 0) < wmin))

/-- The edges of the phases in a period whose short windows are widened: the largest phase moves earlier and the smallest later, each with its
on-time (R293, R295), ns. -/
def pwmEdges (duty : List Int) (period wmin : Nat) : List (Int × Int) :=
  let (hi, mid, lo) := dutyOrder (duty.getD 0 0) (duty.getD 1 0) (duty.getD 2 0)
  let half := fun (k : Nat) => (duty.getD k 0) * period / 2097152
  let c : Int := period / 2
  let w1 := half hi - half mid
  let w2 := half mid - half lo
  (List.range 3).map fun k =>
    let move := if k = hi ∧ w1 < wmin then w1 - wmin else if k = lo ∧ w2 < wmin then wmin - w2 else 0
    (c - half k + move, c + half k + move)

/-- The instants of the two shunt samples: t_smp before the windows end, at the turn-on of the middle and of the smallest phase (R294). -/
def shuntTimes (duty : List Int) (edges : List (Int × Int)) (smp : Nat) : List Int :=
  let (_, mid, lo) := dutyOrder (duty.getD 0 0) (duty.getD 1 0) (duty.getD 2 0)
  [(edges.getD mid (0, 0)).1 - smp, (edges.getD lo (0, 0)).1 - smp]

/-- The edges of the high sides as the gates make them: a turn-on comes the dead time later (R293). -/
def gateEdges (edges : List (Int × Int)) (dt : Nat) : List (Int × Int) := edges.map fun e => (e.1 + dt, e.2)

/-- The edges of the low sides, which are on otherwise: off with the high side's turn-on, and on the dead time after its turn-off (R293). -/
def lowEdges (edges : List (Int × Int)) (dt : Nat) : List (Int × Int) := edges.map fun e => (e.1, e.2 + dt)

/-- The regeneration clamp is in force: always on a station with nothing to dissipate, on the hub after CHOPPER_FAULT (R305). -/
def State.clampOn (s : State) (d : Nat) : Bool := decide (d ≠ 0) || (s.bus 0).chopFault

/-- The power that regeneration may return, W. -/
def State.pDiss (s : State) (d : Nat) : Int := if d = 0 then s.rd 0 F.MDR_P_DISS_p_diss else 0

/-- The regenerative current under the clamp: scaled by the common factor that keeps the sum at −P_diss. The powers are those that the references
would make without it, at the voltages of each channel's last period (R305; DESIGN CHOICE, log entry 266). -/
def State.clampCurrent (s : State) (d k : Nat) (iq : Int) : Int × Bool :=
  let ks := chanList d
  let regen := ks.foldl (fun a j => a + min 0 (s.chan d j).want) 0
  let motor := ks.foldl (fun a j => a + max 0 (s.chan d j).want) 0
  if s.clampOn d && decide ((s.chan d k).want < 0) && decide (regen + motor < -s.pDiss d) then
    (iq * (motor + s.pDiss d) / max 1 (-regen), true)
  else (iq, false)

/-- The current references of a period: alignment current, or the demand under the current circle and field weakening (R298, R303). -/
def State.currentRefs (s : State) (d k : Nat) : Int × Int × Bool :=
  let c := s.chan d k
  let lim : Int := s.rd d (F.MDR_CH_ILIM_i_lim k)
  let t := c.periods * s.pwmPeriod d k
  if s.chState d k = chAlign then (lim / 2 * min t 20000000 / 20000000, 0, false)
  else
    let idRef := max c.idRef (-(min lim (s.rd d (F.MDR_CH_FW_MAX_fw_max k))))
    let bound : Int := isqrt (lim * lim - idRef * idRef).toNat
    let iq := clampI (-bound) bound c.iqDemand
    let r := s.rd d (F.MDR_CH_STATUS_catch_result k)
    let iq' := if s.on d (F.MDR_CH_CFG_catch_en k) ∧ (r = 1 ∨ r = 2) ∧ t < 1000000 then iq * t / 1000000 else iq
    (idRef, iq', iq != c.iqDemand)

/-- The field-weakening regulator (R298). -/
def State.weaken (s : State) (d k : Nat) (vmag vav : Int) : Int :=
  let c := s.chan d k
  let excess := vmag - rdiv (vav * s.rd d (F.MDR_CH_FW_fw_thr k)) 1000
  let m : Int := min (s.rd d (F.MDR_CH_FW_MAX_fw_max k)) (s.rd d (F.MDR_CH_ILIM_i_lim k))
  clampI (-m) 0 (c.idRef - rdiv (excess * s.rd d (F.MDR_CH_FW_fw_ki k)) 65536)

/-- The rest of what the feedback did in the period that ends, and what it does in the one that begins. -/
def State.fbTake (s : State) (d k : Nat) (m : PwmSample) : State :=
  let s := (s.modChan d k fun c => { c with fbq := [] }).each (s.chan d k).fbq fun e s => s.fbEvent d k e.1 e.2
  let t := s.tbNow d
  s.modChan d k fun c => { c with fbq := m.fb.map fun e => (t + e.1, e.2) }

/-- The feedback at a period's start: the mechanical angle, the angle turned since the last start, and whether the feedback is lost (R299). -/
def State.chAngle (s : State) (d k : Nat) (m : PwmSample) : State :=
  let c := s.chan d k
  let kind := s.rd d (F.MDR_CH_CFG_fb_kind k)
  let a := (c.mech + 1048576 - c.zero % 1048576) % 1048576
  let step := sgn 20 (a + 1048576 - c.angle)
  let bad := kind == 0 && (c.hall == 0 || c.hall == 7)
  let lost := (bad && c.hallBad) || ((kind == 1 || kind == 2) && (c.enc.due || c.zBad))
    || (kind == 3 && k == 4 && decide (m.amp < c.bemfMin)
      && decide (8 * s.rd d (F.MDR_CH_SPD_MAX_spd_max k) < 20 * (s.rdS d (F.MDR_CH_SPEED_speed k)).natAbs))
  let s := s.modChan d k fun c => { c with
    angle := a, turned := c.turned + step, hallBad := bad, zBad := false, enc := { c.enc with due := false }, fbBad := lost, gateLow := m.gflt,
    since := c.since + 1 }
  let s := if d = 0 then s.mdrActive 0 else s
  s.wr d (F.MDR_CH_EANGLE_angle k) (a * (s.rd d (F.MDR_CH_CFG_pole_pairs k) + 1))

/-- The bus power of a channel, W: 1.5 (v_d i_d + v_q i_q) (R305). -/
def State.chPower (s : State) (d k : Nat) (vd vq id iq : Int) : Int :=
  let v := s.rd d F.MDR_BUS_NOM_nom
  let i := s.rd d (F.MDR_CH_IFS_i_fs k)
  rdiv (3 * (vd * id + vq * iq) * v * i * 100000000) (2 * 524288 * 524288 * 1000 * 173205081)

/-- One PWM period of a driven channel (R294 to R298). -/
def State.chPeriod (s : State) (d k : Nat) (m : PwmSample) : State :=
  let c := s.chan d k
  let t := s.pwmPeriod d k
  let th := if s.chState d k = chAlign then 0 else s.rd d (F.MDR_CH_EANGLE_angle k)
  let cur := phaseCurrents c.duty (m.i1 - c.offset) (m.i2 - c.offset)
  let (id, iq) := park (cur.getD 0 0) (cur.getD 1 0) th
  let (idRef, iqRef0, satI) := s.currentRefs d k
  let want := s.chPower d k (s.rdS d (F.MDR_CH_VD_v_d k)) (s.rdS d (F.MDR_CH_VQ_v_q k)) idRef iqRef0
  let s := s.modChan d k fun c => { c with want := want }
  let (iqRef, clamped) := s.clampCurrent d k iqRef0
  let ed := satS 20 (idRef - id)
  let eq := satS 20 (iqRef - iq)
  let kp := s.rd d (F.MDR_CH_KP_I_kp_i k)
  let ki := s.rd d (F.MDR_CH_KI_I_ki_i k)
  let ud := satS 40 (c.ud + piStep kp ki t ed c.ed)
  let uq := satS 40 (c.uq + piStep kp ki t eq c.eq)
  let vav := s.vAvail d k
  let vd0 := slotRound ud
  let vq0 := slotRound uq
  let vd := clampI (-vav) vav vd0
  let room : Int := isqrt (vav * vav - vd * vd).toNat
  let vq := clampI (-room) room vq0
  let limited := decide (vd ≠ vd0 ∨ vq ≠ vq0)
  let vmag : Int := isqrt (vd * vd + vq * vq).toNat
  let weak := if s.chState d k = chAlign then 0 else s.weaken d k vmag vav
  let duty := s.duties d (unpark vd vq th)
  let shorts := shortWindows duty t (s.minWindow d k)
  let edges := pwmEdges duty t (s.minWindow d k)
  let gates := gateEdges edges (s.deadTime d k)
  let lows := lowEdges edges (s.deadTime d k)
  let shunt := shuntTimes duty edges (s.smpTime d k)
  let p := s.chPower d k vd vq id iq
  let s := s.modChan d k fun c => { c with ud := if limited then c.ud else ud, uq := if limited then c.uq else uq, ed := ed, eq := eq,
                                           idRef := weak, duty := duty, power := p, periods := c.periods + 1, edges := gates, lows := lows,
                                           shuntAt := shunt }
  let s := ((((s.wrS d (F.MDR_CH_ID_i_d k) id).wrS d (F.MDR_CH_IQ_i_q k) iq).wrS d (F.MDR_CH_VD_v_d k) vd).wrS d (F.MDR_CH_VQ_v_q k) vq)
  let s := ((s.wrB d (F.MDR_CH_STATUS_fw k) (decide (weak < 0))).wrB d (F.MDR_CH_STATUS_sat k) (satI || limited)).wrB d
    (F.MDR_CH_STATUS_clamp k) clamped
  (s.bump d (F.MDR_CH_MVW_CNT_mvw k) shorts).busShow d

/-- An estimate of CATCH (R303). -/
def State.chEstimate (s : State) (d k : Nat) (m : PwmSample) : State :=
  s.modChan d k fun c => { c with ests := (m.amp, m.speed, m.eangle) :: c.ests.take 3, periods := c.periods + 1 }

/-- What a channel does in a period: in OFF it takes a shunt sample for its offset, and a lost feedback coasts it while it runs (R296, R299,
R308). -/
def State.chPwm (s : State) (d k : Nat) (m : PwmSample) : State :=
  let st := s.chState d k
  if st = chOff then s.modChan d k fun c => { c with offs := (m.i1 :: c.offs).take 256 }
  else if st = chCoast then s
  else if (s.chan d k).fbBad then s.chFault d k F.MDR_CH_EVENT_fb_s true (some (.fbLoss d k))
  else if st = chCatch then s.chEstimate d k m
  else s.chPeriod d k m

/-- PWM_PERIOD (R293): the feedback is taken in every state. -/
def execPwmPeriod (die ch : Nat) (m : PwmSample) (s : State) : Out :=
  if !s.hasChan die ch then .next s
  else .next (s.withUnit die (.chan ch) fun s => ((s.fbTake die ch m).chAngle die ch m).chPwm die ch m)

/-! ### Speed samples (R300, R301, R304) -/

/-- A reference moved toward a target: by `up` when its magnitude grows, by `dn` when it falls; through zero it stops at zero. -/
def rampStep (cur tgt up dn : Int) : Int :=
  if 0 ≤ cur then
    if cur ≤ tgt then min tgt (cur + up)
    else if cur = 0 then max tgt (-up)
    else max (max tgt 0) (cur - dn)
  else if tgt ≤ cur then max tgt (cur - up)
  else min (min tgt 0) (cur + dn)

/-- The angle error of a web-locked channel, 2^-20 revolution, and its reference, 1/8 nrpm (R301). -/
def State.webLocked (s : State) (d k : Nat) : Int × Int :=
  let c := s.chan d k
  let circ := 64 * max 1 (s.rd d (F.MDR_CH_CIRC_circ k))
  let target := c.theta0 + rdiv (posDiff (s.tbTick d) c.p0 * 1048576) circ
  let err := target - c.turned
  let ff := rdiv ((s.tbVel d : Int) * 60000000 * 8 * 1000000000) (256 * circ)
  (err, ff + rdiv ((s.rd d (F.MDR_CH_POS_KP_pos_kp k) : Int) * err * 60 * 8 * 1000000000) (16 * 1048576))

/-- The whole turns of a web-locked drum go from its origin into its angle, so that the origin stays near. -/
def State.lockRebase (s : State) (d k : Nat) : State :=
  let c := s.chan d k
  let circ := 64 * max 1 (s.rd d (F.MDR_CH_CIRC_circ k))
  let n := (posDiff (s.tbTick d) c.p0 / circ).toNat
  if s.rd d (F.MDR_CH_CFG_ref_mode k) = 3 then
    s.modChan d k fun c => { c with theta0 := c.theta0 + n * 1048576, p0 := (c.p0 + n * circ) % two40 }
  else s

/-- The reference of a channel, 1/8 nrpm (R291, R301, R308). -/
def State.chReference (s : State) (d k : Nat) : Int :=
  let st := s.chState d k
  if st = chStopping ∨ st = chHold then 0
  else
    match s.rd d (F.MDR_CH_CFG_ref_mode k) with
    | 1 =>
      match s.slotsOnto d fun dst => motorCode d dst == some k with
      | i :: _ => rdiv ((s.slot d i).out * s.rd d (F.MDR_CH_SPD_MAX_spd_max k) * 8 * 1000000000) 524288
      | [] => 0
    | 3 => (s.webLocked d k).2
    | _ => s.rdS d (F.MDR_CH_REF_ref k) * 1000000000

/-- The measured speed: the mean of the last two angle differences, 1/8 rpm (R299). -/
def State.chMeasure (s : State) (d k : Nat) : State :=
  let c := s.chan d k
  let raw := rdiv ((c.turned - c.turnedAt) * 480000000000) (1048576 * s.speedInterval d k)
  (s.modChan d k fun c => { c with turnedAt := c.turned, rawSpeed := raw, since := 0 }).wrS d (F.MDR_CH_SPEED_speed k) (rdiv (raw + c.rawSpeed) 2)

/-- A channel whose reference is a torque (R291). -/
def State.torqueMode (s : State) (d k : Nat) : Bool := s.rd d (F.MDR_CH_CFG_ref_mode k) == 2

/-- The ramp limiter and the reversal gate at one speed sample (R300, R304): the gate tests the reference after the limiter and, once in BRAKE,
holds until the speed is no more than rev_max (DEDUCED, log entry 187). In torque mode the gate does not act, and REF_LIM follows the measured
speed. -/
def State.chRamp (s : State) (d k : Nat) : State :=
  let c := s.chan d k
  let dt := s.speedInterval d k
  let v := s.rdS d (F.MDR_CH_SPEED_speed k)
  let revMax : Int := 8 * s.rd d (F.MDR_CH_REV_MAX_rev_max k)
  let acc : Int := s.rd d (F.MDR_CH_ACC_MAX_acc_max k) * 8 * dt
  let dec : Int := s.rd d (F.MDR_CH_DEC_MAX_dec_max k) * 8 * dt
  let stop : Int := s.rd d (F.MDR_CH_STOP_DEC_stop_dec k) * 8 * dt
  let st := s.chState d k
  let ref := s.chReference d k
  let dn := if st = chStopping then stop else if c.fromGate then acc else dec
  let next := rampStep c.lim ref acc dn
  let lead : Int := s.rd d (F.MDR_CH_REF_LEAD_ref_lead k) * 8000000000
  let torque := s.torqueMode d k && (st == chRun || st == chBrake)
  let against := decide ((next < 0 ∧ 0 < v) ∨ (0 < next ∧ v < 0))
  let gated := decide (revMax < v.natAbs) && !torque && (st == chBrake || (st == chRun && against))
  let out0 := if gated then rampStep c.lim 0 acc dec else if st = chBrake ∨ torque then v * 1000000000 else next
  let out := if s.on d F.MDR_STATUS_clamp && !torque then clampI (v * 1000000000 - lead) (v * 1000000000 + lead) out0 else out0
  let s := s.modChan d k fun x => { x with lim := out, accel := rdiv (out - c.lim) (8 * dt), fromGate := x.fromGate && decide (out * ref < 0) }
  let s := s.wrS d (F.MDR_CH_REF_LIM_ref_lim k) (rdiv out 1000000000)
  if gated then (if st = chBrake then s else s.chTo d k chBrake)
  else if st = chBrake then
    let s := (s.chTo d k chRun).modChan d k fun x => { x with fromGate := true }
    if torque then s else s.bump d (F.MDR_CH_REV_CNT_rev k)
  else if st = chStopping ∧ out = 0 then s.chToHold d k
  else s

/-- The speed law, whose error is taken as a fraction of spd_max, forms the current demand (R300); a torque that ramps to zero over 100 ms
stands in its place, and then the channel coasts (R309). -/
def State.chSpeedLaw (s : State) (d k : Nat) : State :=
  let c := s.chan d k
  let lim : Int := s.rd d (F.MDR_CH_ILIM_i_lim k)
  if let some (t0, iq) := c.unload then
    let el := s.now - t0
    if 100000000 ≤ el then (s.modChan d k fun c => { c with iqDemand := 0 }).chTo d k chCoast
    else s.modChan d k fun c => { c with iqDemand := clampI (-lim) lim (iq * (100000000 - el : Nat) / 100000000) }
  else if s.torqueMode d k ∧ s.chState d k = chRun then
    let out := match s.slotsOnto d fun dst => motorCode d dst == some k with
      | i :: _ => (s.slot d i).out
      | [] => 0
    s.modChan d k fun c => { c with iqDemand := rdiv (out * lim) 524288 }
  else
    let full : Int := 8 * max 1 (s.rd d (F.MDR_CH_SPD_MAX_spd_max k))
    let e := satS 20 (rdiv ((c.lim - s.rdS d (F.MDR_CH_SPEED_speed k) * 1000000000) * 524288) (full * 1000000000).toNat)
    let u := clampI (-(q39 lim)) (q39 lim)
      (satS 40 (c.us + piStep (s.rd d (F.MDR_CH_KP_S_kp_s k)) (s.rd d (F.MDR_CH_KI_S_ki_s k)) (s.speedInterval d k) e c.es))
    s.modChan d k fun c => { c with us := u, es := e, iqDemand := slotRound u }

/-- A tension or auxiliary channel, which keeps its reference under the F-class stop until the web has rested for hold_ms (R309). -/
def State.keepsTension (s : State) (d k : Nat) : Bool := d == 0 && (s.role 0 k == 1 || s.role 0 k == 2)

/-- Under the F-class stop a web channel or web-locked drum whose web has come to rest holds, and then coasts; a tension or auxiliary channel
notes since when the web rests (R309). -/
def State.chRest (s : State) (d k : Nat) : State :=
  if !(s.chan d k).fStop || !(s.chState d k == chRun || s.chState d k == chBrake) then s
  else if s.keepsTension d k then
    s.modChan d k fun c => { c with holdAt := if s.tbVel d = 0 then some (c.holdAt.getD s.now) else none }
  else if s.tbVel d = 0 then (s.chToHold d k).beginShadow (.motorStop d k)
  else s

/-- The following error of a speed sample, of speed, and in web-locked mode also of angle (R300, R301). -/
def State.chFollow (s : State) (d k : Nat) : State :=
  if chRun ≤ s.chState d k ∧ s.chState d k ≤ chHold then
    let far := decide (8 * s.rd d (F.MDR_CH_FOL_fol_tol k) < (s.rdS d (F.MDR_CH_REF_LIM_ref_lim k) - s.rdS d (F.MDR_CH_SPEED_speed k)).natAbs)
    let off := decide (s.chState d k ≤ chBrake ∧ s.rd d (F.MDR_CH_CFG_ref_mode k) = 3 ∧ s.rd d (F.MDR_CH_FOL_ANG_fol_ang k) < (s.webLocked d k).1.natAbs)
    s.modChan d k fun c => { c with folAt := if far then some (c.folAt.getD s.now) else none, folAng := off,
                                    folMs := max 1 (s.rd d (F.MDR_CH_FOL_fol_ms k)) }
  else s

/-- SPEED_SAMPLE (R157, R299, R300): spd_div periods have passed since the last. -/
def execSpeedSample (die ch : Nat) (s : State) : Out :=
  if !s.hasChan die ch || decide ((s.chan die ch).since < max 1 (s.rd die (F.MDR_CH_SPD_DIV_spd_div ch))) then .next s
  else
    .next (s.withUnit die (.chan ch) fun s =>
      let s := s.chMeasure die ch
      let s := if die ≠ 0 ∧ ch = 4 then s.polyOk die else s
      let st := s.chState die ch
      if chRun ≤ st ∧ st ≤ chHold then ((((s.lockRebase die ch).chRamp die ch).chSpeedLaw die ch).chFollow die ch).chRest die ch else s)

/-- FOLLOW holds: the speed has been out of fol_tol for fol_ms, or the angle is beyond fol_ang (R300, R301). -/
def State.chFollowing (s : State) (d k : Nat) : Bool :=
  (s.chan d k).folAng || sinceBy (s.chan d k).folAt (1000000 * (s.chan d k).folMs) s.now

/-- A channel that drives, and has not been stopped by a fault, follows its reference (R300). -/
def State.chFollows (s : State) (d k : Nat) : Bool :=
  decide (chRun ≤ s.chState d k ∧ s.chState d k ≤ chHold) && (decide (s.chState d k ≤ chBrake) || !(s.chan d k).faulted)

/-- FOLLOW (R300, R308). -/
def execFollow (die ch : Nat) (s : State) : Out :=
  .next (if s.hasChan die ch && s.chFollows die ch && s.chFollowing die ch then
    s.chFault die ch F.MDR_CH_EVENT_fol_s false (some (.follow die ch)) else s)

/-! ### Starting (R303) -/

/-- A channel enters RUN or BRAKE at a measured speed: the references and the integrator are preset to it (R303). -/
def State.chEnter (s : State) (d k : Nat) (speed : Int) (st : Nat) : State :=
  let s := s.modChan d k fun c => { c with lim := speed * 1000000000, us := 0, es := 0, ud := 0, uq := 0, ed := 0, eq := 0, idRef := 0,
                                           iqDemand := 0, periods := 0, faulted := false, unload := none }
  let s := ((s.chTo d k st).wrS d (F.MDR_CH_SPEED_speed k) speed).wrS d (F.MDR_CH_REF_LIM_ref_lim k) speed
  let s := s.releaseMotor d k
  let s := s.modFlt fun f => { f with shadows := f.shadows.filter fun x => x ≠ .webStop ∨ d ≠ 0 ∨ s.role 0 k ≠ 0 }
  if d = 0 ∨ k = 4 then s else s.hvRelease d (.motor (s.role d k))

/-- The start from standstill: RUN from the hall sector or for the polygon, ALIGN with an encoder (R303). -/
def State.chStandstill (s : State) (d k : Nat) : State :=
  if k = 4 ∨ s.rd d (F.MDR_CH_CFG_fb_kind k) = 0 ∨ s.rd d (F.MDR_CH_CFG_fb_kind k) = 3 then s.chEnter d k 0 chRun
  else (s.chTo d k chAlign).modChan d k fun c => { c with periods := 0, ud := 0, uq := 0, ed := 0, eq := 0, idRef := 0 }

/-- The shunt offset of a start: the mean of 256 samples. Samples of OFF that no PWM_PERIOD has brought stand at `rest` (R296;
DESIGN CHOICE, log entry 270). -/
def shuntOffset (offs : List Int) (rest : Int) : Int := rdiv (offs.foldl (· + ·) 0 + rest * ((256 : Int) - offs.length)) 256

/-- The start command (R291, R296, R301, R303, R310). -/
def State.chStart (s : State) (d k : Nat) (offset : Int) : State :=
  if s.chState d k ≠ chOff ∨ !roleMode (s.role d k) (s.rd d (F.MDR_CH_CFG_ref_mode k)) ∨ s.on 0 F.BAY_STATUS_trip then
    if k = 4 then s.reject d .scn (F.MDR_CH_EVENT_write_reject k) else s.reject d .mdr (F.MDR_CH_EVENT_write_reject k)
  else
    let tick := s.tbTick d
    let s := s.modChan d k fun c => { c with
      offset := shuntOffset c.offs offset, fStop := false, bemfMin := s.rd d (F.MDR_CH_CATCH_bemf_min k), shaftSet := false, zRef := none, ests := [],
      catchAt := s.now, catchMs := min 20 (s.rd d (F.MDR_CH_CATCH_catch_ms k)), theta0 := c.turned, p0 := tick }
    if s.on d (F.MDR_CH_CFG_catch_en k) then s.chTo d k chCatch else s.chStandstill d k

/-- The last four estimates of CATCH agree within 2 % in speed (R303). -/
def estsAgree (l : List (Nat × Int × Nat)) : Bool :=
  let vs := l.map (·.2.1)
  let hi := vs.foldl max (vs.headD 0)
  let lo := vs.foldl min (vs.headD 0)
  decide (4 ≤ l.length ∧ 50 * (hi - lo) ≤ max hi (-lo))

/-- The direction that a channel is commanded to turn in, as a signed value: in torque mode that of its torque (R303; DEDUCED, log entry 267). -/
def State.chDirection (s : State) (d k : Nat) : Int :=
  if s.torqueMode d k then
    match s.slotsOnto d fun dst => motorCode d dst == some k with
    | i :: _ => (s.slot d i).out
    | [] => 0
  else s.chReference d k

/-- CATCH_END (R303): four estimates in a row agree, or catch_ms has passed. -/
def execCatchEnd (die ch : Nat) (s : State) : Out :=
  let c := s.chan die ch
  let agreed := estsAgree c.ests
  let (amp, speed, eangle) := c.ests.headD (0, 0, 0)
  if !s.hasChan die ch || s.chState die ch != chCatch || !(agreed || decide (c.catchAt + 100000 * c.catchMs ≤ s.now)) then .next s
  else if !agreed && !decide (amp < c.bemfMin) then .next (s.chFault die ch F.MDR_CH_EVENT_catch_fail_s true none)
  else if amp < c.bemfMin then
    .next ((s.wr die (F.MDR_CH_STATUS_catch_result ch) 0).chStandstill die ch)
  else
    let a := eangle % 1048576 / (s.rd die (F.MDR_CH_CFG_pole_pairs ch) + 1)
    let s := s.modChan die ch fun c => { c with angle := a, zero := (c.mech + 1048576 - a) % 1048576 }
    let ref := s.chDirection die ch
    if (ref < 0 ∧ 0 < speed) ∨ (0 < ref ∧ speed < 0) then
      if speed.natAbs ≤ 8 * s.rd die (F.MDR_CH_REV_MAX_rev_max ch) then
        .next ((s.wr die (F.MDR_CH_STATUS_catch_result ch) 2).chEnter die ch speed chRun)
      else .next ((s.wr die (F.MDR_CH_STATUS_catch_result ch) 3).chEnter die ch speed chBrake)
    else .next ((s.wr die (F.MDR_CH_STATUS_catch_result ch) 1).chEnter die ch speed chRun)

/-- ALIGN_END (R303): after 20 ms of ramp and 80 ms of hold the present angle is taken as zero and the channel runs. -/
def execAlignEnd (die ch : Nat) (s : State) : Out :=
  if !s.hasChan die ch || s.chState die ch != chAlign || decide ((s.chan die ch).periods * s.pwmPeriod die ch < 100000000) then .next s
  else
    let s := s.modChan die ch fun c => { c with zero := (c.zero + c.angle) % 1048576, angle := 0 }
    .next (s.chEnter die ch 0 chRun)

/-- OVERCURRENT (R308). One that meets a stop already made, as by VBUS_TRIP in the same period, is latched too (R310). -/
def execOvercurrent (die ch : Nat) (s : State) : Out :=
  .next (if !s.hasChan die ch then s
    else if s.chState die ch = chCoast then s.wr die (F.MDR_CH_EVENT_oc_s ch) 1
    else s.chFault die ch F.MDR_CH_EVENT_oc_s true none)

/-- GATE_FAULT (R308). -/
def execGateFault (die ch : Nat) (s : State) : Out :=
  .next (if s.hasChan die ch then s.chFault die ch F.MDR_CH_EVENT_gate_s true (some (.gateFault die ch)) else s)

/-! ### The bus (R305 to R307) -/

/-- The chopper follows the bus, with at least 10 µs between its switchings; a CHOPPER_FAULT holds it off (R305, R306). -/
def State.chopper (s : State) : State :=
  let v := s.rd 0 F.MDR_BUS_V_v
  let on := s.rd 0 F.MDR_CHOP_ON_chop_on
  let off := min on (s.rd 0 F.MDR_CHOP_OFF_chop_off)
  let b := s.bus 0
  let free := decide (b.lastSwitch = 0 ∨ b.lastSwitch + 10000 ≤ s.now)
  if b.chopFault then s.wr 0 F.MDR_STATUS_chop_on 0
  else if s.on 0 F.MDR_STATUS_chop_on then
    if decide (v < off) && free then (s.wr 0 F.MDR_STATUS_chop_on 0).modBus 0 fun b => { b with lastSwitch := s.now } else s
  else if decide (on < v) && free then (s.wr 0 F.MDR_STATUS_chop_on 1).modBus 0 fun b => { b with lastSwitch := s.now } else s

/-- VBUS_TRIP (R307): every channel of the die coasts and an F-class fault follows. -/
def State.busTrip (s : State) (d : Nat) : State :=
  let s := (s.wr d F.MDR_STATUS_trip_s 1).mdrActive d
  let s := s.each (chanList d) fun k s =>
    if s.chState d k = chOff ∨ s.chState d k = chCoast then s
    else (s.modChan d k fun c => { c with faulted := true }).chStop d k true
  s.raiseF d .mdr 0 6 s.framesInProgress

/-- The slope of the bus over the last 100 µs, V per ms: 0.1 V in 0.1 ms (R305). -/
def busSlope (hist : List Nat) : Int :=
  if hist.length ≤ 100 then 0 else (hist.getD 0 0 : Int) - (hist.getD 100 0 : Int)

/-- A sample of the bus, and how long the conditions of R306 and R307 have held, a µs to a sample. -/
def State.busTake (s : State) (d v chopI : Nat) : State :=
  let on := s.on d F.MDR_STATUS_chop_on
  let imin := s.rd d F.MDR_CHOP_IMIN_chop_imin
  let thr := s.rd d F.MDR_CHOP_DET_slope_thr
  let low := decide (v < s.rd d F.MDR_BUS_UV_uv)
  let det := max 1 (s.rd d F.MDR_CHOP_DET_chop_det)
  let run := fun (c : Bool) (n : Nat) => if c then n + 1 else 0
  (s.wrSat d F.MDR_BUS_V_v v).modBus d fun b =>
    let hist := (v :: b.hist).take 101
    { b with hist := hist, det := det, uvRun := run low b.uvRun, sampled := true,
             openRun := run (on && decide (chopI < imin)) b.openRun, shortRun := run (!on && decide (imin < chopI)) b.shortRun,
             slopeRun := run (on && decide ((thr : Int) < busSlope hist)) b.slopeRun }

/-- BUS_SAMPLE (R305, R307): the bus in 0.1 V and the chopper current in 10 mA, once per µs. -/
def execBusSample (die v chopI : Nat) (s : State) : Out :=
  if !s.hasDie die then .next s
  else
    let was := decide (s.rd die F.MDR_BUS_TRIP_trip < s.rd die F.MDR_BUS_V_v)
    let s := s.busTake die v chopI
    let isOver := decide (s.rd die F.MDR_BUS_TRIP_trip < v)
    let s := s.wrB die F.MDR_STATUS_bus_ok (decide (s.rd die F.MDR_BUS_UV_uv ≤ v) && !isOver)
    let s := if die = 0 then s.chopper else s
    if isOver then (if was then .next s else .next (s.busTrip die)) else .next (s.mdrActive die)

/-- The chopper condition of a fault kind has held for chop_det (R306). -/
def State.chopFaulty (s : State) (kind : ChopperFault) : Bool :=
  let b := s.bus 0
  match kind with
  | .openCircuit => !b.chopFault && decide (b.det ≤ b.openRun)
  | .slope => !b.chopFault && decide (b.det ≤ b.slopeRun)
  | .shorted => !s.on 0 F.MDR_STATUS_chop_short && decide (b.det ≤ b.shortRun)

/-- CHOPPER_FAULT (R306). -/
def execChopperFault (kind : ChopperFault) (s : State) : Out :=
  if !s.chopFaulty kind then .next s
  else
    let s := (s.wr 0 F.MDR_STATUS_chop_flt_s 1).modBus 0 fun b => { b with chopFault := true }
    match kind with
    | .shorted => .next (((s.wr 0 F.MDR_STATUS_chop_short 1).setActive 0 .mdr true).raiseF 0 .mdr 0 18 s.framesInProgress)
    | .slope => .next ((s.wr 0 F.MDR_STATUS_chop_on 0).detect (.chopSlope 0) 0 .mdr 0 .u 0 [])
    | .openCircuit => .next ((s.wr 0 F.MDR_STATUS_chop_on 0).report 0 .mdr 0 .u 0 [])

/-- BUS_UNDERVOLTAGE (R307): after 1 ms below uv every channel of the die coasts and reports the fault of its role. -/
def execBusUndervoltage (die : Nat) (s : State) : Out :=
  if !s.hasDie die || decide ((s.bus die).uvRun < 1000) then .next s
  else
    let s := s.wr die F.MDR_STATUS_uv_s 1
    .next (s.chFaults die (chanList die) F.MDR_CH_EVENT_uv_s true fun _ => some (.busUv die))

/-- Under the F-class stop the web has rested for hold_ms at a tension or auxiliary channel: its torque begins to ramp to zero (R309). -/
def State.tensionRests (s : State) (d k : Nat) : Bool :=
  (s.chan d k).fStop && s.keepsTension d k && s.tbVel d == 0 && (s.chState d k == chRun || s.chState d k == chBrake)
    && (s.chan d k).unload.isNone

/-- HOLD_END (R308, R309): hold_ms has passed at rest. -/
def execHoldEnd (die ch : Nat) (s : State) : Out :=
  .next (if !s.hasChan die ch || !sinceBy (s.chan die ch).holdAt (1000000 * (s.chan die ch).holdMs) s.now then s
    else if s.chState die ch = chHold then s.chTo die ch chCoast
    else if s.tensionRests die ch then
      (s.modChan die ch fun c => { c with unload := some (s.now, c.iqDemand) }).beginShadow (.motorStop die ch)
    else s)

/-! ### Commands (R310, R312, R313) -/

/-- The block that owns a channel's commands. -/
def chBlock (k : Nat) : Blk := if k = 4 then .scn else .mdr

/-- The stop command (R310). -/
def State.chStopCmd (s : State) (d k : Nat) : State :=
  let st := s.chState d k
  if st = chCatch ∨ st = chAlign then s.chTo d k chOff
  else if st = chRun ∨ st = chBrake then s.chStop d k false
  else s

/-- The clear command: COAST to OFF, refused while a fault condition of the bus, of the inverter or of the feedback persists (R308, R313), or
while the trip latch holds the gate outputs low (R339). -/
def State.chClear (s : State) (d k : Nat) : State :=
  if s.chState d k ≠ chCoast then s
  else if ((s.bus d).sampled && !s.on d F.MDR_STATUS_bus_ok) || (s.chan d k).gateLow || (s.chan d k).fbBad || s.on 0 F.BAY_STATUS_trip then s.reject d (chBlock k) (F.MDR_CH_EVENT_write_reject k)
  else
    let s := (s.chTo d k chOff).modChan d k fun c => { c with faulted := false, fStop := false, unload := none }
    if d = 0 then s.mdrActive 0 else s

/-- clear_counters of a channel. -/
def State.chClearCounters (s : State) (d k : Nat) : State :=
  s.clearAll d [F.MDR_CH_MVW_CNT_mvw k, F.MDR_CH_REV_CNT_rev k, F.MDR_CH_FLT_CNT_flt k]

/-- The clear command of the bus: refused while the bus is above chop_on; a station has no chopper (R305, R312). -/
def State.mdrClear (s : State) (d : Nat) : State :=
  if d = 0 ∧ s.rd 0 F.MDR_CHOP_ON_chop_on < s.rd 0 F.MDR_BUS_V_v then s.reject 0 .mdr F.MDR_STATUS_write_reject
  else
    let s := if d = 0 then s.wr 0 F.MDR_STATUS_clamp 0 else s
    ((s.modBus d fun b => { b with chopFault := false }).wr d F.MDR_STATUS_chop_short 0).mdrActive d

/-- MDR_CH_START (R310). -/
def execMdrChStart (die ch : Nat) (offset : Int) (s : State) : Out := .next (if s.hasChan die ch then s.chStart die ch offset else s)

/-- MDR_CH_STOP (R310). -/
def execMdrChStop (die ch : Nat) (s : State) : Out := .next (if s.hasChan die ch then s.chStopCmd die ch else s)

/-- MDR_CH_CLEAR (R313). -/
def execMdrChClear (die ch : Nat) (s : State) : Out := .next (if s.hasChan die ch then s.chClear die ch else s)

/-- MDR_CH_CLEAR_COUNTERS (R313). -/
def execMdrChClearCounters (die ch : Nat) (s : State) : Out := .next (if s.hasChan die ch then s.chClearCounters die ch else s)

/-- MDR_CLEAR (R312). -/
def execMdrClear (die : Nat) (s : State) : Out := .next (if s.hasDie die then s.mdrClear die else s)

/-- MDR_CLEAR_COUNTERS (R312). -/
def execMdrClearCounters (die : Nat) (s : State) : Out := .next (if s.hasDie die then s.wr die F.MDR_CLAMP_CNT_clamp_cnt 0 else s)

/-- The motor part of the F-class stop (R309). -/
def State.motorsFStop (s : State) : State :=
  s.each s.dies fun d s => s.each (chanList d) fun k s =>
    let st := s.chState d k
    if k = 4 ∨ !(chCatch ≤ st ∧ st ≤ chBrake) then s
    else if d ≠ 0 ∧ s.rd d (F.MDR_CH_CFG_ref_mode k) ≠ 3 then
      if st = chCatch ∨ st = chAlign then s.chTo d k chOff else s.chStop d k false
    else
      let s := s.modChan d k fun c => { c with fStop := true, holdMs := s.rd d (F.MDR_CH_HOLD_hold_ms k) }
      if d = 0 ∧ s.role 0 k = 0 then s.beginShadow (.motorStop 0 k) else s

end Sys2Proof.Machine
end

