-- ==== Sys2Proof/Machine/Rgc.lean ====
section
/-! DEFINITION. Registration control (R241 to R256): mark geometry and windows, the judgement of a mark, sets and blocks, corrections, and web
stretch. -/

namespace Sys2Proof.Machine

def State.rgcStn (s : State) (n : Nat) : RgcStn := s.rgc.stns.getD n {}

/-! ### Mark entries and geometry (R242 to R244) -/

/-- A mark entry: enable, sensor, bar, D0, first line and signed slope (R242). -/
structure MarkEntry where
  en : Bool
  sensor : Nat
  bar : Nat
  d0 : Nat
  y : Nat
  slope : Int
  deriving DecidableEq, Repr

/-- The entry of a station in the bank that a function reads. -/
def markEntry (get : Fld → Nat) (n : Nat) : MarkEntry :=
  let w0 := get (F.RGC_MARK_W_word n 0)
  ⟨w0.testBit 19, bitsN w0 18 16, bitsN w0 15 8, bitsN w0 7 0, get (F.RGC_MARK_W_word n 1), sgn 12 (get (F.RGC_MARK_W_word n 2))⟩

/-- The entry keeps the limits of R242 that do not depend on a frame. -/
def MarkEntry.sound (e : MarkEntry) : Bool :=
  decide (4 ≤ e.bar ∧ e.bar ≤ 127 ∧ 2 * e.bar ≤ e.d0 ∧ 91 ≤ e.slope.natAbs ∧ e.slope.natAbs ≤ 2047)

/-- The entry keeps the limits of R242 for a frame of N lines. -/
def MarkEntry.fits (e : MarkEntry) (margin lines : Nat) : Bool :=
  e.sound && decide (64 * (e.y + e.d0 + e.bar) + margin * (64 + e.slope.natAbs) ≤ 64 * lines)

def State.markMargin (s : State) : Nat := max 1 (s.rd 0 F.RGC_WIN_margin)

/-- Ring of mark positions: 1/2048 tick. -/
abbrev markRing : Nat := two40 * 2048

/-- The geometry of a frame's mark on a station (R243, R244, R249). -/
def State.markGeo (s : State) (f : Frame) (e : MarkEntry) (n ref : Nat) : MarkGeo :=
  let q := pitchOf f.addr
  let d := s.rd40 0 (P.RGC_SENS_POS e.sensor)
  let cb := (f.start + d) * 2048 + (2 * e.y + e.bar) * q
  let m := s.markMargin
  let open_ : Int := ((f.start + d : Nat) : Int) * 1024 + ((e.y : Int) - m) * q
  let close := 64 * (cb + 2 * e.d0 * q) + (64 * e.bar + 2 * m * (64 + e.slope.natAbs)) * q
  { frame := f.id, serial := f.serial, stn := n, sensor := e.sensor, cb0 := cb % markRing, cd0 := (cb + 2 * e.d0 * q) % markRing,
    bar := e.bar, d0 := e.d0, slope := e.slope, addr := f.addr, wtol := s.rd 0 F.RGC_WIN_wtol,
    ep := (((f.start + s.rd40 0 (P.FRM_STN_OFS n)) * 2048 + (2 * e.y + e.bar) * q) / 2) % gridRing,
    openTick := posAdd 0 (rdivUp open_ 1024), closeTick := posAdd 0 (rdivUp (close : Int) 131072), ref := ref }

/-- The marks that RGC evaluates in a frame, in the bank that a function reads, but for stations whose entry counts as en = 0 there (R242,
R243). -/
def State.frameMarks (s : State) (f : Frame) (get : Fld → Nat) (off : List Nat) : List MarkGeo :=
  let ref := get F.RGC_CTRL_ref_stn
  if !s.on 0 F.RGC_CTRL_en || ref == 0 then []
  else (s.stns.filter fun n => f.mask.testBit (n - 1) && !off.contains n).filterMap fun n =>
    let e := markEntry get n
    if e.en && e.fits s.markMargin f.lines then some (s.markGeo f e n ref) else none

/-- Windows of a sensor stand in the order of their opening. -/
def insertMark (l : List MarkGeo) (g : MarkGeo) : List MarkGeo :=
  match l with
  | [] => [g]
  | h :: t => if 0 < posDiff h.openTick g.openTick then g :: h :: t else h :: insertMark t g

/-! ### The raw FIFO (R254, R256) -/

/-- The oldest record as the registers show it. -/
def State.rawShow (s : State) : State :=
  let r := s.rgc.raw.headD [0, 0, 0, 0, 0]
  let s := ((s.wr 0 F.RGC_RAW_W0_serial (r.getD 0 0)).wr 0 ⟨F.RGC_RAW_W1_stn.off, 19, 0⟩ (r.getD 1 0)).wr 0 F.RGC_RAW_W2_e_w (r.getD 2 0)
  ((s.wr 0 F.RGC_RAW_W3_e_x (r.getD 3 0)).wr 0 F.RGC_RAW_W4_width_dev (r.getD 4 0)).wr 0 F.RGC_RAW_LEVEL_level s.rgc.raw.length

/-- A record is pushed, or lost to a full FIFO. -/
def State.rawPush (s : State) (serial stn sensor code : Nat) (ew ex wd : Nat) : State :=
  if 256 ≤ s.rgc.raw.length then s.bump 0 F.RGC_RAW_LOST_lost
  else
    let r := [serial, stn * 0x20000 + sensor * 0x4000 + code * 0x800, ew % 0x100000, ex % 0x100000, wd % 0x100000]
    (s.modRgc fun x => { x with raw := x.raw ++ [r] }).rawShow.irq 43

/-- The record of a measurement. -/
def State.rawSet (s : State) (g : MarkGeo) (code : Nat) (ew ex wd : Int) : State :=
  s.rawPush g.serial g.stn g.sensor code (unsgn 20 (satS 20 ew)) (unsgn 20 (satS 20 ex)) (unsgn 20 (satS 20 wd))

/-- The record of a mark that gives no set: the manual states no e_w and no e_x for it, and a deviation of the straight bar only where four edges
show it (log entry 81). -/
def State.rawOpen (s : State) (serial stn sensor code : Nat) (wd : Option Int) : State :=
  let (a, s) := s.takeFree
  let (b, s) := s.takeFree
  match wd with
  | some w => s.rawPush serial stn sensor code a b (unsgn 20 (satS 20 w))
  | none =>
    let (c, s) := s.takeFree
    s.rawPush serial stn sensor code a b c

/-! ### Corrections (R248 to R250, R253) -/

/-- RGC_CTRL.en in force: a clearing waits for the next admission (R256). -/
def State.rgcEn (s : State) : Bool := s.on 0 F.RGC_CTRL_en || s.rgc.enOn

/-- A station is owned by RGC (R248). A change of abs_ref waits for the end of the reference station's block (R256). -/
def State.rgcOwned (s : State) (n : Nat) : Bool :=
  let ref := s.rd 0 F.RGC_CTRL_ref_stn
  s.hasStn n && s.rgcEn && ref != 0 && (markEntry (s.rd 0) n).en && !s.rgc.offActive.contains n
    && (n != ref || s.on 0 F.RGC_CTRL_abs_ref || decide (0 < (s.rgcStn n).fill))

/-- Units of a correction: 2^-24 of 1/16 tick. -/
abbrev corrUnit : Nat := 16777216

/-- The value for LPL_REG_WEB of a station. -/
def State.webValue (s : State) (n : Nat) : Int :=
  let x := s.rgcStn n
  rdiv (x.corrW + x.stretch) corrUnit

/-- The value for LPL_REG_SCAN of a station. -/
def State.scanValue (s : State) (n : Nat) : Int :=
  rdiv ((s.rgcStn n).corrX * 4096) (corrUnit * pitchOf (s.rd n F.SCN_STATUS_cur_addr))

/-- Both corrections are written to a station, and its effect point is two sweep advances on (R248, R249). -/
def State.rgcWrite (s : State) (n : Nat) : State :=
  let x := s.rgcStn n
  let s := (s.wrS 0 (F.RGC_CORR_WEB_corr_w n) (rdiv x.corrW corrUnit)).wrS 0 (F.RGC_CORR_SCAN_corr_x n) (rdiv x.corrX corrUnit)
  let s := (s.regWrite n false (unsgn 20 (satS 20 (s.webValue n)))).regWrite n true (unsgn 20 (satS 20 (s.scanValue n)))
  let a := s.rd n F.SCN_STATUS_cur_addr
  let eff := gridAdd (s.pos * 1024) ((2 * s.scanLines n a * pitchOf a : Nat) : Int)
  s.modRgcStn n fun x => { x with effect := some eff }

/-- The present block of a station is emptied. -/
def State.emptyBlock (s : State) (n : Nat) : State :=
  (s.modRgcStn n fun x => { x with sumW := 0, sumX := 0, fill := 0 }).wr 0 (F.RGC_STATE_fill n) 0

/-- Every partial block is discarded (R250). -/
def State.emptyBlocks (s : State) : State := s.each (List.range' 1 7) fun n s => s.emptyBlock n

/-- One correction after a block: the change and the result are limited; the answer says whether a limit acted. -/
def corrStep (c sum : Int) (k gain : Nat) (step lim : Int) : Int × Bool :=
  let d := rdiv (sum * gain * corrUnit) (16 * k)
  let d' := clampI (-step) step d
  let r := c - d'
  let r' := clampI (-lim) lim r
  (r', decide (d ≠ d' ∨ r ≠ r'))

/-- A complete block (R248): the means are shown, and the corrections follow unless they are held. -/
def State.blockDone (s : State) (n : Nat) : State :=
  let x := s.rgcStn n
  let k := max 1 x.fill
  let s := (s.wrS 0 (F.RGC_ERR_WEB_err_w n) (rdiv x.sumW k)).wrS 0 (F.RGC_ERR_SCAN_err_x n) (rdiv x.sumX k)
  let s := s.emptyBlock n
  if x.hold || s.on 0 F.FRM_STATUS_stopping then s
  else
    let g := max 1 (min 16 x.gain)
    let q := pitchOf (s.rd n F.SCN_STATUS_cur_addr)
    let px := fun (v : Nat) => (v : Int) * q * (corrUnit : Int) / 4096
    let (w, sw) := corrStep x.corrW x.sumW k g (s.rd 0 F.RGC_STEP_step_web * 256 * corrUnit : Nat) (s.limWeb n * corrUnit : Nat)
    let (c, sc) := corrStep x.corrX x.sumX k g (px (s.rd 0 F.RGC_STEP_step_scan)) (px (s.rd n F.LPL_REG_LIM_lim_scan))
    let s := s.modRgcStn n fun x => { x with corrW := w, corrX := c }
    let s := if sw || sc then (s.wr 0 F.RGC_STATUS_sat_s 1).reportC 0 .rgc else s
    s.rgcWrite n

/-- A set of a station, or the own errors of the frame's reference station (`own`), is counted. An owned station collects it in its block: the
station that is the reference now collects its own errors alone, any other its sets alone (R247, R248, R252). -/
def State.rgcSet (s : State) (n : Nat) (own : Bool) (ew ex : Int) : State :=
  let s := (s.bumpWrap 0 (F.RGC_SET_CNT_sets n)).wr 0 (F.RGC_STATE_loss n) 0
  let oot := s.rd 0 F.RGC_OOT_oot_tol
  let s := if own = false ∧ (oot < ew.natAbs ∨ oot < ex.natAbs) then (s.wr 0 F.RGC_STATUS_oot_s 1).reportC 0 .rgc else s
  if !s.rgcOwned n || own != (n == s.rd 0 F.RGC_CTRL_ref_stn) then s
  else
    let s := if (s.rgcStn n).fill = 0 then
      s.modRgcStn n fun x => { x with k := s.rd 0 F.RGC_LOOP_k, gain := s.rd 0 F.RGC_LOOP_gain, hold := s.on 0 F.RGC_CTRL_hold } else s
    let s := s.modRgcStn n fun x => { x with sumW := x.sumW + ew, sumX := x.sumX + ex, fill := x.fill + 1 }
    let s := s.wrSat 0 (F.RGC_STATE_fill n) (s.rgcStn n).fill
    if max 8 (min 64 (s.rgcStn n).k) ≤ (s.rgcStn n).fill then s.blockDone n else s

/-! ### The judgement of a mark (R245 to R247, R252) -/

/-- A signed distance on the ring of marks. -/
def markDiff (a b : Nat) : Int :=
  let m := ((a : Int) - b) % (markRing : Int)
  if m < (markRing : Int) / 2 then m else m - markRing

/-- Four edges in the order leading, trailing, leading, trailing: their positions in 1/16 tick. -/
def fourEdges : List (Bool × Nat) → Option (Nat × Nat × Nat × Nat)
  | [(true, a), (false, b), (true, c), (false, d)] => some (a, b, c, d)
  | _ => none

/-- A signed distance of two edge positions, 1/16 tick. -/
def edgeDiff (a b : Nat) : Int :=
  let r : Int := ((two40 * 16 : Nat) : Int)
  let m := ((a : Int) - b) % r
  if m < r / 2 then m else m - r

/-- A bar width, 1/16 tick, lies within bar·ℓ ± wtol/8 line. -/
def widthOk (w : Int) (bar wtol q : Nat) : Bool := decide ((w * 64 - (bar * q : Nat)).natAbs * 8 ≤ wtol * q)

/-- The frame of a window is flagged (R245, code 5). -/
def State.markFlagged (s : State) (g : MarkGeo) : Bool :=
  g.flagged || s.frm.frames.any fun f => f.id == g.frame && f.flagged

/-- The mark was exposed before an update of its station, or of the reference station, reached its effect (R249). -/
def State.markEarly (s : State) (g : MarkGeo) : Bool :=
  [g.stn, g.ref].any fun n => match (s.rgcStn n).effect with
    | some e => decide (gridDiff g.ep e < 0)
    | none => false

/-- The first of codes 1 to 3 that applies to the edges of a window, and the positions. -/
def edgeCode (w : MarkWin) (bar wtol q : Nat) : Nat :=
  match fourEdges w.edges with
  | none => 1
  | some (a, b, c, d) =>
    if !widthOk (edgeDiff b a) bar wtol q || !widthOk (edgeDiff d c) bar wtol q then 2 else if w.bad then 3 else 0

/-- The errors of a mark with four edges (R247): a_w, a_x and the deviation of the straight bar. -/
def markErrors (g : MarkGeo) (a b c d : Nat) : Int × Int × Int :=
  let q : Int := pitchOf g.addr
  let aw := rdiv (markDiff (a * 128) g.cb0 + 64 * edgeDiff b a) 128
  let x := 64 * (edgeDiff c a + edgeDiff d a - edgeDiff b a) - 2 * g.d0 * q
  let ax := rdiv (if 0 ≤ g.slope then -x * 64 else x * 64) (128 * g.slope.natAbs)
  (aw, ax, rdiv (edgeDiff b a * 64 - g.bar * q) 64)

/-- The frame's marks that are still to be judged. -/
def State.frameAwaits (s : State) (id n : Nat) : Bool :=
  s.rgc.expected.any (fun g => g.frame == id && g.stn == n)
    || s.rgc.wins.any fun w => match w.geo with
      | some g => g.frame == id && g.stn == n
      | none => false

/-- The deviation of the straight bar of a window with four edges, 1/16 tick (R254, R256). -/
def barDev (w : MarkWin) (g : MarkGeo) : Option Int :=
  (fourEdges w.edges).map fun (a, b, _, _) => rdiv (edgeDiff b a * 64 - (g.bar * pitchOf g.addr : Nat)) 64

/-- A mark closes its window with a code outside 1 to 4: the run of lost marks ends (R252). -/
def State.markRunEnds (s : State) (n : Nat) : State := s.modRgcStn n fun x => { x with missRun := 0 }

/-- A mark that is not valid: counted, recorded, and a run of codes 1 to 4 is a loss (R245, R252). -/
def State.markBad (s : State) (g : MarkGeo) (code : Nat) (wd : Option Int) : State :=
  let n := g.stn
  let s := (s.bump 0 (F.RGC_INV_CNT_invalid n)).rawOpen g.serial n g.sensor code wd
  if 1 ≤ code ∧ code ≤ 4 then
    let s := s.detect (.markCode n code) 0 .rgc n .c 0 []
    let run := (s.rgcStn n).missRun + 1
    let s := s.modRgcStn n fun x => { x with missRun := run }
    if max 1 (s.rd 0 F.RGC_LOOP_miss_n) ≤ run ∧ !s.on 0 (F.RGC_STATE_loss n) then
      ((s.wr 0 F.RGC_STATUS_loss_s 1).wr 0 (F.RGC_STATE_loss n) 1).detect (.markLoss n) 0 .rgc n .c 0 []
    else s
  else s

/-- A valid mark of a station against the reference's errors: a set (R247). -/
def State.markSet (s : State) (r : MarkRes) (ref : Option (Int × Int)) : State :=
  match ref with
  | none => s.markBad r.geo 6 (some r.width)
  | some (w, x) => s.withUnit 0 (.rgc r.geo.stn) fun s =>
    (s.rawSet r.geo 0 (r.aw - w) (r.ax - x) r.width).rgcSet r.geo.stn false (r.aw - w) (r.ax - x)

/-- What the reference station's mark of a frame gave is known: the marks that wait for it form their sets. -/
def State.refKnown (s : State) (id : Nat) (ref : Option (Int × Int)) : State :=
  let ready := s.rgc.pend.filter fun r => r.geo.frame == id
  let s := s.modRgc fun x => { x with pend := x.pend.filter fun r => r.geo.frame ≠ id, refs := (id, ref) :: x.refs.take 1023 }
  s.each ready fun r s => s.markSet r ref

/-- A mark with its code: the reference station's own mark is recorded as it stands; another's forms a set with it. -/
def State.markJudged (s : State) (w : MarkWin) (g : MarkGeo) (code : Nat) : State :=
  match code, fourEdges w.edges with
  | 0, some (a, b, c, d) =>
    let (aw, ax, wd) := markErrors g a b c d
    let s := s.markRunEnds g.stn
    if g.stn = g.ref then
      (s.withUnit 0 (.rgc g.stn) fun s => (s.rawSet g 0 aw ax wd).rgcSet g.stn true aw ax).refKnown g.frame (some (aw, ax))
    else match s.rgc.refs.lookup g.frame with
      | some ref => s.markSet ⟨g, aw, ax, wd⟩ ref
      | none =>
        if s.frameAwaits g.frame g.ref then s.modRgc fun x => { x with pend := x.pend ++ [⟨g, aw, ax, wd⟩] }
        else s.markBad g 6 (some wd)
  | _, _ =>
    let s := if 5 ≤ code then s.markRunEnds g.stn else s
    let s := s.withUnit 0 (.rgc g.stn) fun s => s.markBad g code (barDev w g)
    let s := if g.stn = g.ref ∧ code = 7 then s.modRgc fun x => { x with earlyRefs := g.frame :: x.earlyRefs.take 1023 } else s
    if g.stn = g.ref then s.refKnown g.frame none else s

/-- A diagnostic mark, checked by the edge and width rules alone: the manual names no bar and no nominal geometry for it, so the outcome of the
width rule, its errors and its bar's deviation are open (R246). -/
def State.diagJudged (s : State) (w : MarkWin) (late : Bool) : State :=
  let (f, s) := s.takeFree
  let code := if late then 4 else if (fourEdges w.edges).isNone then 1 else if f % 2 = 1 then 2 else 0
  s.rawOpen 0 0 w.sensor code none

/-- A window closes: by its closing cue, or by a later opening cue (R245, R246). -/
def State.closeWindow (s : State) (w : MarkWin) (late : Bool) : State :=
  let s := s.modRgc fun x => { x with wins := x.wins.filter fun v => v.sensor ≠ w.sensor }
  match w.geo with
  | none => s.diagJudged w late
  | some g =>
    let c := edgeCode w g.bar g.wtol (pitchOf g.addr)
    let code := if late then 4 else if c ≠ 0 then c else if s.markFlagged g then 5 else 0
    let code := if code ≠ 0 then code
      else if g.stn ≠ g.ref ∧ s.rgc.refs.lookup g.frame = some none ∧ !s.rgc.earlyRefs.contains g.frame then 6
      else if s.markEarly g then 7 else 0
    s.markJudged w g code

/-- The open window of a sensor. -/
def State.windowOf (s : State) (sensor : Nat) : Option MarkWin := s.rgc.wins.find? fun w => w.sensor == sensor

/-- A window opens on a sensor; one that is still open closes first, with code 4. -/
def State.openOn (s : State) (sensor : Nat) (geo : Option MarkGeo) : State :=
  let s := match s.windowOf sensor with
    | some w => s.closeWindow w true
    | none => s
  s.modRgc fun x => { x with wins := x.wins ++ [⟨sensor, geo, [], !s.on 0 F.WTB_STATUS_tb_ok⟩] }

/-- A MARK_WINDOW opening cue (R244, R246): from FRM it takes the sensor's next expected window; from a host list it is diagnostic, and is
ignored while an FRM window is open. -/
def State.markOpen (s : State) (i : Issued) : State :=
  let sensor := i.arg % 8
  if i.list < 4 then
    let s := s.useUnit 0 (.markQ sensor)
    match s.rgc.expected.find? fun g => g.sensor == sensor with
    | none => s
    | some g => ((s.modRgc fun x => { x with expected := x.expected.erase g }).keepUnit 0 (.markQ sensor)).openOn sensor (some g)
  else match s.windowOf sensor with
    | some ⟨_, some _, _, _⟩ => s.bump 0 F.RGC_DIAG_DROP_diag_drop
    | _ => s.openOn sensor none

/-- A MARK_WINDOW closing cue closes the window that its opening cue opened (R244 to R246). -/
def State.markClose (s : State) (i : Issued) : State :=
  match s.windowOf (i.arg % 8) with
  | none => s
  | some w =>
    match w.geo with
    | none => if i.list < 4 then s else s.closeWindow w false
    | some g => if decide (i.list < 4) && i.tick == some g.closeTick then s.closeWindow w false else s

/-- MARK_WINDOW actions of one sense. -/
def isMark (opening : Bool) (i : Issued) : Bool := i.action == 7 && i.arg.testBit 3 == opening

/-- MARK_WINDOW_OPEN (R244, R246). -/
def execMarkWindowOpen (s : State) : Out := .next (s.onAction 0 (isMark true) fun i s => s.markOpen i)

/-- MARK_WINDOW_CLOSE (R245). -/
def execMarkWindowClose (s : State) : Out := .next (s.onAction 0 (isMark false) fun i s => s.markClose i)

/-- MARK_EDGE (R241, R245): an edge of an input at a time in ns, and the time in ns for which the new level stands. A level shorter than
glitch_ns is filtered out, and with it the edge back: the filtered level stays. The filtered level follows the input whether RGC uses it or not,
and an edge of it counts while a window is open on the sensor. -/
def execMarkEdge (sensor : Nat) (rising : Bool) (t hold : Nat) (s : State) : Out :=
  let short := decide (hold < s.rd 0 (F.RGC_SENS_CFG_glitch_ns sensor))
  let same := s.rgc.levels.getD sensor none == some rising
  let s := s.modRgc fun r => { r with levels := r.levels.modify sensor fun l => if short then some (l.getD !rising) else some rising }
  if 8 ≤ sensor ∨ !s.on 0 (F.RGC_SENS_CFG_en sensor) ∨ short ∨ same then .next s
  else
    let lead := rising != s.on 0 (F.RGC_SENS_CFG_polarity sensor)
    let dt : Int := (t : Int) - s.rd 0 (F.RGC_SENS_CFG_lat sensor) - s.now
    let p := (((s.pos * 16 : Nat) : Int) + rdivUp ((s.vel : Int) * dt) 16000) % ((two40 * 16 : Nat) : Int)
    let bad := s.vel == 0 || !s.on 0 F.WTB_STATUS_tb_ok
    .next (s.modRgc fun r => { r with wins := r.wins.map fun w =>
      if w.sensor = sensor then { w with edges := w.edges ++ [(lead, p.toNat)], bad := w.bad || bad } else w })

/-! ### Stretch, commands and changes of a job (R250, R251, R253, R256) -/

/-- The stretch term of a station, in units of its correction. -/
def State.stretchOf (s : State) (n : Nat) : Int :=
  match s.rgc.tf with
  | none => 0
  | some tf =>
    if !s.rgc.strOn then 0
    else rdiv (s.rdS 0 (F.RGC_STR_GAIN_str_gain n) * (tf - s.rgc.tRef * 1048576) * corrUnit) (524288 * 1048576)

/-- The stretch term of a station is renewed: LPL_REG_WEB is rewritten where its value has changed; no effect point moves (R253). -/
def State.stretchStn (s : State) (n : Nat) : State :=
  let s := s.useUnit 0 (.rgc n)
  let old := s.webValue n
  let s := (s.modRgcStn n fun x => { x with stretch := s.stretchOf n }).keepUnit 0 (.rgc n)
  if s.webValue n = old then s else s.regWrite n false (unsgn 20 (satS 20 (s.webValue n)))

/-- STRETCH_PERIOD (R251 to R253): at the end of str_period, every owned station but one in mark loss; an F-class stop holds them all. -/
def execStretchPeriod (s : State) : Out :=
  if s.now < s.rgc.strNext then .next s
  else
    let t := s.now + 1000000 * max 1 (s.rd 0 F.RGC_STR_CFG_str_period)
    let s := s.modRgc fun r => { r with strOn := s.on 0 F.RGC_CTRL_stretch_en, strNext := t }
    .next (if s.on 0 F.FRM_STATUS_stopping then s
      else s.each (s.stns.filter fun n => s.rgcOwned n && !s.on 0 (F.RGC_STATE_loss n)) fun n s => s.stretchStn n)

/-- RESET_EST (R250). -/
def execResetEst (s : State) : Out := .next s.emptyBlocks

/-- The pop_raw command. -/
def State.popRaw (s : State) : State := (s.modRgc fun x => { x with raw := x.raw.drop 1 }).rawShow

/-- POP_RAW (R256). -/
def execPopRaw (s : State) : Out := .next s.popRaw

/-- The clear_counters command (R256). -/
def State.rgcClear (s : State) : State :=
  s.clearAll 0 ([F.RGC_RAW_LOST_lost, F.RGC_DIAG_DROP_diag_drop] ++
    (List.range' 1 7).flatMap fun n => [F.RGC_SET_CNT_sets n, F.RGC_INV_CNT_invalid n])

/-- RGC_CLEAR_COUNTERS (R256). -/
def execRgcClearCounters (s : State) : Out := .next s.rgcClear

/-- A host write of a correction (R250): it goes to the station at once, and the partial block is discarded. -/
def State.corrWrite (s : State) (n : Nat) (scan : Bool) (v : Nat) : State :=
  let x := sgn 20 v * corrUnit
  let s := s.withUnit 0 (.rgc n) fun s => (s.modRgcStn n fun y => if scan then { y with corrX := x } else { y with corrW := x }).emptyBlock n
  if s.hasStn n then s.rgcWrite n
  else if scan then s.wrS 0 (F.RGC_CORR_SCAN_corr_x n) (sgn 20 v) else s.wrS 0 (F.RGC_CORR_WEB_corr_w n) (sgn 20 v)

/-- CORR_WRITE (R250). -/
def execCorrWrite (n : Nat) (scan : Bool) (v : Nat) (s : State) : Out :=
  .next (if 1 ≤ n ∧ n ≤ 7 then s.corrWrite n scan v else s)

/-- The addressability of a station has changed: partial blocks are discarded and corr_x is rewritten with the new pitch (R251). -/
def State.rgcAddr (s : State) (n : Nat) : State :=
  let s := s.emptyBlock n
  if s.rgcOwned n then s.regWrite n true (unsgn 20 (satS 20 (s.scanValue n))) else s

/-- The windows of a frame that is cancelled, withdrawn or retired early are removed (R104, R244). -/
def State.dropMarks (s : State) (id : Nat) : State :=
  s.modRgc fun x => { x with expected := x.expected.filter (fun g => g.frame ≠ id), pend := x.pend.filter (fun r => r.geo.frame ≠ id),
                             wins := x.wins.filter fun w => match w.geo with
                               | some g => g.frame ≠ id
                               | none => true }

/-- A frame has closed: its marks keep its final flag (R107, R245). -/
def State.markClosed (s : State) (f : Frame) : State :=
  if !f.flagged then s
  else
    let fl := fun (g : MarkGeo) => if g.frame = f.id then { g with flagged := true } else g
    s.modRgc fun x => { x with expected := x.expected.map fl, wins := x.wins.map fun w => { w with geo := w.geo.map fl } }

end Sys2Proof.Machine
end

