-- ==== Sys2Proof/Machine/ScnGrid.lean ====
section
/-! DEFINITION. The scanner's geometry, speed ranges and grid (R152 to R159, R163, R167 to R169), its states, and the loss of its lock
(R166). -/

namespace Sys2Proof.Machine

/-- The addressability in use. -/
def State.curAddr (s : State) (n : Nat) : Nat := s.rd n F.SCN_STATUS_cur_addr

/-- The sweep advance of an addressability, 1/1024 tick (R152). -/
def State.advance (s : State) (n a : Nat) : Nat := s.scanLines n a * pitchOf a

/-! ### Speeds (R158, R159, R163) -/

/-- The web speed at a rotation, 1/256 tick per µs, as numerator over 61,440,000,000 (R158). -/
def State.speedAtRpm (s : State) (n a rpm : Nat) : Nat := rpm * s.facetCount n * s.advance n a * 256

/-- The lower bound of the web speed, rounded up (R159, R163). -/
def State.vLo (s : State) (n a : Nat) : Nat :=
  if s.isResonant n then cdivN (2 * s.rd n F.SCN_RES_FN_f_n * s.advance n a * (1000 - s.pull n)) 1024000000000
  else max (cdivN (s.speedAtRpm n a (s.rpmMin n)) 61440000000) (cdivN (20 * s.duty n * s.advance n a) (4000 * s.activePx n))

/-- The upper bound of the web speed, rounded down (R159, R163). -/
def State.vHi (s : State) (n a : Nat) : Nat :=
  if s.isResonant n then 2 * s.rd n F.SCN_RES_FN_f_n * s.advance n a * (1000 + s.pull n) / 1024000000000
  else min (s.speedAtRpm n a (s.rpmMax n) / 61440000000) (160 * s.duty n * s.advance n a / (4000 * s.activePx n))

/-- The speed command without trim for a web velocity: millionths of a rpm, or of 1/256 Hz (R158, R163). -/
def State.speedFor (s : State) (n a v : Nat) : Int :=
  let adv := max 1 (s.advance n a)
  if s.isResonant n then rdiv ((v : Int) * 512000000000000) adv
  else rdiv ((v : Int) * 240000000000000) (s.facetCount n * adv)

/-- A velocity held inside the range of an addressability (R158, R165). -/
def State.vClamp (s : State) (n a v : Nat) : Nat := max (s.vLo n a) (min v (s.vHi n a))

/-- The sweep-mean velocity lies in the range of an addressability that the station supports. -/
def State.vInside (s : State) (n a : Nat) : Bool :=
  s.scanLines n a != 0 && decide (s.vLo n a ≤ (s.scn n).meanVel ∧ (s.scn n).meanVel ≤ s.vHi n a)

/-! ### Distances and reports (R167 to R169) -/

/-- Whole millimetres of a distance in 1/1024 tick, rounded up. -/
def mmOf (x : Nat) : Nat := cdivN x 65536000

/-- D_rph (R167). -/
def State.rphDist (s : State) (n : Nat) : Nat :=
  let a := s.curAddr n
  let slew := max 1 (s.rd n F.SCN_RPH_phase_slew)
  mmOf ((1 + cdivN (pitchOf a) (2048 * slew) + s.rd n F.SCN_RPH_settle) * s.advance n a)

/-- The ramp rate: millionths of a rpm, or of 1/256 Hz, in 10 µs (R158, R163, R173). -/
def State.rampStep10 (s : State) (n : Nat) : Nat :=
  if s.isResonant n then max 1 (s.rd n F.SCN_ACC_res_slew) * 2560000 else max 1 (s.rd n F.SCN_ACC_poly_acc) * 10000

/-- D_rlk(a) (R168): 10 µs at v, 1/256 tick per µs, are 40·v in 1/1024 tick. -/
def State.rlkDist (s : State) (n a : Nat) : Nat :=
  let c := s.curAddr n
  let v := (s.scn n).meanVel
  let delta := (s.speedFor n a v - s.speedFor n c v).natAbs
  mmOf (s.advance n c + cdivN (40 * v * delta) (s.rampStep10 n) + max 1 (s.rd n F.SCN_LOCK_acq_sweeps) * s.advance n a)

/-- The ranges, distances and lock_ok bits as the registers show them (R159, R167 to R169). -/
def State.scnShow (s : State) (n : Nat) : State :=
  let on := s.scRuns n
  let s := s.each [0, 1, 2] fun a s =>
    if s.scanLines n a = 0 then s
    else
      let s := (s.wrSat n (F.SCN_VLO_v_lo a) (s.vLo n a)).wrSat n (F.SCN_VHI_v_hi a) (s.vHi n a)
      s.wrSat n (F.SCN_RLK_DIST_rlk a) (if a = s.curAddr n then s.rphDist n else s.rlkDist n a)
  let s := s.wrSat n F.SCN_RPH_DIST_rph (s.rphDist n)
  s.wr n F.SCN_STATUS_lock_ok (b2n (on && s.vInside n 0) + 2 * b2n (on && s.vInside n 1) + 4 * b2n (on && s.vInside n 2))

/-! ### Positions and the grid (R44, R153 to R155) -/

/-- The position of a station's timebase at a time in 1/16 ns: parts of a tick (R44). -/
def State.tbAt (s : State) (n t : Nat) : Nat :=
  (((s.tbPos n : Int) + (s.tbVel n : Int) * ((t : Int) - 16 * s.now)) % (replicaRing : Int)).toNat

/-- The phase error of a sweep that starts at a time, against a target: 1/16 tick (R155). -/
def State.phaseError (s : State) (n t target : Nat) : Int := rdiv (replicaDiff (s.tbAt n t) (target * 4000)) 256000

/-- The target of a grid that lies nearest to a position, 1/1024 tick. -/
def nearestTarget (target adv pos : Nat) : Nat := gridAdd target (rdivUp (gridDiff pos target) (max 1 adv) * max 1 adv)

/-- The grid's next target is the one nearest to the coming sweep (R154, R165). -/
def State.realign (s : State) (n : Nat) : State :=
  let pos := s.tbAt n (s.scn n).startAt / 4000
  s.modScn n fun x => { x with grid := x.grid.map fun g => { g with target := nearestTarget g.target (g.lines * pitchOf g.addr) pos } }

/-- A new grid of the addressability in use through a position in 1/1024 tick. -/
def State.newGrid (s : State) (n pos : Nat) : State :=
  let a := s.curAddr n
  let l := s.scanLines n a
  s.modScn n fun x => { x with grid := some ⟨pos, l, a⟩, shift := 0 }

/-- The frames of a station that still have lines to come on the grid. -/
def State.waitingFrames (s : State) (n : Nat) : List SFrame := (s.rin n).frames.filter fun f => !f.taken && !f.ended

/-- SCN takes over the addressability of the active bank (R168, R170): with a grid that runs in lock it re-locks, else it acquires on the new
grid, whose origin is the new frame's. -/
def State.adoptAddr (s : State) (n : Nat) : State :=
  let a := s.rd n F.SCN_JOB_addr
  if a = s.curAddr n then s
  else
    let st := s.scState n
    let s := (s.wr n F.SCN_STATUS_cur_addr a).rgcAddr n
    let frame := (s.waitingFrames n).find? fun f => f.addr == a
    if !s.scRuns n then
      match frame with
      | some f => s.newGrid n (f.first * 1024)
      | none => s.modScn n fun x => { x with grid := none, shift := 0 }
    else
      let org := match frame with
        | some f => f.first * 1024
        | none => ((s.scn n).grid.map (·.target)).getD 0
      let s := (s.newGrid n org).realign n
      let s := if st = scAcquire then s.modScn n fun x => { x with run := 0, lockNext := false } else s.scTo n scRelock
      (s.modScn n fun x => { x with ramped := false, atSpeed := false }).scnShow n

/-! ### Loss of lock (R166, R170) -/

/-- The lock is lost, or a procedure toward it is broken off: the scanner goes to a state, and a locked one has the scanner-lock outcome
(R103, R166). -/
def State.lockLost (s : State) (n st : Nat) (speed : Bool) : State :=
  let held := decide (scLocked ≤ s.scState n ∧ s.scState n ≤ scRelock)
  let s := (s.scTo n st).modScn n fun x => { x with ramped := false, atSpeed := false }
  let s := if st = scSearch then s.forgetFacet n else s
  if held then s.lockOutcome n (if speed then some (.scnSpeed n) else none) else s

end Sys2Proof.Machine
end

