-- ==== Sys2Proof/Machine/Banks.lean ====
section
/-! DEFINITION. The banks of a die (R93 to R101): arming, the switch and its boundary, a bank miss; and what a station does at a frame's start
and end (R83, R84, R103). -/

namespace Sys2Proof.Machine

/-- The slot whose goal register stands at an offset and is banked for it (R268). -/
def State.bankedGoal (s : State) (d off : Nat) : Bool :=
  decide (0x3010C ≤ off) && (off - 0x3010C) % 0x80 == 0 && decide ((off - 0x3010C) / 0x80 < slotCount d)
    && s.on d (F.LPE_SLOT_CFG_tgt_bank ((off - 0x3010C) / 0x80))

/-- The banked fields of a word of a die. -/
def State.bankedFields (s : State) (off : Nat) (d : Nat) : List (Nat × Nat) :=
  if s.bankedGoal d off then [(19, 0)]
  else match findReg d off with
    | some (r, _) => (r.fields.filter fun f => decide (f.cls = .banked)).map fun f => (f.hi, f.lo)
    | none => []

/-- Die-relative offsets of the listed words of a die. -/
def storeOffs (m : Store) (d : Nat) : List Nat := (storeRange m d 0 0x100000).map fun e => e.1 - regKey d 0

/-- FRM_STATUS.armed: some die holds an armed switch (R109). -/
def State.showArmed (s : State) : State := s.wrB 0 F.FRM_STATUS_armed (s.dies.any fun d => s.on d F.CUE_BANK_STATUS_armed)

/-- A die arms switch k: its whole staged bank is copied in one cycle, and the write count is recorded (R93, R96). -/
def State.armBank (s : State) (d k : Nat) : State :=
  let s := s.modArmed fun a => storeCopyRange a s.staged d 0 0x100000
  let s := if d = 0 then s else s.calCopy d lutRange.1 lutRange.2 0 armedCopy
  let s := (s.wr d F.CUE_BANK_STATUS_armed 1).wr d F.CUE_BANK_STATUS_armed_sw k
  (s.wr d F.CUE_ARM_SNAPSHOT_arm_wcnt (s.rd d F.CUE_STAGE_WCNT_stage_wcnt)).showArmed

/-- Every banked field of a die takes its armed value. -/
def State.activateBank (s : State) (d : Nat) : State :=
  let offs := storeOffs s.armed d ++ storeOffs s.regs d
  s.each offs fun o s =>
    s.each (s.bankedFields o d) fun (f : Nat × Nat) s => s.wr d ⟨o, f.1, f.2⟩ (s.rdArmed d ⟨o, f.1, f.2⟩)

/-- The tick at which the job of a switch begins on a station: B + o_n (R97). -/
def State.switchTick (s : State) (n k : Nat) : Option Nat :=
  (s.frm.switches.find? fun w => w.num == k).map fun w => posAdd w.pos (s.rd40 0 (P.FRM_STN_OFS n))

/-- The switch of a die is complete: the armed bank is active, and the die reports (R94, R98). The other table page becomes active (R227). -/
def State.applyBank (s : State) (d : Nat) : State :=
  let k := s.rd d F.CUE_BANK_STATUS_armed_sw
  let ref := s.rd 0 F.RGC_CTRL_ref_stn
  let s := s.activateBank d
  let s := if d = 0 then s.modRgc fun r => { r with offActive := r.offArmed } else s
  let s := if d = 0 ∧ s.rd 0 F.RGC_CTRL_ref_stn ≠ ref then s.emptyBlocks else s
  let s := ((s.wr d F.CUE_BANK_STATUS_active_sw k).wr d F.CUE_BANK_STATUS_armed 0).wr d F.CUE_BANK_STATUS_straddle 0
  let s := (s.modCue d fun c => { c with swDone := some k, swPend := none, missed := none }).showArmed
  if d = 0 then s
  else
    let t := s.switchTick d k
    let s := (s.calCopy d lutRange.1 lutRange.2 armedCopy inUseCopy).modLsr d fun x => { x with jobTick := t, page := 1 - x.page, pageOwed := x.pageOwed || !x.pageSent, pageSent := false }
    s.adoptAddr d

/-- A bank miss (R100): the die keeps its active bank until the late arm arrives. -/
def State.bankMiss (s : State) (d k : Nat) : State :=
  let s := ((s.wr d F.CUE_BANK_STATUS_bank_miss_s 1).wr 0 F.FRM_STATUS_bank_miss_s 1).modCue d fun c => { c with missed := some k }
  s.report 0 .frm d .u (causeBit 15) []

/-- The natural boundary of a switch on a station that holds no lock (R98, R154): the target of the first sweep of its grid that carries no
line before B + o_n. -/
def State.switchTarget (s : State) (n k : Nat) : Option Nat :=
  if s.scState n = scLocked then none
  else match (s.scn n).grid with
    | none => none
    | some g =>
      let t := match s.switchTick n k with
        | some t => t * 1024
        | none => s.tbPos n / 4000
      let q : Int := max 1 (pitchOf g.addr)
      let l : Int := max 1 g.lines
      let i := max 0 (-((-(gridDiff t g.target - 512)) / q))
      some ((gridAdd g.target (-((-i) / l) * l * q) + 512) / 1024 % two40)

/-- A switch whose boundary is a target tick falls at the update at which the instant of the tick is resolved (R44, R154). -/
def State.targetSwitch (s : State) (n : Nat) : State :=
  match (s.cue n).swPend, (s.scn n).swAt with
  | some _, some t => if s.scRuns n && s.scState n != scLocked && (s.webDue n t).isSome then s.applyBank n else s
  | _, _ => s

/-- A switch waits for its boundary on a station with a running grid (R98, R154). -/
def State.switchWaits (s : State) (n k : Nat) : State :=
  let t := s.switchTarget n k
  ((s.modCue n fun c => { c with swPend := some k }).modScn n fun x => { x with swAt := t }).targetSwitch n

/-- BANK_SWITCH is applied on a die (R97, R98): the hub switches at once; a station with a running grid waits for its boundary. -/
def State.bankSwitch (s : State) (d k : Nat) : State :=
  if !(s.on d F.CUE_BANK_STATUS_armed && s.rd d F.CUE_BANK_STATUS_armed_sw == k % 256) then s.bankMiss d (k % 256)
  else if d ≠ 0 ∧ s.scRuns d then s.switchWaits d k
  else s.applyBank d

/-- REPLICA_ADVANCE (R51, R57, R66, R154, R157, R195, R220): the station's own 40 ns, with what its laser channel sends by time. -/
def execReplicaAdvance (n : Nat) (s : State) : Out :=
  .next (if s.hasStn n then
    ((((((s.advanceReplica n).stnShafts n).cueUpdate n).targetSwitch n).pxCycle n).sendSets n).assistStep n else s)

/-- A disarm discards the armed bank and its page (R101, R227). -/
def State.disarmBank (s : State) (d : Nat) : State :=
  let s := (s.wr d F.CUE_BANK_STATUS_armed 0).modCue d fun c => { c with swPend := none }
  (if d = 0 then s else s.modLsr d fun x => { x with pageSent := false }).showArmed

/-! ### Frame starts and ends on a station (R83, R84, R103) -/

/-- The condition of a blanking outcome has cleared, so a frame start ends it (R103). -/
def State.blankOver (s : State) (n : Nat) : Blank → Bool
  | .writeForbid => !s.on n F.LSR_STATUS_forbid
  | .charge => !s.on n F.HVC_STATUS_chg_forbid
  | .scanner => s.scState n == scLocked || (s.scn n).lockNext
  | .beam => !(s.stn n).line.contains .beam
  | .motor role => [0, 1].all fun k => s.rd n (F.MDR_CH_CFG_role k) != role || (!(s.chan n k).faulted && s.on n (F.MDR_CH_STATUS_running k))
  | .farEnd => s.on n F.LSR_STATUS_link_up
  | .slotGate d i => s.slotState d i == slotRun
  | .rate => (s.cks n).lastOk
  | .fclass => !(s.stn n).line.contains .fclass
  | .crit => !s.on 0 F.THM_PSTATUS_crit

/-- The cause bit of a blanking outcome (R103); an F-class outcome flags its frames with its own report. -/
def blankCause : Blank → Nat
  | .writeForbid => causeBit 2
  | .charge => causeBit 16
  | .scanner => causeBit 9
  | .beam => causeBit 8
  | .motor _ => causeBit 6
  | .farEnd => causeBit 8
  | .slotGate _ _ => causeBit 19
  | .rate => causeBit 9
  | .fclass => 0
  | .crit => causeBit 18

/-- A frame that FRM holds changes. -/
def State.modFrame (s : State) (id : Nat) (f : Frame → Frame) : State :=
  s.modFrm fun m => { m with frames := m.frames.map fun x => if x.id = id then f x else x }

/-- A frame is in progress from its first FRAME_START on any die (R83); the fuser may flag it at once (R286). -/
def State.frameBegins (s : State) (id : Nat) : State :=
  if s.frm.frames.any fun f => f.id == id && f.started then s
  else
    let first := s.framesInProgress.isEmpty
    (s.modFrame id fun f => { f with started := true }).fsrFrameBegins id first

/-- The frame of a slot. -/
def State.frameAt (s : State) (slot : Nat) : Option Frame := s.frm.frames.find? fun f => f.slot == slot

/-- The rows to come of the frames that a blanking outcome holds stay at code 0 once a new frame ends it (R186). -/
def State.keepBlank (s : State) (n id : Nat) : State :=
  if (s.stn n).blanks.isEmpty then s
  else
    let ids := (s.framesLeft n).filter (· ≠ id)
    let c := (s.stn n).blanks.foldl (fun a x => a ||| blankCause x) 0
    (s.each ids fun i s => s.modSFrame n i fun y => { y with blanked := true }).flagFrames ids n c

/-- FRAME_START on a station (R36, R84): the package's frame is in progress; blanking whose condition has cleared ends. Without a running grid
the station writes no line of the frame (cause 9). -/
def State.stnFrameStart (s : State) (n slot : Nat) : State :=
  match s.frameAt slot with
  | none => s
  | some f =>
    let s := ((s.keepBlank n f.id).frameBegins f.id).modSFrame n f.id fun y => { y with cued := true }
    let s := s.modStn n fun x => { x with blanks := x.blanks.filter fun b => !s.blankOver n b }
    if s.scRuns n then s else (s.flagFrames [f.id] n (causeBit 9)).modSFrame n f.id fun y => { y with blanked := true }

/-- A frame has passed a station (R83). -/
def State.frameOff (s : State) (n id : Nat) : State :=
  (s.modFrame id fun f => { f with offStn := f.offStn ||| 2 ^ (n - 1) }).modSFrame n id fun y => { y with ended := true }

/-- FRAME_END on a station (R84): the frame's last sweep begins; without a running grid it has passed. -/
def State.stnFrameEnd (s : State) (n slot : Nat) : State :=
  match s.frameAt slot with
  | none => s
  | some f =>
    let s := s.modSFrame n f.id fun y => { y with ending := true }
    if s.scRuns n then s else s.frameOff n f.id

/-- A tick-stamped frame action on a station. -/
def State.stnAction (s : State) (n : Nat) (i : Issued) : State :=
  match i.action with
  | 1 => s.stnFrameStart n i.arg
  | 2 => s.stnFrameEnd n i.arg
  | 3 => s.bankSwitch n i.arg
  | _ => s

/-- Every issued frame action of a station whose tick is at or behind the target of a sweep is applied at its start (R84, R98). -/
def State.sweepActions (s : State) (n tick : Nat) : State :=
  let due := (s.cue n).issued.filter fun i => decide (1 ≤ i.action ∧ i.action ≤ 3) && (match i.tick with
    | some t => decide (posDiff t tick ≤ 0)
    | none => false)
  s.each due fun i s => (s.doneAction n i).stnAction n i

end Sys2Proof.Machine
end

