-- ==== Sys2Proof/Machine/Ports.lean ====
section
/-! DEFINITION. The inspection and finishing ports (R107, R424 to R426): pulses, line triggers, tags, REJECT positions and WEBPULSE. -/

namespace Sys2Proof.Machine

/-- The pulsed outputs: FTRIG0, FTRIG1, LTRIG, FMARK, REJ0 and REJ1. -/
abbrev outLtrig : Nat := 2
abbrev outFmark : Nat := 3
abbrev outRej (k : Nat) : Nat := 4 + k

/-- The end of an output's pulse while it is asserted. -/
def State.outEnd (s : State) (k : Nat) : Option Nat := s.ports.outs.getD k none

/-- A pulse starts at an instant, or extends the output to its own end (R424, R426). -/
def State.pulse (s : State) (k start width : Nat) : State := s.modPorts fun p => { p with outs := p.outs.set k (some (start + width)) }

/-- A pulse of a frame trigger (R424). -/
def State.pulseTrig (s : State) (k start : Nat) : State := s.pulse k start (max 1 (s.rd 0 F.ISP_TRIG_W_trig_w) * 1000)

/-- A pulse of FRAME_MARK (R426). -/
def State.pulseMark (s : State) (start : Nat) : State := s.pulse outFmark start (max 1 (s.rd 0 F.FIN_MARK_W_mark_w) * 1000)

/-- An OUTPUT cue, at its instant (R63). -/
def State.outputCue (s : State) (arg start : Nat) : State :=
  match arg % 4 with
  | 0 => s.pulseTrig 0 start
  | 1 => s.pulseTrig 1 start
  | 2 => s.pulseMark start
  | _ => s

/-- FRAME_START on the hub as the ports see it: programmed triggers pulse, and the frame's line triggers are set up (R424, R426). -/
def State.portsFrameStart (s : State) (f : Frame) (start : Nat) : State :=
  let s := if s.on 0 F.ISP_CFG_src0 then s.pulseTrig 0 start else s
  let s := if s.on 0 F.ISP_CFG_src1 then s.pulseTrig 1 start else s
  let s := if s.on 0 F.FIN_CFG_mark_src then s.pulseMark start else s
  if !s.on 0 F.ISP_CFG_line_en then s
  else
    let base := posAdd f.start (s.rd40 0 P.FRM_HUB_OFS + s.rd40 0 P.ISP_LINE_OFS : Nat)
    s.modPorts fun p => { p with lines := p.lines ++ [⟨base * 1024, pitchOf f.addr, f.lines, max 1 (s.rd 0 F.ISP_LINE_line_div), 0⟩] }

/-- The tick of the next line trigger of a frame. -/
def LineTrig.tick (t : LineTrig) : Nat := (t.base + t.next * t.pitch + 512) / 1024 % two40

/-- LINE_TRIGGER (R44, R424): the first frame whose next line position is due pulses H2_LTRIG at its instant. -/
def execLineTrigger (s : State) : Out :=
  match s.ports.lines.find? fun t => (s.webDue 0 t.tick).isSome with
  | none => .next s
  | some t =>
    let t' := { t with next := t.next + t.div }
    let s := s.modPorts fun p => { p with lines := if t'.next < t.lines then p.lines.map fun x => if x = t then t' else x else p.lines.erase t }
    .next (s.pulse outLtrig ((s.webDue 0 t.tick).getD s.now) (max 1 (s.rd 0 F.ISP_LINE_line_w) * 10))

/-! ### Tags (R425) -/

/-- The number of queued tags as ISP_STATUS shows it. -/
def State.tagLevel (s : State) : State := s.wr 0 F.ISP_STATUS_tag_level s.ports.tags.length

/-- The 12 bytes of a frame's tag (R425). -/
def tagBytes (f : Frame) : List Nat :=
  let body := leBytes f.serial 3 ++ [f.job, b2n f.flagged] ++ leBytes f.cause 3 ++ [f.stnFlag]
  let c := crc16 body
  0xA6 :: body ++ [c / 256, c % 256]

/-- A tag is queued, or lost (R425). -/
def State.sendTag (s : State) (f : Frame) : State :=
  if !s.on 0 F.ISP_CFG_tag_en then s
  else if 16 ≤ s.ports.tags.length then ((s.bump 0 F.ISP_TAG_LOST_lost).wr 0 F.ISP_STATUS_tag_lost_s 1).irq 44
  else (s.modPorts fun p => { p with tags := p.tags ++ [tagBytes f], tagAt := if p.tags.isEmpty then s.now else p.tagAt }).tagLevel

/-- The time of a tag, ns: twelve characters of ten bits at tag_rate (R425). -/
def State.tagNs (s : State) : Nat := 9600 * 2 ^ s.rd 0 F.ISP_CFG_tag_rate

/-- TAG_SENT (R425): the tag in transmission has been sent. -/
def execTagSent (s : State) : Out :=
  match s.ports.tags with
  | [] => .next s
  | _ :: t =>
    if s.now < s.ports.tagAt + s.tagNs then .next s
    else .next (((s.modPorts fun p => { p with tags := t, tagAt := s.now }).bumpWrap 0 F.ISP_TAG_CNT_sent).tagLevel)

/-- The clear_counters command of ISP (R434). -/
def State.ispClear (s : State) : State := s.clearAll 0 [F.ISP_TAG_LOST_lost, F.ISP_TAG_CNT_sent]

/-- ISP_CLEAR_COUNTERS (R434). -/
def execIspClearCounters (s : State) : Out := .next s.ispClear

/-! ### REJECT and WEBPULSE (R107, R426) -/

/-- The REJECT offset of an output: at least the close offset (R107). -/
def State.rejOfs (s : State) (k : Nat) : Nat := max (s.rd40 0 (if k = 0 then P.FRM_FIN0_OFS else P.FRM_FIN1_OFS)) (s.rd40 0 P.FRM_CLOSE_OFS)

/-- A flagged frame's REJECT positions are held, or dropped from a full queue (R107). -/
def State.holdRejects (s : State) (f : Frame) : State :=
  if !f.flagged then s
  else s.each [0, 1] fun k s =>
    if 1024 ≤ (s.ports.rejects.getD k []).length then (s.bump 0 F.FIN_MERGE_CNT_merge).irq 44
    else
      let p := posAdd f.stop (s.rejOfs k : Nat)
      s.modPorts fun x => { x with rejects := x.rejects.modify k fun l => l ++ [p] }

/-- The FIN counters and levels of an output. -/
def finCnt (k : Nat) : Fld := if k = 0 then F.FIN_REJ_CNT_rej0_cnt else F.FIN_REJ_CNT_rej1_cnt
def finRej (k : Nat) : Fld := if k = 0 then F.FIN_STATUS_rej0 else F.FIN_STATUS_rej1

/-- A REJECT pulse from an instant; one that starts in another merges with it (R426). -/
def State.rejectPulse (s : State) (k start : Nat) : State :=
  let s := if (s.outEnd (outRej k)).isSome then ((s.bump 0 F.FIN_MERGE_CNT_merge).wr 0 F.FIN_STATUS_merge_s 1).irq 44 else s
  ((s.bump 0 (finCnt k)).wr 0 (finRej k) 1).pulse (outRej k) start (max 1 (s.rd 0 F.FIN_REJ_W_rej_w) * 1000000)

/-- REJECT_PULSE (R44, R107): the first pending position of the output that is due. -/
def execRejectPulse (k : Nat) (s : State) : Out :=
  match (s.ports.rejects.getD k []).find? fun p => (s.webDue 0 p).isSome with
  | none => .next s
  | some p => .next ((s.modPorts fun x => { x with rejects := x.rejects.modify k fun l => l.erase p }).rejectPulse k ((s.webDue 0 p).getD s.now))

/-- PULSE_END (R424, R426): an asserted output is released at the end of its pulse, which lies before the next update. -/
def execPulseEnd (k : Nat) (s : State) : Out :=
  match s.outEnd k with
  | none => .next s
  | some t =>
    if s.now + s.tbInterval 0 ≤ t then .next s else
    let s := s.modPorts fun p => { p with outs := p.outs.set k none }
    .next (if k = outRej 0 then s.wr 0 (finRej 0) 0 else if k = outRej 1 then s.wr 0 (finRej 1) 0 else s)

/-- The next position at which the bit that WEBPULSE follows changes. -/
def State.webPulseNext (s : State) : Nat := (s.pos / 2 ^ s.webPulseBit + 1) * 2 ^ s.webPulseBit % two40

/-- WEBPULSE_EDGE (R44, R426): the edge that is due before the next update, or the one the published position has passed. -/
def execWebpulseEdge (s : State) : Out :=
  let level := if (s.webDue 0 s.webPulseNext).isSome then s.webPulseAt s.webPulseNext else s.webPulseLevel
  .next (s.modPorts fun p => { p with webPulse := level })

/-- The clear_counters command of FIN (R434). -/
def State.finClear (s : State) : State := s.clearAll 0 [F.FIN_REJ_CNT_rej0_cnt, F.FIN_REJ_CNT_rej1_cnt, F.FIN_MERGE_CNT_merge]

/-- FIN_CLEAR_COUNTERS (R434). -/
def execFinClearCounters (s : State) : Out := .next s.finClear

/-- OUTPUT (R63, R424, R426). -/
def execOutput (s : State) : Out := .next (s.onAction 0 (fun i => i.action == 8) fun i s => s.outputCue i.arg i.instant)

end Sys2Proof.Machine
end

