-- ==== Sys2Proof/Machine/FrmBook.lean ====
section
/-! DEFINITION. The frame book of FRM: completion records, retirement, cancellation and withdrawal (R101, R104 to R108, R123), arms and
completed switches (R93 to R101). -/

namespace Sys2Proof.Machine

/-! ### Completion records (R106, R108) -/

/-- The completion record of a frame (R106). -/
def doneRec (f : Frame) : DoneRec where
  serial := f.serial
  w1 := f.job * 4096 + b2n f.flagged * 2048 + b2n f.cancelled * 1024 + b2n f.withdrawn * 512 + f.stnFlag % 128
  cause := f.cause
  tag := f.tag

/-- The oldest record, the level and the occupied slots as the registers show them (R109). -/
def State.frmShow (s : State) : State :=
  let r := s.frm.fifo.headD ⟨0, 0, 0, 0⟩
  let s := ((s.wr 0 (F.FRM_DONE_W_word 0) r.serial).wr 0 (F.FRM_DONE_W_word 1) r.w1).wr 0 (F.FRM_DONE_W_word 2) r.cause
  let s := (s.wr 0 (F.FRM_DONE_W_word 3) r.tag).wr 0 F.FRM_DONE_LEVEL_level s.frm.fifo.length
  s.wr 0 F.FRM_STATUS_queued (s.frm.frames.length + s.frm.waiting.length)

/-- Waiting records enter the FIFO in the order of retirement while it has room; each frees its slot and raises vector 0 (R106, R108). -/
def State.frmDrain (s : State) : State :=
  let k := min (64 - s.frm.fifo.length) s.frm.waiting.length
  let s := s.modFrm fun m => { m with fifo := m.fifo ++ (m.waiting.take k).map doneRec, waiting := m.waiting.drop k }
  (if k = 0 then s else s.irq 0).frmShow

/-- A frame leaves the admitted frames and its record waits for the FIFO; the use count of its set falls (R106, R116). -/
def State.retire (s : State) (f : Frame) : State :=
  let s := if f.rset < 256 then s.keepUnit 0 (.rset f.rset) else s
  ((s.modFrm fun m => { m with frames := m.frames.filter (fun x => x.id ≠ f.id), waiting := m.waiting ++ [f] }).keepUnit 0 .doneQ).frmDrain

/-- The pop_done command (R106, R108). -/
def State.popDone (s : State) : State :=
  match s.frm.fifo with
  | [] => s.bump 0 F.FRM_POP_EMPTY_CNT_pop_empty
  | _ :: t => (s.withUnit 0 .doneQ fun s => s.modFrm fun m => { m with fifo := t }).frmDrain

/-! ### Removing a frame (R101, R104, R105, R123) -/

/-- Every cue of a frame that has not applied is removed from every die (R104). -/
def State.dropFrame (s : State) (id : Nat) : State := s.each s.dies fun d s => s.dropCues d fun c => c.frame == id

/-- The stations forget a frame: no further line of it is written. -/
def State.stnForget (s : State) (id : Nat) : State :=
  s.each s.stns fun n s => s.modRin n fun x => { x with frames := x.frames.filter fun f => f.id ≠ id }

/-- The stations write no further line of a frame that was retired before its close; its lines pass as those of a blanked sweep (R104, R125). -/
def State.stnGone (s : State) (id : Nat) : State :=
  s.each s.stns fun n s => s.modSFrame n id fun f => { f with gone := true, blanked := true, ended := true }

/-- A context takes back the sequence numbers of a removed frame: next returns to its first one, and a commit ahead of it follows, as do the
committed tiles of a patch context and the marks of lines that were absent at their deadlines (R123, R124). -/
def State.ctxBack (s : State) (n : Nat) (f : SFrame) : State :=
  if f.mode ≠ 0 ∧ f.mode ≠ 2 then s
  else
    let com := s.rd n (F.RIN_CTX_COMMIT_commit f.ctx)
    let com' := if 0 < seqDiff com f.seq0 then f.seq0 else com
    let s := ((s.wr n (F.RIN_CTX_NEXT_next f.ctx) f.seq0).wr n (F.RIN_CTX_COMMIT_commit f.ctx) com').keepUnit n (.ctx f.ctx)
    let s := s.modMirror n fun m => { m with ctx := m.ctx.modify f.ctx fun c => (com', c.2.1, f.seq0) }
    s.modRin n fun x => { x with tiles := x.tiles.filter (fun t => t.rset ≠ f.rset ∨ seqDiff t.group f.seq0 < 0),
                                 late := x.late.filter fun l => l.1 ≠ f.ctx ∨ seqDiff l.2 f.seq0 < 0 }

/-- A frame is taken back from every station (R123). -/
def State.unadmit (s : State) (id : Nat) : State :=
  let s := s.each s.stns fun n s =>
    match (s.rin n).frames.find? fun f => f.id == id with
    | some f => s.ctxBack n f
    | none => s
  s.stnForget id

/-- The switch of a cancelled or withdrawn frame is disarmed: armed banks are discarded, and an arm not yet sent is never sent (R101). -/
def State.disarm (s : State) (k : Nat) : State :=
  let s := s.each s.dies fun d s =>
    let s := s.modCue d fun c => { c with armQ := c.armQ.filter (· ≠ k), missed := if c.missed = some k then none else c.missed }
    if s.on d F.CUE_BANK_STATUS_armed && s.rd d F.CUE_BANK_STATUS_armed_sw == k then s.disarmBank d else s
  match s.frm.switches.find? fun w => w.num == k with
  | none => s
  | some w => s.modFrm fun m => { m with switches := m.switches.filter (fun x => x.num ≠ k),
                                         bPrev := if w.dies.contains 0 && (s.cue 0).swDone != some k then w.before else m.bPrev }

/-- A frame that has not started is removed: nothing of it is written, and its record follows (R104, R105). -/
def State.removeFrame (s : State) (f : Frame) : State :=
  let s := ((s.unadmit f.id).dropFrame f.id).dropMarks f.id
  let s := match f.sw with
    | some k => s.disarm k
    | none => s
  (s.modFrm fun m => { m with jobs := m.jobs.filter fun j => j.1 ≠ f.id }).retire f

/-- FRM cancels the frames that have not started on any die, the last admitted first; each carries the cause of the F-class fault, and its
REJECT positions are held as those of every flagged frame (R104, R107). -/
def State.cancelFrames (s : State) (cause : Nat) : State :=
  let fs := (s.frm.frames.filter fun f => !f.started).reverse
  let s := s.each fs fun f s =>
    let s := (s.bump 0 F.FRM_CANCEL_CNT_cancel_cnt).bump 0 F.FRM_FLAG_CNT_flag_cnt
    let f := { f with flagged := true, cancelled := true, cause := cause, stnFlag := 0 }
    (s.removeFrame f).holdRejects f
  s

/-! ### Close and retirement (R104, R106, R107) -/

/-- A frame as its close or retirement finds it, with the outcome of every report that was made while it was in progress (R348). -/
def State.finalFrame (s : State) (f : Frame) : Frame :=
  (s.flt.inbox ++ s.flt.latched).foldl (fun f r => if r.frames.contains f.id then f.flag r.die r.cause else f) f

/-- The signals of a frame that has written: its tag and its REJECT positions (R107). -/
def State.frameSignals (s : State) (f : Frame) : State :=
  let was := s.frm.frames.any fun x => x.id == f.id && x.flagged
  let s := if f.flagged && !was then s.bump 0 F.FRM_FLAG_CNT_flag_cnt else s
  (s.sendTag f).holdRejects f

/-- FRAME_CLOSE: the frame's flag is final (R83, R106, R107). -/
def State.closeFrame (s : State) (f : Frame) : State :=
  let f := (s.useUnit 0 (.frame f.slot)).finalFrame f
  let s := (((s.useUnit 0 (.frame f.slot)).markClosed f).frameSignals f).modPlk fun p => { p with lastClosed := f.serial }
  let s := s.fsrTakeAuto
  s.retire f

/-- Retirement of a frame in progress before its close: flagged, with the cause bits of the F-class fault; its cues and windows go (R104). -/
def State.retireEarly (s : State) (f : Frame) : State :=
  let f := s.finalFrame f
  let f := { f with flagged := true, cause := f.cause ||| s.flt.fCause }
  let s := ((s.dropFrame f.id).dropMarks f.id).stnGone f.id
  let s := if f.onStn = 0 then
      (if s.frm.frames.any fun x => x.id == f.id && x.flagged then s else s.bump 0 F.FRM_FLAG_CNT_flag_cnt).holdRejects f
    else s.frameSignals f
  s.retire f

/-- Switches that some die has not applied lose their cues and are disarmed: the stop leaves no armed switch (R48, R104). -/
def State.dropSwitches (s : State) : State :=
  let left := s.frm.switches.filter fun w => w.dies.any fun d => (s.cue d).swDone != some w.num
  s.each left fun w s => (s.dropFrame w.frame).disarm w.num

/-- Every frame in progress is retired, and no switch stays armed (R48, R104). -/
def State.retireAll (s : State) : State := (s.each (s.frm.frames.filter (·.started)) fun f s => s.retireEarly f).dropSwitches

/-! ### Arms and completed switches (R93 to R98) -/

/-- The lines of the admitted frames of the job that a switch opens. -/
def State.jobLines (s : State) (k : Nat) : List Nat :=
  match s.frm.switches.find? fun w => w.num == k with
  | none => []
  | some w =>
    let next := s.frm.switches.filter fun v => decide (0 < posDiff v.pos w.pos)
    (s.frm.frames.filter fun f => decide (0 ≤ posDiff f.start w.pos) && next.all fun v => decide (posDiff f.start v.pos < 0)).map (·.lines)

/-- The stations whose mark entry in the staged bank of the hub breaks a limit of R242 for a frame of the job: the arm takes them as en = 0. -/
def State.badMarks (s : State) (k : Nat) : List Nat :=
  (List.range' 1 7).filter fun n =>
    let e := markEntry (s.rdStaged 0) n
    e.en && !(e.sound && (s.jobLines k).all fun l => e.fits s.markMargin l)

/-- A die receives the arm of switch k (R93, R94, R173); a late one applies at once, at the die's next natural boundary (R100). -/
def State.takeArm (s : State) (d k : Nat) : State :=
  let s := s.modCue d fun c => { c with armQ := c.armQ.drop 1 }
  let s := if d = 0 then s.ctlRead 0 6 0xC0100 0xC0170 0 else s
  let bad := s.badMarks k
  let s := if d = 0 then (if bad.isEmpty then s else s.reject 0 .rgc F.RGC_STATUS_write_reject).modRgc fun r => { r with offArmed := bad }
    else match s.frm.switches.find? fun w => w.num == k with
      | some w => s.wrStaged d F.SCN_JOB_addr w.addr
      | none => s
  let s := s.armBank d k
  if (s.cue d).missed ≠ some k then s
  else if d ≠ 0 ∧ s.scRuns d then s.switchWaits d k else s.applyBank d

/-- ARM (R93, R94): the oldest arm that FRM holds for the die reaches it, once the die has completed the switch before. -/
def execArm (die : Nat) (s : State) : Out :=
  match (s.cue die).armQ.head? with
  | none => .next s
  | some k =>
    if s.on die F.CUE_BANK_STATUS_armed || (s.cue die).swDone.isSome || !s.hasDie die then .next s else .next (s.takeArm die k)

/-- SWITCH_COMPLETION (R94, R98, R109): a die reports its switch; when every present die has, done_sw advances. -/
def execSwitchCompletion (die : Nat) (s : State) : Out :=
  match (s.cue die).swDone with
  | none => .next s
  | some k =>
    let s := s.modCue die fun c => { c with swDone := none }
    let s := s.modFrm fun m => { m with switches := m.switches.map fun w => if w.num = k then { w with dies := w.dies.filter (· ≠ die) } else w }
    if s.frm.switches.any fun w => w.num == k && w.dies.isEmpty then
      let s := s.modFrm fun m => { m with switches := m.switches.filter fun w => w.num ≠ k }
      .next ((s.wr 0 F.FRM_SW_STATUS_done_sw k).irq 1)
    else .next s

end Sys2Proof.Machine
end

