-- ==== Sys2Proof/Machine/Press.lean ====
section
/-! DEFINITION. The press link (R420 to R423, R433). -/

namespace Sys2Proof.Machine

/-- Message types (R421). -/
def msgStatus : Nat := 0x01
def msgSlow : Nat := 0x02
def msgFault : Nat := 0x03
def msgMail : Nat := 0x10
def msgAck : Nat := 0x7F

/-- Types that are acknowledged (R421). -/
def msgAcked (t : Nat) : Bool := t == msgSlow || t == msgFault || t == msgMail

/-- The STATUS payload (R421). -/
def State.statusPayload (s : State) : List Nat :=
  let b := s.rd 0 F.THM_PSTATUS_slow_request + 2 * s.rd 0 F.THM_PSTATUS_enforced + 4 * s.rd 0 F.THM_PSTATUS_warn
    + 8 * s.rd 0 F.THM_PSTATUS_crit + 16 * b2n (s.on 0 F.HIF_ILK_STATUS_ilk_a && s.on 0 F.HIF_ILK_STATUS_ilk_b)
    + 32 * b2n (s.rd 0 F.FSR_STATUS_state == 2) + 64 * s.rd 0 F.FRM_CTRL_admit_en
  [s.rd 0 F.FLT_PKG_state, b] ++ leBytes s.vel 3 ++ leBytes s.plk.lastClosed 3 ++ leBytes (s.rd 0 F.FRM_FLAG_CNT_flag_cnt) 3

/-- The oldest received message as the registers show it (R433). -/
def State.plkShow (s : State) : State :=
  let m := s.plk.rx.headD []
  let s := (s.wr 0 F.PLK_STATUS_rx_level s.plk.rx.length).wr 0 F.PLK_RX_LEN_len m.length
  s.wr 0 F.PLK_RX_DATA_data (m.getD s.plk.rxPos 0)

/-- A new frame of a type takes the type's next sequence number (R420). -/
def State.pressFrame (s : State) (typ : Nat) (payload : List Nat) : PressFrame := ⟨typ, (s.plk.seqs.lookup typ).getD 0, payload⟩

/-- A new frame goes into transmission. -/
def State.pressStart (s : State) (typ : Nat) (payload : List Nat) : State :=
  let f := s.pressFrame typ payload
  s.modPlk fun p => { p with sending := some f, sendAt := s.now,
                             fresh := if msgAcked typ then some (s.rd 0 F.PLK_CTRL_retry_n, 1000 * max 80 (s.rd 0 F.PLK_ACK_TO_ack_to)) else none,
                             seqs := assocSet p.seqs typ ((f.seq + 1) % 256) }

/-- The frame of a type that is to be sent again. -/
def State.pressAgain (s : State) (typ : Nat) : Option PressWait := s.plk.waits.find? fun w => w.frame.typ == typ && w.again

/-- No frame of a type waits for its acknowledgement (R422). -/
def State.pressFree (s : State) (typ : Nat) : Bool := s.plk.waits.all fun w => w.frame.typ != typ

/-- A frame is sent again with its sequence number (R422). -/
def State.pressRepeat (s : State) (w : PressWait) : State :=
  s.modPlk fun p => { p with sending := some w.frame, sendAt := s.now, fresh := none, waits := p.waits.map fun x => if x = w then { x with again := false } else x }

/-- The next frame is chosen: ACK, FAULT, SLOW, host MAIL, STATUS (R423). A frame in transmission is never interrupted. -/
def State.plkNext (s : State) : State :=
  if s.plk.sending.isSome || !s.on 0 F.PLK_CTRL_en then s
  else match s.plk.acks, s.pressAgain msgFault, s.pressAgain msgSlow, s.pressAgain msgMail with
    | q :: t, _, _, _ => s.modPlk fun p => { p with acks := t, sending := some ⟨msgAck, 0, [q]⟩, sendAt := s.now, fresh := none }
    | [], some w, _, _ => s.pressRepeat w
    | [], none, rs, rm =>
      if s.pressFree msgFault && !s.plk.faults.isEmpty then
        (s.pressStart msgFault (s.plk.faults.headD [])).modPlk fun p => { p with faults := p.faults.drop 1 }
      else match rs with
        | some w => s.pressRepeat w
        | none =>
          if s.pressFree msgSlow && !s.plk.slows.isEmpty then
            (s.pressStart msgSlow (s.plk.slows.headD [])).modPlk fun p => { p with slows := p.slows.drop 1 }
          else match rm, s.plk.mail with
            | some w, _ => s.pressRepeat w
            | none, some m => (s.pressStart msgMail m).modPlk fun p => { p with mail := none }
            | none, none => if s.plk.status then (s.pressStart msgStatus s.statusPayload).modPlk fun p => { p with status := false } else s

/-- A FAULT message is queued, or lost (R421, R423). -/
def State.pressFault (s : State) (cls die pos cause : Nat) : State :=
  if !s.on 0 F.PLK_CTRL_en then s
  else if 8 ≤ s.plk.faults.length then s.bump 0 F.PLK_TX_LOST_tx_lost
  else (s.modPlk fun p => { p with faults := p.faults ++ [[cls, die, pos] ++ leBytes cause 3] }).plkNext

/-- A SLOW message is queued, or lost (R421, R423). -/
def State.pressSlow (s : State) (reason : Nat) : State :=
  if !s.on 0 F.PLK_CTRL_en then s
  else if 4 ≤ s.plk.slows.length then s.bump 0 F.PLK_TX_LOST_tx_lost
  else (s.modPlk fun p => { p with slows := p.slows ++ [leBytes (s.rd 0 F.THM_SLOW_V_slow_v) 3 ++ [reason]] }).plkNext

/-- A valid frame has been received: link_ok, and lost_ms counts from it (R423, R433). -/
def State.pressHeard (s : State) : State :=
  (s.wr 0 F.PLK_STATUS_link_ok 1).modPlk fun p => { p with heardAt := s.now, lostNs := 1000000 * s.rd 0 F.PLK_LOST_MS_lost_ms }

/-- A frame reaches a link that is in use. -/
def State.onPress (s : State) (f : State → State) : State := if s.on 0 F.PLK_CTRL_en then (f s.pressHeard).plkNext else s

/-- STATUS_REQ (R421). -/
def execStatusReq (s : State) : Out := .next (s.onPress fun s => s.modPlk fun p => { p with status := true })

/-- The exchange of a frame has ended: a host MAIL answers with its result (R422, R433). -/
def State.pressDone (s : State) (w : PressWait) (result : Nat) : State :=
  let s := s.modPlk fun p => { p with waits := p.waits.erase w }
  if w.frame.typ = msgMail then (s.wr 0 F.PLK_STATUS_tx_busy 0).wr 0 F.PLK_TX_RESULT_result result else s

/-- ACK (R422): the exchange that waits with this sequence number is complete. -/
def execAck (seq : Nat) (s : State) : Out :=
  .next (s.onPress fun s => match s.plk.waits.find? fun w => w.frame.seq == seq with
    | some w => s.pressDone w 0
    | none => s)

/-- MAIL (R420, R422): delivered and acknowledged; a repeat is only acknowledged; with a full FIFO it is neither. A frame that is not sound, in its
characters, gaps, length or CRC, is discarded and counted. -/
def execMail (seq : Nat) (payload : List Nat) (sound : Bool) (s : State) : Out :=
  if !sound || decide (64 < payload.length) then .next (if s.on 0 F.PLK_CTRL_en then s.bump 0 F.PLK_RX_ERR_CNT_rx_err else s)
  else .next (s.onPress fun s =>
    if s.plk.last.lookup msgMail = some (seq % 256) then s.modPlk fun p => { p with acks := p.acks ++ [seq % 256] }
    else if 4 ≤ s.plk.rx.length then s
    else
      let s := s.modPlk fun p => { p with acks := p.acks ++ [seq % 256], last := assocSet p.last msgMail (seq % 256),
                                          rx := p.rx ++ [payload.map (· % 256)] }
      s.plkShow.irq 5)

/-- ACK_TIMEOUT (R422): ack_to after the end of a frame of the type it goes again, or is dropped after its last repeat. -/
def execAckTimeout (typ : Nat) (s : State) : Out :=
  match s.plk.waits.find? fun w => w.frame.typ == typ && !w.again && s.plk.sending != some w.frame && decide (w.at_ + w.toNs ≤ s.now) with
  | none => .next s
  | some w =>
    if w.repeats < w.retry then
      .next (s.modPlk fun p => { p with waits := p.waits.map fun x => if x = w then { x with repeats := x.repeats + 1, again := true } else x }).plkNext
    else
      let s := ((s.pressDone w 2).bump 0 F.PLK_FAIL_CNT_fail).wr 0 F.PLK_STATUS_fail_s 1
      .next ((s.irq 6).reportC 0 .plk).plkNext

/-- STATUS_PERIOD (R421, R433): the period that the last STATUS began has passed. -/
def execStatusPeriod (s : State) : Out :=
  let ns := 1000000 * s.rd 0 F.PLK_STATUS_MS_status_ms
  let wait := if s.plk.statusNs = 0 then ns else s.plk.statusNs
  .next (if s.on 0 F.PLK_CTRL_en && decide (0 < wait ∧ s.plk.statusAt + wait ≤ s.now) then
    (s.modPlk fun p => { p with status := true, statusAt := s.now, statusNs := ns }).plkNext else s)

/-- The time that a frame takes, ns: six characters and its payload, of 0.8 µs each (R420). -/
def PressFrame.sendNs (f : PressFrame) : Nat := 800 * (6 + f.payload.length)

/-- FRAME_TRANSMITTED (R422, R423): the frame has been sent; a new acked one waits for its acknowledgement, and a repeat waits again. -/
def execFrameTransmitted (s : State) : Out :=
  match s.plk.sending with
  | none => .next s
  | some f =>
    if s.now < s.plk.sendAt + f.sendNs then .next s else
    let s := s.modPlk fun p =>
      { p with sending := none, fresh := none,
               waits := (p.waits.map fun w => if w.frame = f then { w with at_ := s.now } else w)
                 ++ (p.fresh.map fun r => { frame := f, retry := r.1, toNs := r.2, at_ := s.now }).toList }
    .next s.plkNext

/-- PRESS_LINK_LOST (R423): no valid frame for lost_ms. -/
def execPressLinkLost (s : State) : Out :=
  if !s.on 0 F.PLK_CTRL_en || !s.on 0 F.PLK_STATUS_link_ok || decide (s.plk.lostNs = 0 ∨ s.now < s.plk.heardAt + s.plk.lostNs) then .next s
  else .next ((((s.wr 0 F.PLK_STATUS_link_ok 0).wr 0 F.PLK_STATUS_lost_s 1).irq 6).reportC 0 .plk)

/-- The send command (R433): refused while tx_busy, or with more than 64 bytes. -/
def State.plkSend (s : State) (len : Nat) : State :=
  if s.on 0 F.PLK_STATUS_tx_busy || decide (64 < len) then (s.wr 0 F.PLK_TX_RESULT_result 3).reject 0 .plk F.PLK_STATUS_write_reject
  else
    let s := (s.wr 0 F.PLK_STATUS_tx_busy 1).wr 0 F.PLK_TX_RESULT_result 1
    (s.modPlk fun p => { p with mail := some (p.txBuf.take len) }).plkNext

/-- SEND (R433). -/
def execSend (len : Nat) (s : State) : Out := .next (s.plkSend len)

/-- The pop command (R433). -/
def State.plkPop (s : State) : State := (s.modPlk fun p => { p with rx := p.rx.drop 1, rxPos := 0 }).plkShow

/-- POP (R433). -/
def execPop (s : State) : Out := .next s.plkPop

/-- The clear_counters command of PLK (R433). -/
def State.plkClear (s : State) : State := s.clearAll 0 [F.PLK_RX_ERR_CNT_rx_err, F.PLK_FAIL_CNT_fail, F.PLK_TX_LOST_tx_lost]

/-- PLK_CLEAR_COUNTERS (R433). -/
def execPlkClearCounters (s : State) : Out := .next s.plkClear

/-- A read of PLK_RX_DATA: the next byte, and the place advances (R433, R453). -/
def State.plkRead (s : State) : Nat × State :=
  (s.rd 0 F.PLK_RX_DATA_data, (s.modPlk fun p => { p with rxPos := p.rxPos + 1 }).plkShow)

/-- PLK_RX_DATA_READ (R453), on the host path. -/
def execPlkRxDataRead (s : State) : Out :=
  let (v, s) := s.plkRead
  .next (s.answer .host [v])

/-- A write to PLK_TX_DATA: byte idx, and idx advances (R433). -/
def State.plkTxWrite (s : State) (v : Nat) : State :=
  let i := s.rd 0 F.PLK_TX_IDX_idx
  ((s.modPlk fun p => { p with txBuf := p.txBuf.set i (v % 256) }).wr 0 F.PLK_TX_DATA_data v).wr 0 F.PLK_TX_IDX_idx (i + 1)

end Sys2Proof.Machine
end

