-- ==== Sys2Proof/Machine/Flt.lean ====
section
/-! DEFINITION. Fault collection and reaction (R343 to R361): the reaction to a report, latching and escalation, the F-class stop, shadows,
FAULT_N and clear_f; and the commands that close and retire frames. -/

namespace Sys2Proof.Machine

/-! ### The web's stop (R309, R314, R328, R352) -/

/-- Each axis in MOVE or BRAKE decelerates to HOLD (R328); the F outcome ends a brake, whose gate does not release (R329). -/
def State.axesFStop (s : State) : State :=
  s.each (List.range 8) fun x s =>
    let st := s.rd 0 (F.AXS_AX_STATUS_state x)
    let s := if st = 3 then (s.wr 0 (F.AXS_AX_STATUS_state x) 2).wr 0 (F.AXS_AX_STATUS_rev_hold x) 0 else s
    if st = 2 ∨ st = 3 then s.modAxis x fun a => { a with toRest := some (a.toRest.getD 1) } else s

/-- hold_ms of the web channel is that of the stop (R313, R352). -/
def State.webHoldTake (s : State) : State :=
  match s.webChannel with
  | some k => s.modChan 0 k fun c => { c with holdMs := s.rd 0 (F.MDR_CH_HOLD_hold_ms k) }
  | none => s

/-- The published velocity has been zero for hold_ms of the web channel (R338, R352). -/
def State.webRested (s : State) : Bool :=
  let ms := match s.webChannel with
    | some k => (s.chan 0 k).holdMs
    | none => 0
  sinceBy s.wtb.zeroSince (1000000 * ms) s.now

/-- Step 4 of the F-class stop: the web profile targets zero, the motor channels act, and the axes come to rest (R352). -/
def State.webStop (s : State) : State :=
  let s := (s.modProf fun p => { p with stop := true }).modCks 0 fun c => { c with stopPend := false }
  (s.motorsFStop.webHoldTake.axesFStop).beginShadow .webStop

/-- The hub's PLL outcome holds the web until every frame in progress has closed (R209, R353). -/
def State.webHeld (s : State) : Bool := (s.cks 0).stopPend && !s.framesInProgress.isEmpty

/-- The web stops once no frame holds it any more (R209). -/
def State.releaseWeb (s : State) : State := if (s.cks 0).stopPend && s.framesInProgress.isEmpty then s.webStop else s

/-- A class-2 safe-off is on its way to dies (R352, step 2), and the safe-off outputs assert (R427). -/
def State.orderSafeOff (s : State) (ds : List Nat) : State :=
  let s := (s.wr 0 F.HIF_ILK_STATUS_so_lsr 1).wr 0 F.HIF_ILK_STATUS_so_hv 1
  s.modFlt fun f => { f with safeOffQ := f.safeOffQ ++ ds.filter fun d => !f.safeOffQ.contains d }

/-- Steps 2 and 4 of the F-class stop (R352), with what R353 puts in their place for the hub's PLL. The hub sends its safe-off to every
other die, and to the reporting die where the F was decided at the hub (R349). -/
def State.orderStop (s : State) (r : Report) : State :=
  let s := if s.rd 0 F.FLT_PKG_state = 2 then s else (s.wr 0 F.FLT_PKG_state 1).wr 0 F.FRM_STATUS_stopping 1
  let s := if s.rd 0 F.THM_PSTATUS_phase = 1 then s.wr 0 F.THM_PSTATUS_phase 2 else s
  if r.die = 0 ∧ r.cause.testBit 0 ∧ s.webHeld then s
  else (s.orderSafeOff (s.dies.filter fun d => d != r.die || r.hubF)).webStop

/-- What an F reaction adds: frames are cancelled and admission refuses, and the F-class stop is ordered, but for THM_CRIT, whose stop
follows the phases of R338 (R104, R346, R353). -/
def State.fReaction (s : State) (r : Report) : State :=
  let s := s.modFrm fun m => { m with fHeld := true }
  let s := if s.flt.firstTaken then s
    else ((s.wr 0 F.FLT_FIRST_F_src r.src).wr 0 F.FLT_FIRST_F_die r.die).wr 0 F.FLT_FIRST_F_pos r.pos
  let s := s.modFlt fun f => { f with firstTaken := true, fCause := f.fCause ||| r.cause }
  let s := s.cancelFrames r.cause
  if r.orderly then s else s.orderStop r

/-! ### The reaction (R346 to R350) -/

/-- The code of a class (R360). -/
def FClass.code : FClass → Nat
  | .c => 0
  | .u => 1
  | .f => 2

/-- The bit of a position in a collector word. -/
def posBit (f : Fld) (p : Nat) : Fld := ⟨f.off, p, p⟩

/-- The die summary (R361). -/
def State.dieSum (s : State) : State :=
  s.each (List.range 8) fun d s =>
    let f := s.on d F.FLT_STATUS_F_f
    let u := f || s.on d F.FLT_STATUS_U_u
    (s.wr 0 ⟨F.FLT_DIE_SUM_u_die.off, d, d⟩ (b2n u)).wr 0 ⟨F.FLT_DIE_SUM_u_die.off, 8 + d, 8 + d⟩ (b2n f)

/-- Step 1: the position's bits (R346). -/
def State.fltBits (s : State) (r : Report) : State :=
  let s := s.wr r.die (posBit F.FLT_STATUS_any r.pos) 1
  let s := match r.cls with
    | .c => s
    | .u => s.wr r.die (posBit F.FLT_STATUS_U_u r.pos) 1
    | .f => s.wr r.die (posBit F.FLT_STATUS_F_f r.pos) 1
  s.dieSum

/-- FLT_LAST shows the last report, a latched one too (R360). -/
def State.fltLast (s : State) (r : Report) : State :=
  ((s.wr r.die F.FLT_LAST_src r.src).wr r.die F.FLT_LAST_cls r.cls.code).wr r.die F.FLT_LAST_pos r.pos

/-- Step 4: a U report of a position with pin_en, and every F report, drives FAULT_N in pulse mode, and a FAULT message goes to the press
(R346, R347, R356, R421). -/
def State.fltPin (s : State) (r : Report) : State :=
  if !s.on 0 F.FLT_PKG_pin_mode || !(r.cls == .f || s.on r.die (posBit F.FLT_PIN_EN_pin_en r.pos)) then s
  else
    let w := 10000 * max 1 (min 1000 (s.rd 0 F.FLT_PIN_CFG_pulse_w))
    (s.modFlt fun f => { f with pulse := true, pulseAt := s.now, pulseNs := w }).pressFault r.cls.code r.die r.pos r.cause

/-- Step 5: the interrupt of the position (R346, R419). -/
def State.fltIrq (s : State) (r : Report) : State :=
  if r.cls == .f || s.on r.die (posBit F.FLT_IRQ_EN_irq_en r.pos) then s.irq (if r.die = 0 then 16 + r.pos else 35 + r.die) else s

/-- The identity word of a kind-0 record (R370). -/
def Report.ident (r : Report) : Nat := r.die * 0x20000 + r.pos * 0x1000 + r.src * 64 + r.cls.code * 16 + b2n r.esc * 8

/-- The collector reaction to a U or F report (R346). -/
def State.react (s : State) (r : Report) : State :=
  let s := (s.fltBits r).flagFrames r.frames r.die r.cause
  let s := s.evrRequest 0 (r.cls == .f) r.ident r.at40 r.time r.cause
  let s := (s.fltPin r).fltIrq r
  let s := if r.cls == .f then s.fReaction r else s
  s.modFlt fun f => { f with busy := (r.die, r.pos, r.cls, s.now) :: f.busy.filter fun b => b.1 ≠ r.die ∨ b.2.1 ≠ r.pos }

/-- The reaction window in ns (R361). -/
def State.reactWin (s : State) : Nat := max 1 (min 10000 (s.rd 0 F.FLT_WIN_react_win)) * 1000000

/-- A report as the hub takes it: escalated by an earlier U report of its source (R349). -/
def State.fltClass (s : State) (r : Report) : Report :=
  if r.cls == .u && s.flt.lastU.any (fun x => x.1 == r.die && x.2.1 == r.pos && x.2.2.1 == r.src && decide (r.time ≤ x.2.2.2 + s.reactWin)) then
    { r with cls := .f, cause := causeBit 18, hubF := true, esc := true,
             frames := r.frames ++ s.framesInProgress.filter fun i => !r.frames.contains i }
  else r

/-- The window of a source's U report begins (R349). -/
def State.noteU (s : State) (r : Report) : State :=
  if r.cls != .u then s
  else s.modFlt fun f => { f with lastU := (r.die, r.pos, r.src, r.time) :: f.lastU.filter fun x => x.1 ≠ r.die ∨ x.2.1 ≠ r.pos ∨ x.2.2.1 ≠ r.src }

/-- Two reports of a position as one latched report: the higher class wins (R348). -/
def Report.merge (a b : Report) : Report :=
  let hi := if a.cls.code < b.cls.code then b else a
  { hi with cause := a.cause ||| b.cause, frames := a.frames ++ b.frames.filter fun i => !a.frames.contains i, at40 := a.at40, time := a.time,
            hubF := a.hubF || b.hubF, esc := a.esc || b.esc, orderly := hi.orderly }

/-- Two reports name one position. -/
def Report.same (a b : Report) : Bool := a.die == b.die && a.pos == b.pos

/-- A U or F report that reaches a position in reaction is latched (R348). -/
def State.latchReport (s : State) (r : Report) : State :=
  let s := (s.wr r.die (posBit F.FLT_PEND_pend r.pos) 1).bump r.die (F.FLT_LATCH_CNT_latch r.pos)
  s.modFlt fun f =>
    { f with latched := if f.latched.any r.same then f.latched.map fun x => if r.same x then x.merge r else x else f.latched ++ [r] }

/-- Reactions end within 2 µs (R346); a position with a latched report waits for its LATCHED_REACTION. -/
def State.oldReactions (s : State) (t : Nat) : State :=
  let keep := fun (b : Nat × Nat × FClass × Nat) =>
    decide (t < b.2.2.2 + 2000) || s.flt.latched.any fun r => r.die == b.1 && r.pos == b.2.1
  s.modFlt fun f => { f with busy := f.busy.filter keep }

/-- The class of the reaction in progress at a report's position. -/
def State.busyClass (s : State) (r : Report) : Option FClass :=
  (s.flt.busy.find? fun b => b.1 == r.die && b.2.1 == r.pos).map (·.2.2.1)

/-- The hub takes a report (R346 to R350). -/
def State.takeReport (s : State) (r0 : Report) : State :=
  let s := s.oldReactions s.now
  let r := s.fltClass r0
  let s := ((s.noteU r0).fltLast r).bump r.die (F.FLT_RPT_CNT_rpt r.pos)
  let s := if r.esc then (s.wr 0 F.FLT_STAT2_esc_s 1).bump 0 F.FLT_ESC_CNT_esc else s
  match r.cls, s.busyClass r with
  | .c, _ => (s.fltBits r).fltIrq r
  | .u, some _ => s.latchReport r
  | .f, some .f => s.latchReport r
  | _, _ => s.react r

/-- The order of reports that arrive together: F before U, a U report that escalates standing as F, then die, then position (R349, R351). -/
def State.before (s : State) (a b : Report) : Bool :=
  let ca := (s.fltClass a).cls
  let cb := (s.fltClass b).cls
  decide (cb.code < ca.code) || (ca == cb && (decide (a.die < b.die) || (a.die == b.die && decide (a.pos < b.pos))))

/-- The report of a queue that reacts first: of those that arrived at the time of the first, the one of R351. -/
def State.firstReport (s : State) : List Report → Option Report
  | [] => none
  | r :: t => some ((t.filter fun x => x.time == r.time).foldl (fun a x => if s.before x a then x else a) r)

/-- The collectors read and store the state of a report's reaction (R364). -/
def State.collect (s : State) (r : Report) (f : State → State) : State :=
  let s := s.withUnit 0 .faults f
  if r.die = 0 then s else (s.useUnit r.die .faults).keepUnit r.die .faults

/-- FAULT_REPORT (R346). -/
def execFaultReport (s : State) : Out :=
  match s.firstReport s.flt.inbox with
  | none => .next s
  | some r => .next ((s.modFlt fun f => { f with inbox := f.inbox.erase r }).collect r fun s => s.takeReport r)

/-- LATCHED_REACTION (R348): the reaction of a position completes, and its latched reports are reacted to once. -/
def execLatchedReaction (die pos : Nat) (s : State) : Out :=
  let s := s.modFlt fun f => { f with busy := f.busy.filter fun b => b.1 ≠ die ∨ b.2.1 ≠ pos }
  match s.flt.latched.find? fun r => r.die == die && r.pos == pos with
  | none => .next s
  | some r =>
    let s := (s.modFlt fun f => { f with latched := f.latched.erase r }).wr die (posBit F.FLT_PEND_pend pos) 0
    .next (s.collect r fun s => s.react r)

/-- SAFE_OFF_COMMAND (R352): the first die that the hub has sent its safe-off to. -/
def execSafeOffCommand (die : Nat) (s : State) : Out :=
  if !s.flt.safeOffQ.contains die then .next s
  else .next ((s.modFlt fun f => { f with safeOffQ := f.safeOffQ.filter (· ≠ die) }).safeOffDie die)

/-- The package is STOPPED: FSR enters STANDBY (R285, R352), and the motor safe-off of an opening asserts (R427). -/
def State.toStopped (s : State) : State :=
  let s := (s.fsrToStandby.wr 0 F.FLT_PKG_state 2).wr 0 F.FRM_STATUS_stopping 0
  if s.ports.motDly then (s.wr 0 F.HIF_ILK_STATUS_so_mot 1).modPorts fun p => { p with motDly := false } else s

/-- STOPPED (R352): the published velocity has been zero for hold_ms. -/
def execStopped (s : State) : Out :=
  .next (if s.rd 0 F.FLT_PKG_state == 1 && s.webRested && !s.webHeld then s.toStopped else s)

/-! ### Shadows (R354) -/

/-- The frames that a detector's outcome flags at the present instant (R346, R354). -/
def State.heldFrames (s : State) (x : Detector) (r : Report) : List Nat :=
  if r.cause = 0 then []
  else if r.die = 0 then s.framesInProgress
  else match x with
    | .plaus d _ => if r.cls = .f then s.framesInProgress else s.slotFrames d
    | .apcLimit n | .strayLight n | .repCoh n => s.framesOn n
    | .scnSpeed n => s.framesLeft n
    | .follow n k | .fbLoss n k | .gateFault n k => if k = 4 then s.framesLeft n else []
    | .busUv n => if r.pos = fltPos n .scn then s.framesLeft n else []
    | _ => []

/-- The report of a detector that is still asserted at a shadow's end. -/
def State.heldReport (s : State) (x : Detector) (r : Report) : State :=
  s.post { r with frames := s.heldFrames x r, at40 := s.pos, time := s.now }

/-- The interval of a shadow has passed (R354). -/
def State.shadowRun (s : State) (sh : Shadow) : Bool := decide ((s.flt.shadowT.lookup sh).getD 0 ≤ s.now)

/-- What ends a shadow has come (the last column of the table of R354). A warmup command and the mains' return take the heaters' shadow away
themselves. -/
def State.shadowOver (s : State) (sh : Shadow) : Bool :=
  match sh with
  | .hvForced _ => s.shadowRun sh
  | .slotFault d i => s.slotState d i == slotRamp || s.slotState d i == slotRun || s.shadowRun sh
  | .lsoAsserted n => !s.on n F.LSR_STATUS_lso && decide ((s.lsr n).highAt + 10000000 ≤ s.now)
  | .motorStop _ _ => s.shadowRun sh
  | .webStop =>
    s.rd 0 F.FLT_PKG_state == 2
      || (s.rd 0 F.FLT_PKG_state != 1 && !s.prof.stop && (match s.webChannel with
        | some k => s.chState 0 k == chRun
        | none => false))
  | .interlock => !s.flt.hub19.contains 8 && !s.on 0 F.BAY_STATUS_trip && decide (s.flt.closedAt + 1000000000 ≤ s.now)
  | .hubBypass => s.on 0 F.CKS_SYS_STATUS_locked && (s.cks 0).sys == 0 && decide ((s.cks 0).since + 10000000 ≤ s.now)
  | .scnLost n => s.scState n == scLocked
  | .heatersOff => false
  | .xfrHalt d c => s.rd d (F.XFR_CH_STATUS_state c) == 1 || s.rd d (F.XFR_CH_STATUS_state c) == 2

/-- SHADOW_END (R354): a detector that no other shadow covers reports if it is among those still asserted. -/
def execShadowEnd (sh : Shadow) (still : List Detector) (s : State) : Out :=
  if s.flt.shadows.contains sh && !s.shadowOver sh then .next s else
  let s := s.modFlt fun f => { f with shadows := f.shadows.filter (· ≠ sh) }
  let free := s.flt.held.filter fun h => !s.shadowed h.1
  let s := s.modFlt fun f => { f with held := f.held.filter fun h => s.shadowed h.1 }
  .next (s.each (free.filter fun h => still.contains h.1) fun h s => s.heldReport h.1 h.2)

/-- The detectors of a die with their positions (R344, R354). -/
def detectorsOf (d : Nat) : List (Nat × Detector) :=
  let at_ := fun (blk : Blk) => fltPos d blk
  (List.range (slotCount d)).map (fun i => (at_ .lpe, Detector.plaus d i))
    ++ (if d = 0 then [0, 1, 2, 3] else [0, 1]).flatMap (fun k =>
      [(at_ .mdr, .follow d k), (at_ .mdr, .fbLoss d k), (at_ .mdr, .gateFault d k)])
    ++ [(at_ .mdr, .busUv d)]
    ++ (if d = 0 then
        [(at_ .mdr, .chopSlope 0), (at_ .wtb, .webReverse), (at_ .wtb, .encMismatch), (at_ .cue, .cueLate), (at_ .lpe, .lpeOverrun)]
          ++ (List.range 8).flatMap (fun x => [(at_ .axs, .stageLost x), (at_ .axs, .stageFault x)])
          ++ (List.range' 1 7).flatMap fun n =>
            (at_ .dlk, Detector.replay n) :: (at_ .rgc, .markLoss n) :: [1, 2, 3, 4].map fun c => (at_ .rgc, .markCode n c)
      else
        [(at_ .lsr, .apcLimit d), (at_ .lsr, .strayLight d), (at_ .scn, .scnSpeed d), (at_ .scn, .follow d 4), (at_ .scn, .fbLoss d 4),
         (at_ .scn, .gateFault d 4), (at_ .scn, .busUv d), (at_ .cue, .repCoh d), (at_ .cue, .bcastMiss d)]
          ++ (List.range 8).map fun c => (at_ .rin, .lateCommit d c))

/-- FLT_SHADOW of a die: the positions with a detector that a shadow covers (R360). -/
def State.shadowBits (s : State) (d : Nat) : Nat :=
  (detectorsOf d).foldl (fun a x => if s.shadowed x.2 then a ||| 2 ^ x.1 else a) 0

/-! ### FAULT_N and clearing (R356 to R358) -/

/-- FAULT_N is low (R356). -/
def State.faultN (s : State) : Bool :=
  if s.on 0 F.FLT_PKG_pin_mode then s.flt.pulse || s.on 0 F.FLT_PIN_HOLD_hold
  else (List.range 8).any fun d => s.on d F.FLT_STATUS_U_u || s.on d F.FLT_STATUS_F_f

/-- FAULT_N_PULSE_END (R356): pulse_w from the start of the last pulse. -/
def execFaultNPulseEnd (s : State) : Out :=
  .next (if s.flt.pulseAt + s.flt.pulseNs ≤ s.now then s.modFlt fun f => { f with pulse := false } else s)

/-- clear_f is refused outside STOPPED and IDLE, and while any f_active is high (R358). -/
def State.clearRefused (s : State) : Bool :=
  s.rd 0 F.FLT_PKG_state == 1 || s.dies.any (fun d => s.on d F.FLT_F_ACTIVE_f_active)

/-- The clear_f command (R358, R427): F bits clear, the safe-offs are released, and the package is IDLE. -/
def State.clearF (s : State) : State :=
  if s.clearRefused then s.reject 0 .flt F.FLT_STAT2_write_reject
  else
    let arg := (s.rdWord 0 F.FLT_FIRST_F_src.off).toNat
    let s := (s.each s.dies fun d s => (s.wr d F.FLT_STATUS_F_f 0).hvRelease d .fclass).dieSum
    let s := s.each s.stns fun n s => s.releaseLine n .fclass
    let s := ((s.wr 0 F.HIF_ILK_STATUS_so_lsr 0).wr 0 F.HIF_ILK_STATUS_so_hv 0).wr 0 F.HIF_ILK_STATUS_so_mot 0
    let s := (s.modFlt fun f => { f with firstTaken := false, fCause := 0 }).wr 0 F.THM_PSTATUS_crit 0
    -- an orderly stop runs to SAFE although CRIT has cleared (R340)
    let mid := s.rd 0 F.FLT_PKG_state == 0 && (s.rd 0 F.THM_PSTATUS_phase == 1 || s.rd 0 F.THM_PSTATUS_phase == 2)
    let s := if mid then s
      else (((s.wr 0 F.FLT_PKG_state 0).wr 0 F.THM_PSTATUS_phase 0).modFrm fun m => { m with fHeld := false }).modProf fun p =>
        { p with stop := false }
    s.evrNow 4 true 0x04000 arg

/-- CLEAR_F (R358). -/
def execClearF (s : State) : Out := .next s.clearF

/-- The clear_counters command of a collector (R360). -/
def State.fltClear (s : State) (d : Nat) : State :=
  s.clearAll d ((List.range 20).flatMap fun p => [F.FLT_RPT_CNT_rpt p, F.FLT_LATCH_CNT_latch p, F.FLT_SHADOWED_shadowed p])

/-- FLT_CLEAR_COUNTERS (R360). -/
def execFltClearCounters (die : Nat) (s : State) : Out := .next (if s.hasDie die then s.fltClear die else s)

/-! ### Frame actions (R66, R83, R84, R98, R104) -/

/-- FRAME_START on the hub: the frame is in progress, and the line ports see it (R83, R424, R426). -/
def State.hubFrameStart (s : State) (slot at_ : Nat) : State :=
  match s.frameAt slot with
  | none => s
  | some f => ((s.frameBegins f.id).modFrame f.id fun f => { f with onHub := true }).portsFrameStart f at_

/-- The close cue stands on list 1 of the hub (R84). -/
def isClose (i : Issued) : Bool := i.list == 1 && i.action == 2

/-- FRAME_CLOSE (R83, R106, R209). -/
def State.frameClose (s : State) (slot : Nat) : State :=
  match s.frameAt slot with
  | none => s
  | some f => (s.closeFrame f).releaseWeb

/-- A tick-stamped action on a die (R66): frames, switches and mark windows. -/
def State.stampedAction (s : State) (d : Nat) (i : Issued) : State :=
  if d ≠ 0 then s.stnAction d i
  else if isClose i then s.frameClose i.arg
  else match i.action with
    | 1 => s.hubFrameStart i.arg i.instant
    | 3 => s.bankSwitch 0 i.arg
    | 7 => if i.arg.testBit 3 then s.markOpen i else s.markClose i
    | _ => s

/-- TICK_STAMPED_APPLY (R66): the first tick-stamped action whose tick the die has reached. -/
def execTickStampedApply (die : Nat) (s : State) : Out :=
  .next (s.onAction die (fun i => i.tick.isSome) fun i s => s.stampedAction die i)

/-- FRAME_START (R84). -/
def execFrameStart (die : Nat) (s : State) : Out := .next (s.onAction die (fun i => i.action == 1) fun i s => s.stampedAction die i)

/-- FRAME_END (R84). -/
def execFrameEnd (die : Nat) (s : State) : Out :=
  .next (s.onAction die (fun i => i.action == 2 && !isClose i) fun i s => s.stampedAction die i)

/-- BANK_SWITCH (R98). -/
def execBankSwitch (die : Nat) (s : State) : Out := .next (s.onAction die (fun i => i.action == 3) fun i s => s.stampedAction die i)

/-- FRAME_CLOSE (R106). -/
def execFrameClose (s : State) : Out := .next (s.onAction 0 isClose fun i s => s.stampedAction 0 i)

/-- RETIRE_AT_ZERO_SPEED (R104): the web reaches zero in the F-class stop, or in the orderly stop, before frames have closed. -/
def execRetireAtZeroSpeed (s : State) : Out :=
  .next (if (s.on 0 F.FRM_STATUS_stopping || decide (2 ≤ s.rd 0 F.THM_PSTATUS_phase)) && s.vel == 0 then s.retireAll.releaseWeb else s)

end Sys2Proof.Machine
end

