-- ==== Sys2Proof/Machine/Axs.lean ====
section
/-! DEFINITION. Motion profiles and auxiliary axes (R314 to R331): the web speed profile, the stepper axes, their encoders and the microstep
bus. -/

namespace Sys2Proof.Machine

/-! ### The web profile (R314 to R317) -/

/-- Units of the profile: 10^-13 of 1/256 tick per µs. -/
abbrev profUnit : Nat := 10000000000000

/-- One step of a profile toward a target: the acceleration moves by at most `jerk` toward the limit that applies, and is taken back in
time to end at the target; a step that passes the target with little acceleration left ends at it. Acceleration in 10^-5 mm/s², of which
each adds 16,384 units in 10 µs. -/
def profStep (v a t acc dec jerk : Int) : Int × Int :=
  let e := t - v
  let up := decide (0 ≤ e)
  let lim := if up then acc else dec
  let x := if up then a else -a
  let d : Int := e.natAbs
  let x' :=
    if jerk = 0 then (if d = 0 then 0 else lim)
    else if d = 0 then (if x.natAbs ≤ jerk then 0 else if 0 < x then x - jerk else x + jerk)
    else if 0 < x ∧ 2 * jerk * d ≤ 16384 * x * x then max 0 (x - jerk)
    else if lim < x then max lim (x - jerk)
    else min lim (x + jerk)
  let d' := d - 16384 * x'
  if d' ≤ 0 ∧ (jerk = 0 ∨ x' ≤ 2 * jerk) ∧ 0 ≤ x' then (t, 0)
  else if x' = 0 ∧ d ≤ 16384 * jerk then (t, 0)
  else
    let a' := if up then x' else -x'
    let v' := v + 16384 * a'
    if v' ≤ 0 then (0, 0) else (v', a')

/-- The web is held at its present speed: in FINISH (R338), and while frames in progress hold it (R209). -/
def State.profHeld (s : State) : Bool := s.rd 0 F.THM_PSTATUS_phase == 1 || s.webHeld

/-- The effective target, 1/256 tick per µs (R315). -/
def State.profTarget (s : State) : Nat :=
  let bound := if s.thm.bound then s.rd 0 F.THM_SLOW_V_slow_v else 0xFFFFF
  if s.prof.stop then 0
  else if s.profHeld then min (s.rd 0 F.AXS_WEB_PROF_v_prof) bound
  else min (min (s.rd 0 F.AXS_WEB_TGT_web_tgt) (s.rd 0 F.AXS_WEB_VMAX_web_vmax)) bound

/-- The deceleration in force, mm/s² (R315). -/
def State.profDec (s : State) : Nat :=
  max 1 (if s.prof.stop then s.rd 0 F.AXS_WEB_STOP_DEC_web_stop_dec
    else if s.on 0 F.THM_PSTATUS_enforced then s.rd 0 F.THM_ENFORCE_DECEL_enforce_decel else s.rd 0 F.AXS_WEB_DEC_web_dec)

/-- Web states (R331). -/
def webStateOf (stop : Bool) (v t : Nat) : Nat := if stop then 4 else if v < t then 1 else if t < v then 3 else 2

/-- The profiled speed is shown. -/
def State.profShow (s : State) (st : Nat) (clamp : Bool) : State :=
  let s := (s.wrSat 0 F.AXS_WEB_PROF_v_prof ((s.prof.v + profUnit / 2) / profUnit)).wr 0 F.AXS_STATUS_web_state st
  (s.wrB 0 F.AXS_STATUS_clamp_track clamp).wrB 0 F.AXS_STATUS_enforced s.thm.bound

/-- The profiler writes the web channel's reference: with web_en, and during an F-class stop or the orderly stop (R314). -/
def State.profWrites (s : State) : Bool := s.on 0 F.AXS_CTRL_web_en || s.prof.stop || s.rd 0 F.THM_PSTATUS_phase == 1

/-- The reference as written to the web channel: v_prof × web_ratio, and zero once a stop has driven the web to zero (R314). -/
def State.profRef (s : State) : State :=
  let v := if s.prof.stop && s.prof.atZero then 0 else s.rd 0 F.AXS_WEB_PROF_v_prof
  match s.webChannel with
  | some k => s.wrS 0 (F.MDR_CH_REF_ref k) (rdiv ((v * s.rd 0 F.AXS_WEB_RATIO_web_ratio : Nat) : Int) 131072)
  | none => s

/-- The web profile at a profile step (R314 to R317): in RUN it goes toward the effective target, else it follows the published velocity. -/
def State.profAdvance (s : State) : State :=
  let live := match s.webChannel with
    | some k => s.chState 0 k == chRun
    | none => false
  let s := s.modProf fun p => { p with atZero := p.stop && (p.atZero || (p.stopBegun && p.v == 0)) }
  if !(live && s.profWrites) then
    let s := (s.modProf fun p => { p with v := s.vel * profUnit, a := 0, ran := live, stopBegun := p.stop }).profShow 0 false
    if s.profWrites then s.profRef else s
  else
    let fresh := !s.prof.ran || (s.prof.stop && !s.prof.stopBegun)
    let v0 := if fresh then s.vel * profUnit else s.prof.v
    let t := s.profTarget
    let (v, a) := profStep v0 s.prof.a (t * profUnit : Nat) (max 1 (s.rd 0 F.AXS_WEB_ACC_web_acc) * 100000 : Nat) (s.profDec * 100000 : Nat)
      (s.rd 0 F.AXS_WEB_JERK_web_jerk)
    let low := (s.vel - s.rd 0 F.AXS_WEB_LEAD_web_lead) * profUnit
    let clamp := s.clampOn 0
    let v := if clamp then max v.toNat low else v.toNat
    let s := s.modProf fun p => { p with v := v, a := a, ran := true, stopBegun := p.stop }
    (s.profShow (webStateOf s.prof.stop (v / profUnit) t) clamp).profRef

/-! ### Stepper axes (R319 to R324) -/

/-- Axis states (R331). -/
def axOff : Nat := 0
def axHold : Nat := 1
def axMove : Nat := 2
def axBrake : Nat := 3
def axFault : Nat := 4

def State.axState (s : State) (x : Nat) : Nat := s.rd 0 (F.AXS_AX_STATUS_state x)

/-- A signed 40-bit pair. -/
def State.rdS40 (s : State) (die off : Nat) : Int := sgn 40 (s.rd40 die off)

/-- The current code of a state (R326). -/
def State.axCur (s : State) (x : Nat) (accel : Bool) : Nat :=
  let st := s.axState x
  if st = axOff ∨ st = axFault then 0
  else if st = axHold then 1
  else if accel && s.on 0 (F.AXS_AX_CFG_boost_en x) then 3 else 2

/-- An axis takes a state. -/
def State.axTo (s : State) (x st : Nat) : State :=
  let s := s.wr 0 (F.AXS_AX_STATUS_state x) st
  let s := if st = axBrake then s else s.wr 0 (F.AXS_AX_STATUS_rev_hold x) 0
  s.wr 0 (F.AXS_AX_STATUS_cur x) (s.axCur x false)

/-- Position and speed as the registers show them. -/
def State.axShow (s : State) (x : Nat) : State :=
  let a := s.axis x
  (s.wr40 0 (P.AXS_AX_POS x) (unsgn 40 (a.pos / 65536))).wrS 0 (F.AXS_AX_VEL_vel x) (rdiv a.v 1000000)

/-- A limit in force moves toward what is written, by at most jerk (R321). -/
def blendTo (cur goal jerk : Int) : Int := if cur < goal then min goal (cur + jerk) else max goal (cur - jerk)

/-- The axis comes to rest: the limits in force are those written. -/
def State.axRest (s : State) (x : Nat) : State :=
  s.modAxis x fun a => { a with v := 0, a := 0, accEff := max 1 (s.rd 0 (F.AXS_AX_ACC_acc x)) * 1000,
                                decEff := max 1 (s.rd 0 (F.AXS_AX_DEC_dec x)) * 1000,
                                vmaxEff := max 1 (s.rd 0 (F.AXS_AX_VMAX_vmax x)) * 1000000, vmaxRate := 0 }

/-- The travel of a step from one speed to another, 2^-16 microstep. -/
def axMoved (v v' : Int) : Int := rdiv ((v + v') * 65536) 200000000000

/-- Steps, at most `k`, in which a falling acceleration brings a speed to rest: the speed after `i` steps is v + a i - jerk i (i + 1) / 2. -/
def restSteps (v a jerk k : Int) : Int :=
  let b := 2 * a - jerk
  min k (max 0 ((b + isqrtAux (b * b + 8 * jerk * v).toNat 64 0) / (2 * jerk) + 1))

/-- The stopping distance of a jerk-limited profile, 2^-16 microstep, of a speed toward the target: with the travel that brings the present
acceleration to -dec at jerk (R320). -/
def stopDistance (v a dec jerk : Int) : Int :=
  let k := restSteps v a jerk (max 0 (-((-(a + dec)) / jerk)))
  let v1 := max 0 (v + a * k - jerk * k * (k + 1) / 2)
  let twice := 2 * (v * k + a * k * (k + 1) / 2 - jerk * k * (k + 1) * (k + 2) / 6) + v - v1
  max 0 twice * 65536 / 200000000000 + v1 * v1 * 65536 / (200000000000 * dec)

/-- What a jerk-limited profile keeps of a distance, 2^-16 microstep, so that the rounding of its steps takes it past no target. -/
def axMargin (d : Int) : Int := min 256 (d / 1024)

/-- The highest speed after a step from speed `v` that still stops within `d`, 2^-16 microstep, at `dec` (R320). -/
def stopSpeed (v d dec : Int) : Int :=
  let free := 2 * (d * 100000000000 / 65536) - v
  if free < 0 then 0 else ((isqrtAux (dec * dec + 4 * dec * free).toNat 64 0 : Int) - dec) / 2

/-- A step of a trapezoidal profile toward the target: to vmax at `acc`, and no faster than it can still stop, at `dec` (R320). -/
def trapStep (v d vmax acc dec : Int) : Int :=
  let free := if v ≤ vmax then min vmax (v + acc) else max vmax (v - dec)
  max (max 0 (v - dec)) (min free (stopSpeed v d dec))

/-- The next speed and acceleration toward the target: accelerating to vmax, or decelerating (R320). Speeds are taken in the direction of
the target. -/
def axStep (jerked accelerate : Bool) (v a vmax acc dec jerk : Int) : Int × Int :=
  let goal := if accelerate then (if v < vmax then acc else if vmax < v then -dec else 0) else (if 0 < v then -dec else if v < 0 then dec else 0)
  let a' := if !jerked then goal
    else if accelerate ∧ v < vmax ∧ 0 < a ∧ 2 * jerk * (vmax - v) ≤ a * a then max 0 (a - jerk)
    else if accelerate ∧ vmax < v ∧ a < 0 ∧ 2 * jerk * (v - vmax) ≤ a * a then min 0 (a + jerk)
    else blendTo a goal jerk
  let v' := v + a'
  if accelerate then (if (v ≤ vmax ∧ vmax < v') ∨ (vmax ≤ v ∧ v' < vmax) then (vmax, if jerked then a' else 0) else (v', a'))
  else if (0 < v ∧ v' ≤ 0) ∨ (v < 0 ∧ 0 ≤ v') then (0, 0) else (v', a')

/-- A decelerating step of a jerk-limited profile: the acceleration goes toward -dec at jerk; once it is there, no more is taken than stops the
axis at the target (R320). -/
def brakeStep (v a d vmax acc dec jerk : Int) : Int × Int :=
  let low := axStep true false v a vmax acc dec jerk
  if a ≤ jerk - dec then
    let w := max low.1 (min (v + a + jerk) (stopSpeed v (d - axMargin d) dec))
    (w, w - v)
  else low

/-- A move or a brake at one profile step (R320 to R322, R328). -/
def State.axAdvance (s : State) (x : Nat) : State :=
  let jerked := s.on 0 (F.AXS_AX_CFG_mode x)
  let jerk : Int := max 1 (s.rd 0 (F.AXS_AX_JERK_jerk x))
  let revMax : Int := s.rd 0 (F.AXS_AX_REV_MAX_rev_max x) * 1000000
  let s := s.modAxis x fun a => { a with accEff := blendTo a.accEff (max 1 (s.rd 0 (F.AXS_AX_ACC_acc x)) * 1000 : Nat) jerk,
                                         decEff := blendTo a.decEff (max 1 (s.rd 0 (F.AXS_AX_DEC_dec x)) * 1000 : Nat) jerk }
  let vmax : Int := (max 1 (s.rd 0 (F.AXS_AX_VMAX_vmax x)) * 1000000 : Nat)
  let s := s.modAxis x fun a =>
    let (v, r) := axStep true true a.vmaxEff a.vmaxRate vmax (max 1 a.accEff) (max 1 a.decEff) jerk
    { a with vmaxEff := v, vmaxRate := if v = vmax then 0 else r }
  let a := s.axis x
  let d := s.rdS40 0 (P.AXS_AX_TGT x) * 65536 - a.pos
  let dir : Int := if d < 0 then -1 else 1
  let v := a.v * dir
  let behind := a.newTgt && decide (v < 0 ∧ revMax < v.natAbs)
  let s := s.modAxis x fun a => { a with newTgt := false }
  let s := if behind && s.axState x == axMove then (s.axTo x axBrake).wr 0 (F.AXS_AX_STATUS_rev_hold x) 1
    else if s.axState x = axBrake ∧ v.natAbs ≤ revMax then (s.axTo x axMove).bump 0 (F.AXS_AX_CNT_rev_cnt x) else s
  let brake := s.axState x == axBrake || a.toRest.isSome
  let fast := axStep jerked true v (a.a * dir) vmax (max 1 a.accEff) (max 1 a.decEff) jerk
  let fits := decide (stopDistance fast.1 fast.2 (max 1 a.decEff) jerk + axMoved v fast.1 + axMargin d.natAbs ≤ d.natAbs)
  let (v', a') :=
    if brake || decide (v < 0) then axStep jerked false v (a.a * dir) vmax (max 1 a.accEff) (max 1 a.decEff) jerk
    else if jerked then
      if fits then fast else brakeStep v (a.a * dir) d.natAbs vmax (max 1 a.accEff) (max 1 a.decEff) jerk
    else
      let w := trapStep v d.natAbs a.vmaxEff (max 1 a.accEff) (max 1 a.decEff)
      (w, w - v)
  let accelerate := !brake && decide (0 ≤ v ∧ v < v')
  let step := axMoved v v'
  let passes := decide (0 ≤ v' ∧ (d.natAbs : Int) ≤ step)
  let s := s.wr 0 (F.AXS_AX_STATUS_cur x) (s.axCur x accelerate)
  if passes && a.toRest.isNone && decide (v'.natAbs ≤ a.decEff) then
    (((s.modAxis x fun a => { a with pos := a.pos + d }).axRest x).axTo x axHold).axShow x
  else
    let s := s.modAxis x fun b => { b with pos := b.pos + step * dir, v := v' * dir, a := a' * dir,
                                           dir := if v' = 0 then b.dir else if 0 < v' * dir then 1 else -1 }
    let s := if passes && decide (d ≠ 0 ∧ a.decEff < v'.natAbs) then
        (s.wr 0 (F.AXS_AX_STATUS_ovs_s x) 1).bump 0 (F.AXS_AX_CNT_ovs_cnt x) else s
    let s := match a.toRest with
      | some st => if v' = 0 then ((s.modAxis x fun a => { a with toRest := none }).axRest x).axTo x st else s
      | none => s
    s.axShow x

/-- One axis at a profile step: a written target starts a move from HOLD (R320). -/
def State.axProfile (s : State) (x : Nat) : State :=
  let st := s.axState x
  if st = axHold ∧ (s.axis x).newTgt then ((s.axRest x).axTo x axMove).axAdvance x
  else if st = axMove ∨ st = axBrake then s.axAdvance x
  else s.modAxis x fun a => { a with newTgt := false }

/-! ### The microstep bus (R325 to R328) -/

/-- The table address of an axis (R319). -/
def State.axAddr (s : State) (x : Nat) : Nat :=
  let a := s.axis x
  let p := if s.on 0 (F.AXS_AX_CFG_inv x) then (-a.pos) / 65536 else a.pos / 65536
  ((p + a.phase) % 1024).toNat

/-- CRC-8 with polynomial x^8 + x^2 + x + 1 over bytes (R326). -/
def crc8 (l : List Nat) : Nat :=
  l.foldl (fun c b => (List.range 8).foldl (fun c _ => if c.testBit 7 then (2 * c ^^^ 0x07) % 256 else 2 * c) (c ^^^ b % 256)) 0

/-- The frame of a profile step: header, eight slot words and check (R326). -/
def State.busFrame (s : State) : List Nat :=
  let h := s.prof.seq % 16 * 16 + 0xA
  let ws := (List.range 8).map fun x => s.rd 0 (F.AXS_AX_STATUS_cur x) * 16384 + s.axAddr x
  h :: ws ++ [crc8 (h :: ws.flatMap fun w => [w / 256, w % 256])]

/-- A fault of an axis takes the class of its axis (R328). -/
def State.axFaulted (s : State) (x : Nat) (det : Option Detector) : State :=
  let fs := if s.on 0 (F.AXS_AX_CFG_print_axis x) then s.framesInProgress else []
  let rep := fun (s : State) (cls : FClass) (cause : Nat) (fs : List Nat) => match det with
    | some d => s.detect d 0 .axs x cls cause fs
    | none => s.report 0 .axs x cls cause fs
  match s.rd 0 (F.AXS_AX_CFG_fclass x) with
  | 0 => rep s .c 0 []
  | 2 => match det with
    | some d => s.detectF d 0 .axs x 6 s.framesInProgress
    | none => s.raiseF 0 .axs x 6 s.framesInProgress
  | _ => rep (((s.modAxis x fun a => { a with v := 0, a := 0, toRest := none }).axTo x axFault).axShow x) .u
      (if fs.isEmpty then 0 else causeBit 6) fs

/-- A bit count. -/
def ones (v : Nat) : Nat := ((List.range 16).filter fun i => v.testBit i).length

/-- A change of the encoder count against or along the commanded motion: the measured position and its backlog (R323). -/
def State.axCount (s : State) (x : Nat) (delta : Int) : State :=
  let a := s.axis x
  let scale : Int := s.rd 0 (F.AXS_AX_ENC_enc_scale x)
  let dir : Int := if a.dir = 0 then (if delta < 0 then -1 else 1) else a.dir
  let along := delta * dir - a.backlog
  if 0 ≤ along then s.modAxis x fun a => { a with measured := a.measured + along * dir * scale, backlog := 0 }
  else if -along ≤ s.rd 0 (F.AXS_AX_ENC_enc_hyst x) then s.modAxis x fun a => { a with backlog := -along }
  else (s.modAxis x fun a => { a with measured := a.measured + along * dir * scale, backlog := 0 }).bump 0 (F.AXS_AX_CNT_back_cnt x)

/-- The axis's commanded direction has changed: the backlog is released (R323). -/
def State.axTurn (s : State) (x : Nat) (old : Int) : State :=
  let a := s.axis x
  if old = a.dir ∨ a.backlog = 0 then s
  else s.modAxis x fun a => { a with measured := a.measured - a.backlog * old * s.rd 0 (F.AXS_AX_ENC_enc_scale x), backlog := 0 }

/-- The encoder count of a good reply: extended, measured, and held against the commanded position (R323, R324). -/
def State.axEncoder (s : State) (x raw : Nat) : State :=
  if !s.on 0 (F.AXS_AX_CFG_enc_en x) then s
  else
    let delta := match (s.axis x).raw with
      | some r => sgn 12 (raw + 4096 - r)
      | none => 0
    let s := s.modAxis x fun a => { a with raw := some raw, count := a.count + delta }
    let s := (s.axCount x delta)
    let a := s.axis x
    let s := s.wr40 0 (P.AXS_AX_ENC_POS x) (unsgn 40 (a.measured / 4096))
    let st := s.axState x
    if st = axOff ∨ st = axFault then s.modAxis x fun a => { a with devRun := 0, stallOn := false }
    else
      let dev := a.pos - a.measured * 16
      let s := s.raiseTo 0 (F.AXS_AX_DEV_MAX_dev_max x) (dev.natAbs / 65536)
      if dev.natAbs ≤ s.rd 0 (F.AXS_AX_DEV_dev_win x) * 65536 then s.modAxis x fun a => { a with devRun := 0, stallOn := false }
      else
        let s := s.modAxis x fun a => { a with devRun := a.devRun + 1 }
        if (s.axis x).stallOn || decide ((s.axis x).devRun < max 1 (s.rd 0 (F.AXS_AX_DEV_dev_n x))) then s
        else ((s.modAxis x fun a => { a with stallOn := true }).wr 0 (F.AXS_AX_STATUS_stall_s x) 1).axFaulted x none

/-- The reply of a stage (R327): a loss is one of an enabled axis, a stage fault one of any. -/
def State.axReply (s : State) (x w : Nat) : State :=
  let live := s.axState x != axOff && s.axState x != axFault
  if !w.testBit 15 || ones w % 2 == 0 then
    let s := (s.bump 0 F.AXS_BUS_BAD_CNT_bad).modAxis x fun a => { a with badRun := a.badRun + 1 }
    if live && !(s.axis x).lostOn && decide (4 ≤ (s.axis x).badRun) then
      ((s.modAxis x fun a => { a with lostOn := true }).wr 0 (F.AXS_AX_STATUS_lost_s x) 1).axFaulted x (some (.stageLost x))
    else s
  else
    let s := s.modAxis x fun a => { a with badRun := 0, lostOn := false }
    let s := s.axEncoder x (w % 4096)
    if !w.testBit 14 then s.modAxis x fun a => { a with fltOn := false }
    else if (s.axis x).fltOn then s
    else ((s.modAxis x fun a => { a with fltOn := true }).wr 0 (F.AXS_AX_STATUS_stage_flt_s x) 1).axFaulted x (some (.stageFault x))

/-- PROFILE_STEP (R314 to R328): profiles advance, and with bus_en a frame is sent and the eight windows are read; a window that no stage
drives reads zero. AXS runs from boot step 6. -/
def execProfileStep (replies : List Nat) (s : State) : Out :=
  if s.boot.phase ≠ .released then .next s
  else
    let s := s.withUnit 0 .prof fun s => s.profAdvance
    let s := s.each (List.range 8) fun x s => s.withUnit 0 (.axis x) fun s => (s.axProfile x).axTurn x (s.axis x).dir
    if !s.on 0 F.AXS_CTRL_bus_en then .next s
    else
      let f := s.busFrame
      let s := s.modProf fun p => { p with frame := f, seq := (p.seq + 1) % 16 }
      .next (s.each (List.range 8) fun x s => s.axReply x (replies.getD x 0 % 65536))

/-! ### Commands (R320, R323, R328, R329, R331) -/

/-- A write to an axis's target (R320). -/
def State.axTgtWrite (s : State) (x v : Nat) : State := (s.wr40 0 (P.AXS_AX_TGT x) v).modAxis x fun a => { a with newTgt := true }

/-- A refused command of an axis (R329). -/
def State.axReject (s : State) (x : Nat) : State := (s.wr 0 (F.AXS_AX_STATUS_write_reject x) 1).reportC 0 .axs x

/-- The enable command (R329). -/
def State.axEnable (s : State) (x : Nat) : State :=
  if s.axState x = axOff then ((s.axRest x).axTo x axHold).axShow x else s.axReject x

/-- The disable command: the axis comes to rest and enters OFF (R329). -/
def State.axDisable (s : State) (x : Nat) : State :=
  let st := s.axState x
  if st = axFault then s.axReject x
  else if st = axHold then s.axTo x axOff
  else if st = axMove ∨ st = axBrake then s.modAxis x fun a => { a with toRest := some axOff }
  else s

/-- The preset command (R323): tgt is loaded, and phase keeps the address. -/
def State.axPreset (s : State) (x : Nat) : State :=
  if axMove ≤ s.axState x then s.axReject x
  else
    let t := s.rdS40 0 (P.AXS_AX_TGT x)
    let old := s.axAddr x
    let s := s.modAxis x fun a => { a with pos := t * 65536, measured := t * 4096, backlog := 0, phase := 0 }
    let s := s.modAxis x fun a => { a with phase := (old + 1024 - s.axAddr x) % 1024 }
    (s.wr40 0 (P.AXS_AX_ENC_POS x) (unsgn 40 t)).axShow x

/-- The clear command (R328): a stall, a loss or a stage fault that stands is a fault again once the axis is enabled. -/
def State.axClear (s : State) (x : Nat) : State :=
  if s.axState x = axFault then (s.axTo x axOff).modAxis x fun a => { a with stallOn := false, lostOn := false, fltOn := false } else s

/-- The clear_counters command of an axis (R331); in FAULT it is refused (R329). -/
def State.axClearCounters (s : State) (x : Nat) : State :=
  if s.axState x = axFault then s.axReject x
  else s.clearAll 0 [F.AXS_AX_CNT_back_cnt x, F.AXS_AX_CNT_rev_cnt x, F.AXS_AX_CNT_ovs_cnt x, F.AXS_AX_DEV_MAX_dev_max x]

/-- AXIS_TGT_WRITE (R320). -/
def execAxisTgtWrite (x v : Nat) (s : State) : Out := .next (if x < 8 then s.axTgtWrite x v else s)

/-- AXIS_ENABLE (R329). -/
def execAxisEnable (x : Nat) (s : State) : Out := .next (if x < 8 then s.axEnable x else s)

/-- AXIS_DISABLE (R329). -/
def execAxisDisable (x : Nat) (s : State) : Out := .next (if x < 8 then s.axDisable x else s)

/-- AXIS_PRESET (R323). -/
def execAxisPreset (x : Nat) (s : State) : Out := .next (if x < 8 then s.axPreset x else s)

/-- AXIS_CLEAR (R328). -/
def execAxisClear (x : Nat) (s : State) : Out := .next (if x < 8 then s.axClear x else s)

/-- AXS_AX_CLEAR_COUNTERS (R331). -/
def execAxsAxClearCounters (x : Nat) (s : State) : Out := .next (if x < 8 then s.axClearCounters x else s)

/-- AXS_CLEAR_COUNTERS (R331). -/
def execAxsClearCounters (s : State) : Out := .next (s.wr 0 F.AXS_BUS_BAD_CNT_bad 0)

end Sys2Proof.Machine
end

