-- ==== Sys2Proof/Machine/Reset.lean ====
section
/-! DEFINITION. The reset domains (R455): what a reset of the dies leaves of the state. -/

namespace Sys2Proof.Machine

/-- The registers of the Bay, which RESET_N does not reach (R413, R455). -/
def State.bayRegs (s : State) : Store := storeRange s.regs 0 0xF8000 0xF9000

/-- The levels of the interlock inputs, as the pins have them (R427). -/
def State.keepPins (s old : State) : State :=
  ((s.wr 0 F.HIF_ILK_STATUS_ilk_a (old.rd 0 F.HIF_ILK_STATUS_ilk_a)).wr 0 F.HIF_ILK_STATUS_ilk_b (old.rd 0 F.HIF_ILK_STATUS_ilk_b)).modPorts
    fun p => { p with discAt := old.ports.discAt }

/-- What holds the f_active level of hub position 19 over a reset: the trip latch, an open interlock, and VMAIN below its threshold after a
failure (R339, R358, R411, R427). -/
def State.keepActive (s old : State) : State :=
  let s := if s.on 0 F.BAY_STATUS_trip then (s.wr 0 F.FLT_PKG_trip 1).setHub19 10 true else s
  let s := if old.flt.hub19.contains 8 then s.setHub19 8 true else s
  if old.flt.hub19.contains 9 then s.setHub19 9 true else s

/-- The reset of the die domain, and with it of the PCI Express function and the service path: everything but the Bay, the Lovage cells, the
pins and the model's own queue, counter and time (R455). -/
def State.dieReset (s : State) : State :=
  let r := { State.reset with nStn := s.nStn, now := s.now, freeCtr := s.freeCtr, pending := s.pending, regs := s.bayRegs, bay := s.bay,
                              lov := { cells := s.lov.cells, bad := s.lov.bad } }
  (r.keepPins s).keepActive s

end Sys2Proof.Machine
end

