-- ==== Sys2Proof/Machine/Xfr.lean ====
section
/-! DEFINITION. The transfer engine (R132 to R151): descriptors, bursts and the holding register, requests and pacing, bus errors and halts,
commands and reservations. -/

namespace Sys2Proof.Machine

/-! ### Descriptors (R132 to R135) -/

/-- A transfer descriptor as its sixteen words. -/
abbrev XDesc := List Nat

def XDesc.w (x : XDesc) (i : Nat) : Nat := x.getD i 0
def XDesc.srcSp (x : XDesc) : Nat := bitsN (x.w 0) 19 18
def XDesc.dstSp (x : XDesc) : Nat := bitsN (x.w 0) 17 16
def XDesc.srcDie (x : XDesc) : Nat := bitsN (x.w 0) 15 13
def XDesc.dstDie (x : XDesc) : Nat := bitsN (x.w 0) 12 10
def XDesc.srcBeat (x : XDesc) : Nat := 2 ^ bitsN (x.w 0) 9 7
def XDesc.dstBeat (x : XDesc) : Nat := 2 ^ bitsN (x.w 0) 6 4
def XDesc.chain (x : XDesc) : Bool := (x.w 0).testBit 3
def XDesc.paced (x : XDesc) : Bool := (x.w 0).testBit 2
def XDesc.doneAct (x : XDesc) : Nat := bitsN (x.w 0) 1 0
def XDesc.addr3 (x : XDesc) (i : Nat) : Nat := x.w i + 0x100000 * x.w (i + 1) + 0x10000000000 * x.w (i + 2)
def XDesc.srcLen (x : XDesc) : Nat := x.w 7 + 1
def XDesc.srcStride (x : XDesc) : Nat := x.w 8
def XDesc.srcCnt (x : XDesc) : Nat := x.w 9 + 1
def XDesc.dstLen (x : XDesc) : Nat := x.w 10 + 1
def XDesc.dstStride (x : XDesc) : Nat := x.w 11
def XDesc.dstCnt (x : XDesc) : Nat := x.w 12 + 1
def XDesc.commitVal (x : XDesc) : Nat := x.w 13
def XDesc.ctx (x : XDesc) : Nat := bitsN (x.w 14) 19 17
def XDesc.next (x : XDesc) : Nat := bitsN (x.w 15) 18 0
/-- Bytes that the descriptor moves. -/
def XDesc.total (x : XDesc) : Nat := x.srcLen * x.srcCnt
/-- The addresses of byte k of the sequence on either side (R134). -/
def XDesc.srcAt (x : XDesc) (k : Nat) : Nat := x.addr3 1 + k / x.srcLen * x.srcStride + k % x.srcLen
def XDesc.dstAt (x : XDesc) (k : Nat) : Nat := x.addr3 4 + k / x.dstLen * x.dstStride + k % x.dstLen

/-- The size of a space: host addresses are 60 bits wide (R133). -/
def spaceSize (sp : Nat) : Nat := if sp = 0 then 2 ^ 60 else if sp = 1 then 0x1000000 else 0x4000000

/-- The die field of a side does not fit its space (R135). -/
def State.dieBad (s : State) (sp die : Nat) : Bool := if sp = 2 then !s.hasStn die else die != 0

/-- The last index of a die's descriptor memory (R132). -/
def lastDesc (d : Nat) : Nat := if d = 0 then 419429 else 63

/-- A descriptor that a channel refuses (R135); the empty one stands for an index outside the descriptor memory. -/
def State.xdescBad (s : State) (d : Nat) (x : XDesc) : Bool :=
  x.isEmpty || bitsN (x.w 14) 16 0 != 0 || (x.w 15).testBit 19 || x.srcSp == 3 || x.dstSp == 3 || decide (64 < x.srcBeat) || decide (64 < x.dstBeat)
    || s.dieBad x.srcSp x.srcDie || s.dieBad x.dstSp x.dstDie
    || (d != 0 && (x.srcSp != 2 || x.dstSp != 2 || x.srcDie != d || x.dstDie != d))
    || x.addr3 1 % x.srcBeat != 0 || x.srcStride % x.srcBeat != 0 || x.srcLen % x.srcBeat != 0
    || x.addr3 4 % x.dstBeat != 0 || x.dstStride % x.dstBeat != 0 || x.dstLen % x.dstBeat != 0
    || x.total != x.dstLen * x.dstCnt
    || (decide (1 < x.dstCnt) && decide (x.dstStride < x.dstLen))
    || decide (spaceSize x.srcSp < x.addr3 1 + (x.srcCnt - 1) * x.srcStride + x.srcLen)
    || decide (spaceSize x.dstSp < x.addr3 4 + (x.dstCnt - 1) * x.dstStride + x.dstLen)
    || (x.doneAct % 2 == 1 && x.dstSp != 2)
    || (x.chain && decide (lastDesc d < x.next))

/-- Four 20-bit words from the ten bytes of a code word, the first in the upper bits (R113, R132, R362). -/
def wordsOfBytes (l : List Nat) : List Nat :=
  let v := l.foldl (fun a b => a * 256 + b) 0
  [v / 2 ^ 60 % 0x100000, v / 2 ^ 40 % 0x100000, v / 2 ^ 20 % 0x100000, v % 0x100000]

/-- Reads the descriptor of a channel of a die as control memory (R132, R139, R364); none lies outside the descriptor memory. -/
def State.fetchDesc (s : State) (d i : Nat) : XDesc × State :=
  if lastDesc d < i then ([], s)
  else if d = 0 then
    let (l, s) := s.bufRead 0 (40 * i) 40 .control
    let b := l.map (·.1)
    (wordsOfBytes (b.take 10) ++ wordsOfBytes ((b.drop 10).take 10) ++ wordsOfBytes ((b.drop 20).take 10) ++ wordsOfBytes (b.drop 30), s)
  else
    let s := s.each (List.range 4) fun k s => (s.memRead d 3 (4 * i + k) .control).2
    (((s.xfrs.getD d {}).sdesc.lookup i).getD (List.replicate 16 0), s)

/-! ### Channel states (R140 to R145) -/

/-- Channels of a die. -/
def chanCount (d : Nat) : Nat := if d = 0 then 32 else 8

def State.hasXch (s : State) (d c : Nat) : Bool := s.hasDie d && decide (c < chanCount d)

/-- The channel of a station that RIN keeps for patch placement (R126, R140). -/
def patchCh (d c : Nat) : Bool := d != 0 && c == 7

/-- The state of a channel. The patch channel runs while a tile may be placed, and waits while tiles wait for a fetch (R126, R140). -/
def State.xState (s : State) (d c : Nat) : Nat :=
  if patchCh d c then (if (s.rin d).tiles.isEmpty then 0 else if s.tileReady d then 1 else 2) else s.rd d (F.XFR_CH_STATUS_state c)

/-- A channel runs a descriptor or waits for its request: it runs in the sense of R19. -/
def State.xRuns (s : State) (d c : Nat) : Bool := !patchCh d c && (s.xState d c == 1 || s.xState d c == 2)

/-- Bit c of a LO/HI pair. -/
def pairBit (base c : Nat) : Fld := ⟨base + 4 * (c / 20), c % 20, c % 20⟩

def State.xTo (s : State) (d c st : Nat) : State :=
  let s := (s.wr d (F.XFR_CH_STATUS_state c) st).wrB d (pairBit P.XFR_HALT c) (st == 3)
  if st = 3 then s else s.wr d (F.XFR_CH_STATUS_halt_cause c) 0

/-- The registers that show a channel's place: the first byte not written on both sides, and the holding register (R143, R150). -/
def State.xShow (s : State) (d c : Nat) : State :=
  let x := s.xch d c
  let s := s.wr d (F.XFR_CH_HOLD_hold_lvl c) x.hold.length
  let s := (s.wr d (F.XFR_CH_SRC_LINE_src_line c) (x.written / XDesc.srcLen x.desc)).wr d (F.XFR_CH_SRC_BYTE_src_byte c) (x.written % XDesc.srcLen x.desc)
  (s.wr d (F.XFR_CH_DST_LINE_dst_line c) (x.written / XDesc.dstLen x.desc)).wr d (F.XFR_CH_DST_BYTE_dst_byte c) (x.written % XDesc.dstLen x.desc)

/-- A channel halts with a cause: a U-class source, and the halt interrupt (R142, R143, R149, R419). -/
def State.xHalt (s : State) (d c cause : Nat) : State :=
  let s := (s.xTo d c 3).wr d (F.XFR_CH_STATUS_halt_cause c) cause
  (((s.beginShadow (.xfrHalt d c)).irq 3).report d .xfr c .u (causeBit 5) [])

/-- A refused command or write of a channel. -/
def State.xReject (s : State) (d c : Nat) : State := s.reject d .xfr (F.XFR_CH_STATUS_write_reject c)

/-- A channel takes a descriptor and starts it, or halts on an invalid one before it moves a byte (R135). -/
def State.xTake (s : State) (d c i : Nat) : State :=
  let (x, s) := s.fetchDesc d i
  let s := s.wr d (F.XFR_CH_CUR_DESC_cur c) i
  let s := s.modXch d c fun k => { desc := x, credit := k.credit, creditAt := k.creditAt }
  let s := s.xShow d c
  if s.xdescBad d x then s.xHalt d c 2 else s.xTo d c 1

/-- The start command (R145). -/
def State.xStart (s : State) (d c : Nat) : State :=
  if (d ≠ 0 ∧ c = 7) ∨ s.xRuns d c then s.xReject d c else s.xTake d c (s.rd d (F.XFR_CH_DESC_first c))

/-- The resume command: from the first byte not written (R143, R145). A halt on an invalid descriptor has no byte to go on from: the
descriptor is judged again. -/
def State.xResume (s : State) (d c : Nat) : State :=
  if (d ≠ 0 ∧ c = 7) ∨ s.xState d c ≠ 3 then s.xReject d c
  else if s.xdescBad d (s.xch d c).desc then s.xHalt d c 2
  else (s.modXch d c fun x => { x with burst := none, read := x.written, hold := [] }).xTo d c 1

/-- A channel goes idle with an empty holding register. -/
def State.xIdle (s : State) (d c : Nat) : State :=
  ((s.modXch d c fun x => { x with hold := [], burst := none, aborting := false }).wr d (F.XFR_CH_HOLD_hold_lvl c) 0).xTo d c 0

/-- The clear_counters command of a channel (R145, R150). -/
def State.xClear (s : State) (d c : Nat) : State :=
  if d ≠ 0 ∧ c = 7 then s.xReject d c
  else s.clearAll d [F.XFR_CH_RETRY_CNT_retry_cnt c, F.XFR_CH_REQ_DROP_req_drop c, F.XFR_CH_POISON_CNT_poison_cnt c]

/-- CHANNEL_START (R145). -/
def execChannelStart (die ch : Nat) (s : State) : Out := .next (if s.hasXch die ch then s.xStart die ch else s)

/-- RESUME (R143). -/
def execResume (die ch : Nat) (s : State) : Out := .next (if s.hasXch die ch then s.xResume die ch else s)

/-- XFR_CH_CLEAR_COUNTERS (R150). -/
def execXfrChClearCounters (die ch : Nat) (s : State) : Out := .next (if s.hasXch die ch then s.xClear die ch else s)

/-! ### Requests (R140, R141) -/

/-- The sealed set that a context of a station is bound to, on the hub's mirror. -/
def State.boundDesc (s : State) (n c : Nat) : Option RDesc :=
  ((s.mirror n).desc.find? fun d =>
    s.rsets.sealedSets.contains d.1 && (RDesc.mode d.2 == 0 || RDesc.mode d.2 == 2) && RDesc.ctx d.2 == c).map (·.2)

/-- The request of a channel: a station channel and req_sel 0 run free; a context asks while it has room for req_qty; the patch channel while a
tile may be placed (R140). -/
def State.xRequest (s : State) (d c : Nat) : Bool :=
  let r := s.rd 0 (F.XFR_CH_CFG_req_sel c)
  if patchCh d c then s.tileReady d
  else if d ≠ 0 ∨ r = 0 then true
  else
    let n := (r - 1) / 8 + 1
    let ctx := (r - 1) % 8
    match s.boundDesc n ctx with
    | none => false
    | some e =>
      let (com, rel, _) := (s.mirror n).ctx.getD ctx (0, 0, 0)
      let room : Int := (if e.mode = 2 then e.pslots else e.lines : Nat)
      decide (((max 1 (s.rd 0 (F.XFR_CH_REQ_req_qty c)) : Nat) : Int) ≤ seqDiff rel com + room)

/-- The request of a running channel is withdrawn: it waits, and a burst in flight counts the withdrawal once (R141, R142). -/
def State.requestGone (s : State) (c : Nat) : State :=
  let s := match (s.xch 0 c).burst with
    | some b =>
      if b.dropped then s
      else (s.bump 0 (F.XFR_CH_REQ_DROP_req_drop c)).modXch 0 c fun x => { x with burst := some { b with dropped := true } }
    | none => s
  s.xTo 0 c 2

/-- The mirror has changed: the requests that rest on it are withdrawn where they have fallen (R141). -/
def State.requestsFrom (s old : State) : State :=
  let had := (List.range 32).filter fun c => old.xRuns 0 c && XDesc.paced (old.xch 0 c).desc && old.xRequest 0 c
  s.each (had.filter fun c => !s.xRequest 0 c) fun c s => s.requestGone c

/-- MIRROR_UPDATE (R122, R140, R141): the station's report reaches the hub, and the requests that rest on it follow. -/
def execMirrorUpdate (n : Nat) (s : State) : Out :=
  .next (if s.hasStn n then ((s.modMirror n fun _ => s.mirrorOf n).keepUnit 0 (.mirror n)).requestsFrom s else s)

/-- A commit, and the requests of the channels that feed the context. -/
def State.commitNow (s : State) (n c v : Nat) : State := (s.commit n c v).requestsFrom s

/-- COMMIT_WRITE (R118). -/
def execCommitWrite (n c v : Nat) (s : State) : Out :=
  .next (if s.hasStn n && decide (c < 8) then s.commitNow n c (v % 1048576) else s)

/-! ### Bursts (R136 to R138, R142) -/

/-- Bytes of a whole burst of a channel. -/
def State.burstFull (s : State) (d c : Nat) : Nat :=
  let l := s.rd d (F.XFR_CH_CFG_burst_log2 c)
  2 ^ (if l < 4 then 7 else l)

/-- Bytes of a whole burst of a channel's descriptor: never shorter than a source beat (R136). -/
def State.burstMost (s : State) (d c : Nat) : Nat := max (s.burstFull d c) (XDesc.srcBeat (s.xch d c).desc)

/-- The length of the next burst (R136). -/
def State.burstLen (s : State) (d c : Nat) : Nat :=
  let x := s.xch d c
  let e : XDesc := x.desc
  let full := s.burstMost d c
  let line := e.srcLen - x.read % e.srcLen
  let page := if e.srcSp = 0 then 4096 - e.srcAt x.read % 4096 else full
  min full (min line page)

/-! ### Arbitration (R146) -/

/-- The reservation of a channel: stations have none. -/
def State.xRes (s : State) (d c : Nat) : Nat := if d = 0 then s.rd 0 (F.XFR_CH_RES_res_mbps c) else 0

/-- The credit of a channel now, in 1/1000 byte: res_mbps bytes each µs, capped at four bursts. -/
def State.xCredit (s : State) (d c : Nat) : Nat :=
  min (4000 * s.burstMost d c) ((s.xch d c).credit + s.xRes d c * (s.now - (s.xch d c).creditAt))

/-- The time from which a reserved channel has held credit for a whole burst: the older it is, the older the credit. -/
def State.xRipe (s : State) (d c : Nat) : Nat :=
  (s.xch d c).creditAt + cdivN (1000 * s.burstMost d c - (s.xch d c).credit) (s.xRes d c)

/-- A channel could issue a burst now, arbitration aside: it runs, has none in flight and bytes left to read, its holding register has room,
and a paced descriptor has its request. The patch channel could while a tile may be placed. -/
def State.xReady (s : State) (d c : Nat) : Bool :=
  let x := s.xch d c
  if patchCh d c then s.tileReady d
  else
    s.hasXch d c && s.xRuns d c && x.burst.isNone && decide (x.read < XDesc.total x.desc) && (!XDesc.paced x.desc || s.xRequest d c)
      && decide (x.hold.length + s.burstLen d c ≤ 128)

/-- The paths that a channel asks for: on the hub the PCI Express read path, 0, and class 5 of a die link, by its station; a station has one. -/
def State.xPaths (s : State) (d c : Nat) : List Nat :=
  let x : XDesc := (s.xch d c).desc
  if d ≠ 0 then [0] else (if x.srcSp = 0 then [0] else []) ++ if x.dstSp = 2 then [x.dstDie] else []

/-- The place of the last turn of a path and prio. -/
def State.xRound (s : State) (d p c : Nat) : Nat := 4 * p + s.rd d (F.XFR_CH_CFG_prio c)

/-- The place of a channel in the round of its prio on a path: the channel after the one that issued last comes first. -/
def State.xTurn (s : State) (d p c : Nat) : Nat := (c + 31 - (s.xfrs.getD d {}).lastOf.getD (s.xRound d p c) 31) % 32

/-- Channel `a` goes before channel `b` of the same die on a path. A reserved channel that lacks credit for a whole burst does not go at all. -/
def State.xBefore (s : State) (d path a b : Nat) : Bool :=
  if d ≠ 0 ∧ (a = 7 ∨ b = 7) then a == 7
  else
    match s.xRes d a != 0, s.xRes d b != 0 with
    | true, true => decide (s.xRipe d a ≤ s.now) && (decide (s.xRipe d a < s.xRipe d b) || (s.xRipe d a == s.xRipe d b && decide (a < b)))
    | true, false => decide (s.xRipe d a ≤ s.now)
    | false, true => decide (s.now < s.xRipe d b)
    | false, false =>
      let p := s.rd d (F.XFR_CH_CFG_prio a)
      let q := s.rd d (F.XFR_CH_CFG_prio b)
      decide (q < p) || (p == q && decide (s.xTurn d path a < s.xTurn d path b))

/-- A channel wins the paths of its next burst. -/
def State.xWins (s : State) (d c : Nat) : Bool :=
  (s.xRes d c == 0 || decide (s.xRipe d c ≤ s.now))
    && !(List.range (chanCount d)).any fun a =>
      a != c && s.xReady d a && (s.xPaths d c).any fun p => (s.xPaths d a).contains p && s.xBefore d p a c

/-- What an issue costs: the bytes of a burst from the credit of a reserved channel, and a best-effort channel its turn. -/
def State.xSpend (s : State) (d c n : Nat) : State :=
  if s.xRes d c ≠ 0 then
    let k := s.xCredit d c
    s.modXch d c fun x => { x with credit := k - 1000 * n, creditAt := s.now }
  else
    let ps := s.xPaths d c
    s.modXfr d fun t => { t with lastOf := ps.foldl (fun l p => l.set (s.xRound d p c) c) t.lastOf }

/-- BURST_ISSUE (R136, R141, R146): the holding register has room, a paced descriptor's request is asserted (else the channel waits), and
the channel wins its path. -/
def execBurstIssue (die ch : Nat) (s : State) : Out :=
  let x := s.xch die ch
  if !s.hasXch die ch || !s.xRuns die ch || x.burst.isSome || decide (XDesc.total x.desc ≤ x.read) then .next s
  else if XDesc.paced x.desc && !s.xRequest die ch then .next (s.xTo die ch 2)
  else if !s.xReady die ch || !s.xWins die ch then .next s
  else
    let b : Burst := { start := x.read, len := s.burstLen die ch, fails := 0, at_ := s.now }
    .next (((s.xSpend die ch b.len).modXch die ch fun x => { x with burst := some b }).xTo die ch 1)

/-- The next k bytes of the holding register leave for consecutive places of the destination, a line at a time (R137); the first number
bounds the lines. -/
def State.xWriteOut (s : State) (d c : Nat) : Nat → Nat → State
  | 0, _ => s
  | fuel + 1, k =>
    if k = 0 then s
    else
      let x := s.xch d c
      let e : XDesc := x.desc
      let n := min k (e.dstLen - x.written % e.dstLen)
      let a := e.dstAt x.written
      let part := x.hold.take n
      let s := s.modXch d c fun x => { x with hold := x.hold.drop n, written := x.written + n }
      let s := match e.dstSp with
        | 0 => s.modXch d c fun x => { x with sent := x.sent ++ part.zipIdx.map fun (p : (Nat × Bool) × Nat) => (a + p.2, p.1.1, p.1.2) }
        | 1 => s.bufWrite 0 n a part
        | _ => s.guardedWrite e.dstDie a part
      s.xWriteOut d c fuel (k - n)

/-- Every byte of the holding register is written out. -/
def State.xDrain (s : State) (d c : Nat) : State :=
  if (s.xch d c).hold.isEmpty then s
  else
    let s := s.modXch d c fun x => { x with sent := [] }
    (s.xWriteOut d c 129 (s.xch d c).hold.length).xShow d c

/-- The abort command (R145): at the next burst boundary, with what has been read written out. -/
def State.xAbort (s : State) (d c : Nat) : State :=
  if d ≠ 0 ∧ c = 7 then s.xReject d c
  else if s.xState d c = 0 then s
  else if s.xState d c = 3 then s.xIdle d c
  else if (s.xch d c).burst.isSome then s.modXch d c fun x => { x with aborting := true }
  else (s.xDrain d c).xIdle d c

/-- ABORT (R145). -/
def execAbort (die ch : Nat) (s : State) : Out := .next (if s.hasXch die ch then s.xAbort die ch else s)

/-- The bytes of a burst from their source, with poison marks: a burst lies within one source line (R136). Host memory is outside; its
bytes come with the command. -/
def State.xRead (s : State) (e : XDesc) (b : Burst) (host : List Nat) : List (Nat × Bool) × State :=
  match e.srcSp with
  | 0 => ((host ++ List.replicate (b.len - host.length) 0).take b.len |>.map fun v => (v % 256, false), s)
  | 1 => s.bufRead 0 (e.srcAt b.start) b.len .raster
  | _ => s.bufRead e.srcDie (e.srcAt b.start) b.len .raster

/-- BURST_COMPLETION (R137, R139, R141, R145): the bytes enter the holding register, and whole destination beats are written out, counted
from the start of the destination so that a descriptor resumed inside a beat ends on one. -/
def execBurstCompletion (die ch : Nat) (host : List Nat) (s : State) : Out :=
  match (s.xch die ch).burst with
  | none => .next s
  | some b =>
    if s.now < b.at_ then .next s
    else
    let e : XDesc := (s.xch die ch).desc
    let (l, s) := s.xRead e b host
    let bad := (wordsOf (e.srcAt b.start) b.len).filter fun w => (l.zipIdx.any fun x => x.1.2 && (e.srcAt b.start + x.2) / 10 == w)
    let s := if bad.isEmpty then s
      else ((s.bump die (F.XFR_CH_POISON_CNT_poison_cnt ch) bad.length).wr die (F.XFR_CH_STATUS_poison_s ch) 1).reportC die .xfr ch
    let s := if e.paced && !s.xRequest die ch && !b.dropped then s.bump die (F.XFR_CH_REQ_DROP_req_drop ch) else s
    let s := s.modXch die ch fun x => { x with hold := x.hold ++ l, read := b.start + b.len, burst := none, sent := [] }
    if (s.xch die ch).aborting then .next ((s.xDrain die ch).xIdle die ch)
    else
      let x := s.xch die ch
      let k := (x.written + x.hold.length) / e.dstBeat * e.dstBeat - x.written
      .next ((s.xWriteOut die ch 129 k).xShow die ch)

/-- BURST_RETRY (R142, R143): the burst in flight has ended in a bus error. It is reissued after retry_gap; when every retry has failed the
bytes of earlier bursts are written out and the channel halts. -/
def execBurstRetry (die ch : Nat) (s : State) : Out :=
  match (s.xch die ch).burst with
  | none => .next s
  | some b =>
    if s.now < b.at_ then .next s
    else if (s.xch die ch).aborting then .next ((s.xDrain die ch).xIdle die ch)
    else if b.fails < s.rd die (F.XFR_CH_CFG_retry_max ch) then
      let gap := 1000 * max 1 (s.rd die F.XFR_CTRL_retry_gap)
      let s := s.modXch die ch fun x => { x with burst := some { b with fails := b.fails + 1, at_ := s.now + gap } }
      .next (((s.bump die (F.XFR_CH_RETRY_CNT_retry_cnt ch)).wr die (F.XFR_CH_STATUS_retry_s ch) 1).reportC die .xfr ch)
    else
      let s := s.modXch die ch fun x => { x with burst := none, sent := [] }
      let s := s.xWriteOut die ch 129 (s.xch die ch).hold.length
      let s := (s.modXch die ch fun x => { x with read := x.written }).xShow die ch
      .next (s.xHalt die ch 1)

/-- DESCRIPTOR_COMPLETE (R138): the commit under its fence, then the interrupt, then the chain. -/
def execDescriptorComplete (die ch : Nat) (s : State) : Out :=
  let x := s.xch die ch
  let e : XDesc := x.desc
  if !s.hasXch die ch || !s.xRuns die ch || x.burst.isSome || x.desc.isEmpty || decide (x.written < e.total) then .next s
  else
    let s := if e.dstSp = 2 then s.flushAll e.dstDie else if e.dstSp = 1 then s.flushAll 0 else s
    let s := s.bumpWrap die (F.XFR_CH_DONE_CNT_done_cnt ch)
    let s := if e.doneAct % 2 = 1 then s.commitNow e.dstDie e.ctx e.commitVal else s
    let s := if 2 ≤ e.doneAct then (s.wr die (pairBit P.XFR_DONE ch) 1).irq 2 else s
    .next (if e.chain then s.xTake die ch e.next else s.xIdle die ch)

/-! ### Station descriptor memory (R151) -/

/-- The read command. -/
def State.sdescRead (s : State) (n : Nat) : State :=
  let i := s.rd n F.XFR_SDESC_IDX_idx
  let (x, s) := s.fetchDesc n i
  (s.each (List.range 16) fun w s => s.wr n (F.XFR_SDESC_W_word w) (x.w w)).wr n F.XFR_SDESC_RESULT_result 0

/-- The write command, refused with result 1 while a running or waiting channel executes the entry. -/
def State.sdescWrite (s : State) (n : Nat) : State :=
  let i := s.rd n F.XFR_SDESC_IDX_idx
  if (List.range 7).any fun c => s.xRuns n c && s.rd n (F.XFR_CH_CUR_DESC_cur c) == i then
    (s.wr n F.XFR_SDESC_RESULT_result 1).reject n .xfr F.XFR_STATUS_write_reject
  else
    let x := (List.range 16).map fun w => s.rd n (F.XFR_SDESC_W_word w)
    let s := s.each (List.range 4) fun k s => s.memStored n 3 (4 * i + k) false
    let s := s.modXfr n fun t => { t with sdesc := if x.all (· == 0) then storeDel t.sdesc i else storePut t.sdesc i x }
    s.wr n F.XFR_SDESC_RESULT_result 0

/-- SDESC_READ (R151). -/
def execSdescRead (n : Nat) (s : State) : Out := .next (if s.hasStn n then s.sdescRead n else s)

/-- SDESC_WRITE (R151). -/
def execSdescWrite (n : Nat) (s : State) : Out := .next (if s.hasStn n then s.sdescWrite n else s)

/-! ### Reservations (R147) -/

/-- The sum of the reservations of the hub channels, but one. -/
def State.resSum (s : State) (but : Nat) (p : Nat → Bool) : Nat :=
  ((List.range 32).filter fun c => c != but && p c).foldl (fun a c => a + s.rd 0 (F.XFR_CH_RES_res_mbps c)) 0

/-- The station that a req_sel names; 0 for a free-running channel. -/
def reqStation (r : Nat) : Nat := if r = 0 then 0 else (r - 1) / 8 + 1

/-- The sum over the other channels that name the station of a req_sel. -/
def State.stnResSum (s : State) (but r : Nat) : Nat :=
  s.resSum but fun c => reqStation (s.rd 0 (F.XFR_CH_CFG_req_sel c)) == reqStation r

/-- A write to res_mbps of a hub channel (R19, R147). -/
def State.resWrite (s : State) (c v : Nat) : State :=
  let r := s.rd 0 (F.XFR_CH_CFG_req_sel c)
  let sum := s.resSum c fun _ => true
  if v = s.rd 0 (F.XFR_CH_RES_res_mbps c) then s
  else if s.xRuns 0 c || decide (s.rd 0 F.XFR_RES_LIMIT_res_limit < sum + v) || (r != 0 && decide (7000 < s.stnResSum c r + v)) then s.xReject 0 c
  else
    let k := s.xCredit 0 c
    let s := s.modXch 0 c fun x => { x with credit := k, creditAt := s.now }
    (s.wr 0 (F.XFR_CH_RES_res_mbps c) v).wrSat 0 F.XFR_RES_SUM_res_sum (sum + v)

/-- A value of req_sel that a hub channel refuses whatever runs (R147, R150). -/
def State.reqSelBad (s : State) (c v : Nat) : Bool :=
  let res := s.rd 0 (F.XFR_CH_RES_res_mbps c)
  decide (57 ≤ v) || (v != 0 && decide (0 < res ∧ 7000 < s.stnResSum c v + res))

/-- A write to req_sel of a hub channel (R19, R147, R150). -/
def State.reqSelWrite (s : State) (c v : Nat) : State :=
  if v = s.rd 0 (F.XFR_CH_CFG_req_sel c) then s
  else if s.xRuns 0 c || s.reqSelBad c v then s.xReject 0 c
  else s.wr 0 (F.XFR_CH_CFG_req_sel c) v

/-- A write to XFR_RES_LIMIT on the hub (R150). -/
def State.resLimitWrite (s : State) (v : Nat) : State :=
  if v = s.rd 0 F.XFR_RES_LIMIT_res_limit then s
  else if ((List.range 32).any fun c => s.xRuns 0 c) || decide (v < s.rd 0 F.XFR_RES_SUM_res_sum) then s.reject 0 .xfr F.XFR_STATUS_write_reject
  else s.wr 0 F.XFR_RES_LIMIT_res_limit v

/-- RES_MBPS_WRITE (R147). -/
def execResMbpsWrite (ch v : Nat) (s : State) : Out := .next (if ch < 32 then s.resWrite ch (v % 16384) else s)

/-- REQ_SEL_WRITE (R147). -/
def execReqSelWrite (ch v : Nat) (s : State) : Out := .next (if ch < 32 then s.reqSelWrite ch (v % 64) else s)

/-- RES_LIMIT_WRITE (R150). -/
def execResLimitWrite (v : Nat) (s : State) : Out := .next (s.resLimitWrite (v % 16384))

end Sys2Proof.Machine
end

