-- ==== Sys2Proof/Machine/Frm.lean ====
section
/-! DEFINITION. Frame submission (R82 to R91, R97, R99, R122): the descriptor, the admission checks, the grid plan of a frame on a station, and
the cues of an admitted frame; withdrawal (R105). -/

namespace Sys2Proof.Machine

/-! ### The descriptor (R85) -/

/-- A frame descriptor. -/
structure Desc where
  job : Nat
  addr : Nat
  follow : Bool
  mask : Nat
  start : Nat
  lines : Nat
  rset : Nat
  tag : Nat
  gap : Nat
  reserved : Bool
  deriving DecidableEq, Repr

/-- The descriptor in FRM_SUB_W0 to W7. -/
def State.desc (s : State) : Desc :=
  let w := fun i => s.rd 0 (F.FRM_SUB_W_word i)
  { job := bitsN (w 0) 19 12, addr := bitsN (w 0) 11 10, follow := (w 0).testBit 9, mask := bitsN (w 0) 6 0,
    start := w 1 + 0x100000 * w 2, lines := w 3, rset := bitsN (w 4) 11 0, tag := w 5, gap := w 6,
    reserved := bitsN (w 0) 8 7 != 0 || bitsN (w 4) 19 12 != 0 || w 7 != 0 }

/-- The addressability in force (R85). Every station holds its own SCN_JOB.addr; with no job frame the model takes station 1's (DESIGN CHOICE, log
entry 204). -/
def State.addrInForce (s : State) : Nat :=
  match s.frm.jobs.head? with
  | some j => j.2.2
  | none => s.rd 1 F.SCN_JOB_addr

/-- The frame opens a new job (R85). -/
def State.opensJob (s : State) (d : Desc) : Bool :=
  match s.frm.jobs.head? with
  | some j => j.2.1 != d.job
  | none => true

/-- A descriptor is invalid (R85). -/
def State.descInvalid (s : State) (d : Desc) : Bool :=
  d.reserved || d.lines == 0 || d.addr == 3 || d.mask == 0 || decide (2 ^ s.nStn ≤ d.mask) || decide (256 ≤ d.rset)
    || (match s.frm.jobs.head? with
      | some j => j.2.1 == d.job && j.2.2 != d.addr
      | none => false)

/-- D_a (R88). -/
def State.admitLead (s : State) (a : Nat) : Nat := vMax a * s.rd 0 F.FRM_ADMIT_TIME_admit_time

/-- The stations of a mask that the variant has. -/
def State.masked (s : State) (mask : Nat) : List Nat := s.stns.filter fun n => mask.testBit (n - 1)

/-- Station offsets, and the hub's (R82). -/
def State.ofs (s : State) (d : Nat) : Nat := s.rd40 0 (if d = 0 then P.FRM_HUB_OFS else P.FRM_STN_OFS d)

/-- E_prev, and whether it ends a frame (R86). -/
def State.ePrev (s : State) : Nat × Bool :=
  match s.frm.frames.getLast? with
  | some f => (f.stop, true)
  | none => (s.pos, false)

/-- The largest re-phase distance of the masked stations and re-lock distance of the present ones, ticks; a station without a scanner contributes
zero (R99, R438). -/
def State.rphGap (s : State) (mask : Nat) : Nat :=
  (s.masked mask).foldl (fun a n => if 2 ≤ (s.mirror n).kind then a else max a ((s.mirror n).rph * 64000)) 0
def State.rlkGap (s : State) (addr : Nat) : Nat :=
  s.stns.foldl (fun a n => if 2 ≤ (s.mirror n).kind then a else max a ((s.mirror n).rlk.getD addr 0 * 64000)) 0

/-- The required gap for a frame that does not abut (R86, R99). -/
def State.farGap (s : State) (d : Desc) : Nat := if d.addr = s.addrInForce then s.rphGap d.mask else s.rlkGap d.addr

/-- The start position F of a descriptor (R85, R86). -/
def State.startOf (s : State) (d : Desc) : Nat :=
  if !d.follow then d.start
  else
    let (e, ends) := s.ePrev
    let g := if d.gap = 0 ∧ d.addr = s.addrInForce ∧ ends then 0 else s.farGap d
    posAdd e (max (64 * d.gap) g : Nat)

/-- The required gap G for a frame with a start position (R99). -/
def State.gapFor (s : State) (d : Desc) (f : Nat) : Nat :=
  let (e, ends) := s.ePrev
  if d.addr = s.addrInForce ∧ f = e ∧ ends then 0 else s.farGap d

/-- The end position E = F + round(N·q/1,024) (R82, R473). -/
def endOf (f lines a : Nat) : Nat := posAdd f (rdivUp ((lines * pitchOf a : Nat) : Int) 1024)

/-- The earliest issue point of a frame (R88). -/
def State.issuePoint (s : State) (start mask : Nat) : Nat :=
  posAdd start ((((s.masked mask).foldl (fun a n => min a (s.ofs n)) (s.ofs 0) : Nat) : Int) - 256)

/-! ### Check 7 (R122, R148) -/

/-- A stream context holds its reservation for a set at an addressability (R148). -/
def State.reserved (s : State) (n : Nat) (e : RDesc) (a : Nat) : Bool :=
  match (List.range 32).filter fun c => s.rd 0 (F.XFR_CH_CFG_req_sel c) == 8 * (n - 1) + e.ctx + 1 with
  | [c] => s.xState 0 c != 3 && decide (cdivN (e.stride * vMax a * 1024) (pitchOf a) ≤ s.rd 0 (F.XFR_CH_RES_res_mbps c))
  | _ => false

/-- The first condition of R122 that a set fails on a masked station; 0 for none. A set is sealed where the hub holds it sealed and, unless its
entry is unused, the station does. -/
def State.undeliverable (s : State) (d : Desc) (n : Nat) : Nat :=
  let m := s.mirror n
  let e : RDesc := (m.desc.lookup d.rset).getD unusedDesc
  let c := m.ctx.getD e.ctx (0, 0, 0)
  let earlier := s.frm.frames.any fun f =>
    let e' : RDesc := (m.desc.lookup f.rset).getD unusedDesc
    f.mask.testBit (n - 1) && e'.mode == 0 && e'.ctx == e.ctx
  let open_ := match s.rsets.pend with
    | some (r, _) => r == d.rset
    | none => false
  if !s.rsets.sealedSets.contains d.rset || open_ then 1
  else if e.mode = 3 then 2
  else if !m.sealedSets.contains d.rset then 1
  else if e.mode ≠ 0 ∧ e.lines < d.lines then 3
  else if e.mode = 0 ∧ !earlier ∧ seqDiff c.1 c.2.2 < (min d.lines e.prime : Nat) then 4
  else if e.mode = 0 ∧ !s.reserved n e d.addr then 5
  else if e.mode = 2 ∧ seqDiff c.1 c.2.2 ≤ 0 then 6
  else 0

/-- The first station and condition that fail check 7. -/
def State.diag7 (s : State) (d : Desc) : Option (Nat × Nat) :=
  ((s.masked d.mask).map fun n => (n, s.undeliverable d n)).find? fun x => x.2 != 0

/-! ### The plan of a frame on a station (R84, R97, R99, R154, R167, R168) -/

/-- The grid that a station will have run to the end of the frames it holds: a target in 1/1024 tick and the addressability. A scanner that runs
no grid, or a station without a scanner, has none (R97, R438). -/
def State.planGrid (s : State) (n : Nat) : Option (Nat × Nat) :=
  if !s.scRuns n then none
  else match ((s.rin n).frames.filter fun f => !f.gone).getLast? with
  | some f => if s.scanLines n f.addr = 0 then none else some (f.grid, f.addr)
  | none => (s.scn n).grid.map fun g => (g.target, g.addr)

/-- Rounded to a tick on the ring. -/
def gridTick (g : Nat) : Nat := (g + 512) / 1024 % two40

/-- The plan of a frame on a station: how it takes the grid, the first target of its grid, and the ticks of FRAME_START and FRAME_END. -/
def State.planFrame (s : State) (n : Nat) (f : Frame) (abuts : Bool) : GridKind × Nat × Nat × Nat :=
  let x := posAdd f.start (s.ofs n : Nat) * 1024
  let q := pitchOf f.addr
  let l := max 1 (s.scanLines n f.addr)
  let span := fun (j : Nat) => (((j + f.lines - 1) / l * (l * q) : Nat) : Int)
  match s.planGrid n with
  | some (g, a) =>
    if a ≠ f.addr then (.relocked, x, gridTick x, gridTick (gridAdd x (span 0)))
    else
      let m := rdivUp (gridDiff x g) q
      let j := (m % (l : Int)).toNat
      let o := gridAdd x (-(j * q : Nat))
      -- the first sweep stands on the grid of the frame before, the later ones on the new frame's (R154)
      if abuts then
        let t := gridTick (gridAdd g ((m - j) * q))
        (.continued, o, t, if span j = 0 then t else gridTick (gridAdd o (span j)))
      else (.rephased, o, gridTick o, gridTick (gridAdd o (span j)))
  | none => (.relocked, x, gridTick x, gridTick (gridAdd x (span 0)))

/-- The tick at which a switch at position B applies on a die (R97): the start of the first sweep of the running grid that carries a line
position at or after B + o_n. A line within the rounding of E, half a tick, stands at B (R82, R154). -/
def State.switchAt (s : State) (d b : Nat) : Nat :=
  let p := posAdd b (s.ofs d : Nat)
  if d = 0 then p
  else match s.planGrid d with
    | none => p
    | some (g, a) =>
      let q : Int := pitchOf a
      let l : Int := max 1 (s.scanLines d a)
      let i := -((-(gridDiff (p * 1024) g - 512)) / q)
      gridTick (gridAdd g (i / l * l * q))

/-! ### Admission (R87 to R89) -/

/-- The cue entries that a frame needs on each die (R89). -/
def cueNeed (d : Nat) (f : Frame) (marks : Nat) : Nat :=
  let j := if f.sw.isSome then 1 else 0
  if d = 0 then 3 + j + 2 * marks else (if f.mask.testBit (d - 1) then 2 else 0) + j

/-- Every die holds enough free FRM entries (R89). -/
def State.cueRoom (s : State) (f : Frame) (marks : Nat) : Bool :=
  s.dies.all fun d => decide ((s.frmUsed d).length + cueNeed d f marks ≤ 1024)

/-- A frame slot is free (R88). -/
def State.slotsUsed (s : State) : List Nat := s.frm.frames.map (·.slot) ++ s.frm.waiting.map (·.slot)

/-- The frame of a descriptor, as it would be admitted. -/
def State.frameOf (s : State) (d : Desc) : Frame :=
  let f := s.startOf d
  { id := s.frm.nextId, slot := freeEntry s.slotsUsed 256 0, serial := s.rd 0 F.FRM_NEXT_SERIAL_next_serial, job := d.job, addr := d.addr,
    mask := d.mask, start := f, stop := endOf f d.lines d.addr, lines := d.lines, rset := d.rset, tag := d.tag,
    sw := if s.opensJob d then some (s.rd 0 F.FRM_SW_STATUS_next_sw) else none }

/-- The marks of a frame, in the bank that its own arm takes where it opens a job (R243). -/
def State.marksOf (s : State) (f : Frame) : List MarkGeo := s.frameMarks f (if f.sw.isSome then s.rdStaged 0 else s.rd 0) (if f.sw.isSome then [] else s.rgc.offActive)

/-- SCN of every present station with a scanner runs, and holds the addressability or can re-lock to it (R88, check 8). -/
def State.scannersReady (s : State) (a : Nat) : Bool :=
  s.stns.all fun n =>
    let m := s.mirror n
    decide (2 ≤ m.kind) || (m.running && m.lockOk.testBit a)

/-- Admission checks 5 to 12 (R88): the first refusal code, 0 for none. -/
def State.lateChecks (s : State) (d : Desc) (f : Frame) : Nat :=
  let lead := posAdd s.pos (s.admitLead d.addr : Nat)
  if !posAhead (s.issuePoint f.start d.mask) lead then 5
  else if !posAhead f.start (posAdd s.ePrev.1 (s.gapFor d f.start : Nat)) then 6
  else if (s.diag7 d).isSome then 7
  else if !s.scannersReady d.addr then 8
  else if vMax d.addr * 256 < s.vel then 9
  else if (s.masked d.mask).any (fun n => (s.mirror n).forbid || (s.mirror n).chgForbid) || s.on 0 F.THM_PSTATUS_crit then 10
  else if s.frm.fHeld || s.on 0 F.FRM_STATUS_stopping then 11
  else if f.sw.isNone then 0
  else
    let short := match s.frm.bPrev with
      | some b => decide (posDiff f.start b < (64 * s.rd 0 F.FRM_JOB_MIN_job_min : Nat))
      | none => false
    if short || decide (256 ≤ s.frm.switches.length) then 12 else 0

/-- The frame abuts the one before on an unbroken grid (R86, R99). -/
def State.abuts (s : State) (f : Frame) : Bool :=
  decide (f.start = s.ePrev.1) && s.ePrev.2 && decide (f.addr = s.addrInForce)

/-- A station takes an admitted frame (R118): its lines or its group get their sequence numbers, and the plan of its grid stands. -/
def State.stnAdmit (s : State) (n : Nat) (f : Frame) (abuts : Bool) : State :=
  let (kind, g, t0, t1) := s.planFrame n f abuts
  let out := !f.mask.testBit (n - 1)
  let e := s.rdesc n f.rset
  let mode := if out then 3 else e.mode
  let s := s.tableRead n f.rset
  let s := if mode = 0 ∨ mode = 2 then s.useUnit n (.ctx e.ctx) else s
  let next := s.rd n (F.RIN_CTX_NEXT_next e.ctx)
  let sf : SFrame := { id := f.id, slot := f.slot, first := posAdd f.start (s.ofs n : Nat), lines := f.lines, addr := f.addr, rset := f.rset,
                       mode := mode, ctx := e.ctx, seq0 := next, job := f.job, sw := f.sw, grid := g, kind := kind, outside := out,
                       startTick := t0, endTick := t1 }
  let s := s.modRin n fun x => { x with frames := x.frames ++ [sf] }
  if mode ≠ 0 ∧ mode ≠ 2 then s
  else
    let next' := (next + if mode = 0 then f.lines else 1) % 1048576
    ((s.wr n (F.RIN_CTX_NEXT_next e.ctx) next').keepUnit n (.ctx e.ctx)).modMirror n fun m =>
      { m with ctx := m.ctx.modify e.ctx fun c => (c.1, c.2.1, next') }

/-- FRM places the cues of an admitted frame on the hub and its masked stations (R84, R244). -/
def State.placeFrame (s : State) (f : Frame) (abuts : Bool) : State :=
  let o := s.ofs 0
  let s := ((s.placeCue 0 0 (posAdd f.start (o : Nat)) 2 1 f.slot f.id).placeCue 0 0 (posAdd f.stop (o : Nat)) 0 2 f.slot f.id).placeCue 0 1
    (posAdd f.stop (s.rd40 0 P.FRM_CLOSE_OFS : Nat)) 3 2 f.slot f.id
  s.each (s.masked f.mask) fun n s =>
    let (_, _, t0, t1) := s.planFrame n f abuts
    (s.placeCue n 0 t0 2 1 f.slot f.id).placeCue n 0 t1 0 2 f.slot f.id

/-- The BANK_SWITCH cues of a job change (R97). -/
def State.placeSwitch (s : State) (f : Frame) (k b : Nat) : State :=
  s.each s.dies fun d s => s.placeCue d 0 (s.switchAt d b) 1 3 k f.id

/-- The MARK_WINDOW cues of a frame (R244). -/
def State.placeMarks (s : State) (f : Frame) (gs : List MarkGeo) : State :=
  s.each gs fun g s =>
    let l := if g.sensor < 4 then 2 else 3
    let s := (s.placeCue 0 l g.openTick 3 7 (8 + g.sensor) f.id).placeCue 0 l g.closeTick 3 7 g.sensor f.id
    (s.modRgc fun x => { x with expected := insertMark x.expected g }).keepUnit 0 (.markQ g.sensor)

/-- The switch position of a job change (R97). -/
def State.switchPos (s : State) (f : Frame) : Nat :=
  let e := s.ePrev.1
  let lead := posAdd s.pos (s.admitLead f.addr : Nat)
  if posAhead e lead then e else lead

/-- The admission checks in order (R88): the refusal code, 0 where the frame is admitted. -/
def State.admission (s : State) (d : Desc) (f : Frame) : Nat :=
  if !s.on 0 F.FRM_CTRL_admit_en then 1
  else if !s.on 0 F.WTB_STATUS_tb_ok then 2
  else if 256 ≤ s.slotsUsed.length then 3
  else if s.descInvalid d then 4
  else if !s.cueRoom f (s.marksOf f).length then 3
  else s.lateChecks d f

/-- A job change (R94, R97): the switch position, its arm for every present die, and its cues. -/
def State.openSwitch (s : State) (f : Frame) (k : Nat) : State :=
  let b := s.switchPos f
  let s := s.placeSwitch f k b
  let dies := s.dies
  let s := s.modFrm fun m => { m with switches := m.switches ++ [⟨k, f.id, dies, b, f.addr, m.bPrev⟩], bPrev := some b }
  let s := s.each s.dies fun d s => s.modCue d fun c => { c with armQ := c.armQ ++ [k] }
  s.wr 0 F.FRM_SW_STATUS_next_sw (k + 1)

/-- Admissions that may still become the job frame: those held, and the last one that is not (R85). -/
def State.trimJobs (s : State) : State :=
  let isHeld := fun (j : Nat × Nat × Nat) => s.frm.frames.any fun f => f.id == j.1
  s.modFrm fun m => { m with jobs := m.jobs.filter isHeld ++ (m.jobs.filter fun j => !isHeld j).take 1 }

/-- A frame is admitted (R87, R89, R94). -/
def State.admitFrame (s : State) (f : Frame) : State :=
  let abuts := s.abuts f
  let gs := s.marksOf f
  let s := match f.sw with
    | some k => s.openSwitch f k
    | none => s
  let s := ((s.placeFrame f abuts).placeMarks f gs).modRgc fun r => { r with enOn := s.on 0 F.RGC_CTRL_en }
  let s := s.each s.stns fun n s => s.stnAdmit n f abuts
  let s := s.modFrm fun m => { m with frames := m.frames ++ [f], nextId := m.nextId + 1, jobs := (f.id, f.job, f.addr) :: m.jobs }
  let s := ((s.each s.stns fun n s => s.keepUnit 0 (.mirror n)).keepUnit 0 (.rset f.rset)).keepUnit 0 (.frame f.slot)
  let s := (s.trimJobs.each s.dies fun d s => s.syncFrm d).frmShow
  let s := (s.wr 0 F.FRM_ADMIT_STATUS_result 0).wr 0 F.FRM_ADMIT_SERIAL_serial f.serial
  let s := (s.wr40 0 P.FRM_ADMIT_START f.start).wr 0 F.FRM_NEXT_SERIAL_next_serial (f.serial + 1)
  s.bumpWrap 0 F.FRM_ADMIT_CNT_admit_cnt

/-- A submission is refused (R87, R122). -/
def State.refuse (s : State) (d : Desc) (code : Nat) : State :=
  let s := (s.wr 0 F.FRM_ADMIT_STATUS_result code).bump 0 F.FRM_REFUSE_CNT_refuse_cnt
  match if code = 7 then s.diag7 d else none with
  | some (n, r) => ((s.wr 0 F.RIN_ADMIT_DIAG_stn n).wr 0 F.RIN_ADMIT_DIAG_reason r).wr 0 F.RIN_ADMIT_DIAG_rset d.rset
  | none => s

/-- The submit command (R88). -/
def State.submit (s : State) : State :=
  let d := s.desc
  let s := (s.each s.stns fun n s => s.useUnit 0 (.mirror n)).useUnit 0 (.rset d.rset)
  let f := s.frameOf d
  let c := s.admission d f
  if c = 0 then s.admitFrame f else s.refuse d c

/-! ### Withdrawal (R105) -/

/-- Frames are withdrawn from the last back, until one whose earliest issue point lies behind p + D_a (R105), or one that has started (DESIGN
CHOICE, log entry 252). -/
def State.withdrawFrom (s : State) : List Frame → State
  | [] => s
  | f :: t =>
    if f.started || !posAhead (s.issuePoint f.start f.mask) (posAdd s.pos (s.admitLead f.addr : Nat)) then s
    else (s.removeFrame { f with withdrawn := true }).withdrawFrom t

/-- The withdraw command. -/
def State.withdraw (s : State) : State := s.withdrawFrom s.frm.frames.reverse

/-- The clear_counters command of FRM (R109). -/
def State.frmClear (s : State) : State :=
  s.clearAll 0 [F.FRM_POP_EMPTY_CNT_pop_empty, F.FRM_ADMIT_CNT_admit_cnt, F.FRM_REFUSE_CNT_refuse_cnt, F.FRM_FLAG_CNT_flag_cnt,
    F.FRM_CANCEL_CNT_cancel_cnt]

/-- SUBMIT (R88). -/
def execSubmit (s : State) : Out := .next s.submit

/-- WITHDRAW (R105). -/
def execWithdraw (s : State) : Out := .next s.withdraw

/-- POP_DONE (R106). -/
def execPopDone (s : State) : Out := .next s.popDone

/-- FRM_CLEAR_COUNTERS (R109). -/
def execFrmClearCounters (s : State) : Out := .next s.frmClear

end Sys2Proof.Machine
end

