-- ==== Sys2Proof/Machine/Thm.lean ====
section
/-! DEFINITION. Thermal management (R332 to R342): conversions and failed sensors, the station thermistors and the two gates, WARN with its
slow request and enforcement, the orderly stop at CRIT, and the trip. -/

namespace Sys2Proof.Machine

/-- n_conf (R335, R342). -/
def State.thmConf (s : State) : Nat := max 1 (s.rd 0 F.THM_HYST_n_conf)

/-! ### Conversions (R332, R335) -/

/-- A reading inside −55.0 to 150.0 °C (R332). -/
def thmValid (t : Int) : Bool := decide (-550 ≤ t ∧ t ≤ 1500)

/-- The reading of one sensor: a new failure is a U report; a failed sensor returns after n_conf valid conversions (R332). -/
def State.thmSensor (s : State) (d i : Nat) (t : Int) : State :=
  let failed := s.on d (F.THM_SENS_fail i)
  let s := s.wrS d (F.THM_SENS_temp i) t
  if !thmValid t then
    let s := s.modThmDie d fun x => { x with good := x.good.set i 0 }
    if failed then s
    else ((s.wr d (F.THM_SENS_fail i) 1).wr d F.THM_STATUS_sens_s 1).report d .thm i .u 0 []
  else if !failed then s
  else
    let k := (s.thmDie d).good.getD i 0 + 1
    let s := s.modThmDie d fun x => { x with good := x.good.set i k }
    if s.thmConf ≤ k then s.wr d (F.THM_SENS_fail i) 0 else s

/-- The sensors of a die in use. -/
def State.thmLive (s : State) (d : Nat) : List Nat := (List.range 8).filter fun i => !s.on d (F.THM_SENS_fail i)

/-- A die with five or more failed sensors is treated as being at CRIT (R332). -/
def State.thmBlind (s : State) (d : Nat) : Bool := decide ((s.thmLive d).length ≤ 3)

/-- A die's maximum and the sensor that gave it (R332). -/
def State.thmMax (s : State) (d : Nat) : State :=
  match s.thmLive d with
  | [] => s
  | i :: t =>
    let h := t.foldl (fun h i => if s.rdS d (F.THM_SENS_temp h) < s.rdS d (F.THM_SENS_temp i) then i else h) i
    (s.wr d F.THM_DIE_hottest h).wr d F.THM_DIE_max (s.rd d (F.THM_SENS_temp h))

/-- The package maximum with its die and sensor (R332). -/
def State.thmPkg (s : State) : State :=
  let h := s.stns.foldl (fun h d => if s.rdS h F.THM_DIE_max < s.rdS d F.THM_DIE_max then d else h) 0
  ((s.wr 0 F.THM_PKG_die h).wr 0 F.THM_PKG_sensor (s.rd h F.THM_DIE_hottest)).wr 0 F.THM_PKG_max (s.rd h F.THM_DIE_max)

/-- A threshold comparison of a die: its maximum against a level, CRIT for a blind die (R332, R335). -/
def State.thmAt (s : State) (d : Nat) (lvl : Int) : Bool := s.thmBlind d || decide (lvl ≤ s.rdS d F.THM_DIE_max)

/-- The trip threshold (R342). -/
def State.tripLevel (s : State) : Int := min 1150 (s.rdS 0 F.THM_TRIP_trip)

/-- A die's maximum is below a level less the hysteresis (R335, R338, R339). -/
def State.thmCool (s : State) (d : Nat) (lvl : Int) : Bool :=
  !s.thmBlind d && decide (s.rdS d F.THM_DIE_max < lvl - s.rd 0 F.THM_HYST_hyst)

/-- A run of consecutive conversions. -/
def runOn (b : Bool) (n : Nat) : Nat := if b then satN 20 (n + 1) else 0

/-- The comparisons of a die after a conversion (R335, R339). -/
def State.thmCompare (s : State) (d : Nat) : State :=
  let warn := s.thmAt d (s.rdS 0 F.THM_WARN_warn)
  let crit := s.thmAt d (s.rdS 0 F.THM_CRIT_crit)
  let cool := s.thmCool d (s.rdS 0 F.THM_WARN_warn)
  let hot := (List.range 8).any fun i => decide (s.tripLevel ≤ s.rdS d (F.THM_SENS_temp i))
  let s := ((s.wrB d F.THM_STATUS_warn warn).wrB d F.THM_STATUS_crit crit).wrB d F.THM_STATUS_trip hot
  s.modThmDie d fun x =>
    { x with warnRun := runOn warn x.warnRun, critRun := runOn crit x.critRun, coolRun := runOn cool x.coolRun }

/-- While CRIT is latched its f_active is high, but while every die maximum lies below crit less hyst (R338, R343). -/
def State.thmActive (s : State) : State :=
  s.setActive 0 .thm (s.on 0 F.THM_PSTATUS_crit && !s.dies.all fun d => s.thmCool d (s.rdS 0 F.THM_CRIT_crit))

/-- THM_CONVERSION (R332): the eight readings of a die in 0.1 °C. -/
def execThmConversion (die : Nat) (temps : List Int) (s : State) : Out :=
  if !s.hasDie die then .next s
  else
    .next (s.withUnit die .therm fun s =>
      let s := s.each (List.range 8) fun i s => s.thmSensor die i (temps.getD i 0)
      ((s.thmMax die).thmPkg.thmCompare die).thmActive)

/-! ### Station thermistors and gates (R333, R334) -/

/-- Temperature of an ADC fraction, in 2^-20 of full scale, through the die's table (R333). -/
def State.thmLin (s : State) (n frac : Nat) : Int :=
  let i := min 31 (frac / 32768)
  let a := s.rdS n (F.THM_LIN_t i)
  let b := s.rdS n (F.THM_LIN_t (i + 1))
  rdiv (a * 32768 + (b - a) * ((frac - i * 32768 : Nat) : Int)) 32768

/-- A fraction inside 0.5 to 99.5 % (R333). -/
def fracValid (frac : Nat) : Bool := decide (5 * 1048576 ≤ frac * 1000) && decide (frac * 1000 ≤ 995 * 1048576)

/-- The sample of one external input, whatever its role (R333). -/
def State.thmInput (s : State) (n j frac : Nat) : State :=
  let failed := s.on n (F.THM_EXT_TEMP_fail j)
  let s := s.ctlRead n 6 0x60100 0x60184 0
  let s := s.wrS n (F.THM_EXT_TEMP_temp j) (s.thmLin n frac)
  if !fracValid frac then
    let s := s.modThmDie n fun x => { x with extGood := x.extGood.set j 0 }
    if failed then s
    else ((s.wr n (F.THM_EXT_TEMP_fail j) 1).wr n F.THM_STATUS_sens_s 1).report n .thm (8 + j) .u 0 []
  else if !failed then s
  else
    let k := (s.thmDie n).extGood.getD j 0 + 1
    let s := s.modThmDie n fun x => { x with extGood := x.extGood.set j k }
    if s.thmConf ≤ k then s.wr n (F.THM_EXT_TEMP_fail j) 0 else s

/-- Every input of a role lies within a window narrowed by a margin; there is at least one, and none has failed (R333, R334). -/
def State.gateInside (s : State) (n role lo hi : Nat) (margin : Int) : Bool :=
  let js := (List.range 4).filter fun j => s.rd n (F.THM_EXT_CFG_role j) == role
  !js.isEmpty && js.all fun j =>
    let t := s.rdS n (F.THM_EXT_TEMP_temp j)
    !s.on n (F.THM_EXT_TEMP_fail j) && decide ((lo : Int) + margin ≤ t ∧ t ≤ (hi : Int) - margin)

/-- The condition of write_ok, with a margin (R334). -/
def State.writeInside (s : State) (n : Nat) (margin : Int) : Bool :=
  s.gateInside n 1 (min 600 (s.rd n F.THM_WIN_WR_wr_lo)) (min 600 (s.rd n F.THM_WIN_WR_wr_hi)) margin
    && decide (s.rdS n F.THM_DIE_max ≤ 1000)

/-- The condition of charge_ok, with a margin (R334). -/
def State.chargeInside (s : State) (n : Nat) (margin : Int) : Bool :=
  s.gateInside n 2 (min 700 (s.rd n F.THM_WIN_CHG_chg_lo)) (min 700 (s.rd n F.THM_WIN_CHG_chg_hi)) margin

/-- The gates after a sample: a gate falls at once; the samples for its rise are counted (R334). -/
def State.thmGates (s : State) (n : Nat) : State :=
  let wr := s.writeInside n 5
  let chg := s.chargeInside n 5
  let s := s.modThmDie n fun x => { x with wrGood := runOn wr x.wrGood, chgGood := runOn chg x.chgGood }
  let s := if s.on n F.THM_STATUS_write_ok && !s.writeInside n 0 then (s.wr n F.THM_STATUS_write_ok 0).writeOkFall n else s
  if s.on n F.THM_STATUS_charge_ok && !s.chargeInside n 0 then s.chargeFall n else s

/-- THM_EXT_SAMPLE (R333): the four ADC fractions of a station. -/
def execThmExtSample (n : Nat) (fracs : List Nat) (s : State) : Out :=
  if !s.hasStn n then .next s
  else .next (s.withUnit n .therm fun s => (s.each (List.range 4) fun j s => s.thmInput n j (fracs.getD j 0)).thmGates n)

/-- GATE_RISE (R334). -/
def execGateRise (n : Nat) (charge : Bool) (s : State) : Out :=
  if !s.hasStn n then .next s
  else if charge then
    .next (if !s.on n F.THM_STATUS_charge_ok && decide (s.thmConf ≤ (s.thmDie n).chgGood) then s.chargeRise n else s)
  else
    .next (if !s.on n F.THM_STATUS_write_ok && decide (s.thmConf ≤ (s.thmDie n).wrGood) then
      (s.wr n F.THM_STATUS_write_ok 1).writeOkRise n else s)

/-! ### WARN (R335 to R337) -/

/-- CRIT is entered by the present conversions (R335, R340). -/
def State.critDue (s : State) : Bool := s.dies.any fun d => decide (s.thmConf ≤ (s.thmDie d).critRun)

/-- WARN clears by the present conversions (R335). -/
def State.warnOver (s : State) : Bool := s.dies.all fun d => decide (s.thmConf ≤ (s.thmDie d).coolRun)

/-- WARN_ENTRY (R336, R337, R340). -/
def execWarnEntry (s : State) : Out :=
  if s.on 0 F.THM_PSTATUS_warn || !s.dies.any (fun d => decide (s.thmConf ≤ (s.thmDie d).warnRun)) then .next s
  else
    let s := (((s.wr 0 F.THM_PSTATUS_warn 1).wr 0 F.THM_PSTATUS_warn_s 1).wr 0 F.THM_PSTATUS_slow_request 1).modThm fun t =>
      { t with releasing := false }
    let s := ((s.pressSlow 1).irq 4).reportC 0 .thm
    let grace := 100000000 * max 5 (min 600 (s.rd 0 F.THM_GRACE_grace))
    .next (if s.thm.bound || s.critDue || s.on 0 F.THM_PSTATUS_crit then s
      else (s.wr 0 F.THM_PSTATUS_grace_run 1).modThm fun t => { t with graceAt := s.now + grace })

/-- WARN clears: a grace timer stops with nothing enforced, or the release count starts (R337). -/
def State.warnClear (s : State) : State :=
  let s := s.wr 0 F.THM_PSTATUS_warn 0
  if s.on 0 F.THM_PSTATUS_grace_run then
    ((s.wr 0 F.THM_PSTATUS_grace_run 0).wr 0 F.THM_PSTATUS_slow_request 0).pressSlow 4
  else s.modThm fun t => { t with releasing := true, releaseAt := s.now + 1000000000 * s.rd 0 F.THM_RELEASE_release }

/-- WARN_CLEAR (R337). -/
def execWarnClear (s : State) : Out := .next (if s.on 0 F.THM_PSTATUS_warn && s.warnOver then s.warnClear else s)

/-- slow_v becomes a bound on the web; above it the web is enforced (R336). -/
def State.enforce (s : State) : State :=
  let v := s.rd 0 F.THM_SLOW_V_slow_v
  let s := (s.wr 0 F.THM_PSTATUS_grace_run 0).modThm fun t => { t with bound := true }
  if s.vel ≤ v then s
  else
    let s := ((s.wr 0 F.THM_PSTATUS_enforced 1).wr 0 F.THM_PSTATUS_enf_s 1).bump 0 F.THM_ENF_CNT_enf_cnt
    ((s.evrNow 4 true 0x01000 v).pressSlow 2).irq 4

/-- GRACE_EXPIRY (R336, R340): a clear by the same sample wins. -/
def execGraceExpiry (s : State) : Out :=
  if !s.on 0 F.THM_PSTATUS_grace_run || !s.on 0 F.THM_PSTATUS_warn || decide (s.now < s.thm.graceAt) then .next s
  else .next (if s.warnOver then s.warnClear else s.enforce)

/-- RELEASE_EXPIRY (R337). -/
def execReleaseExpiry (s : State) : Out :=
  if !s.thm.releasing || s.on 0 F.THM_PSTATUS_warn || decide (s.now < s.thm.releaseAt) then .next s
  else
    let s := (s.wr 0 F.THM_PSTATUS_slow_request 0).wr 0 F.THM_PSTATUS_enforced 0
    .next (((s.modThm fun t => { t with bound := false, releasing := false }).pressSlow 3).irq 4)

/-! ### The orderly stop (R338) -/

/-- The signed ticks from the published position to the finish point: the largest E + o_n + L_s(a)·q/1,024 of the frames in progress and
their stations (R338); negative where the last of them lies behind the web. -/
def State.finishPoint (s : State) : Int :=
  let ends := (s.frm.frames.filter (·.started)).flatMap fun f => (s.masked f.mask).map fun n =>
    posDiff (posAdd (endOf f.stop (s.scanLines n f.addr) f.addr) (s.ofs n : Nat)) s.pos
  ends.foldl max (ends.headD 0)

/-- t_fin + t_stop ≤ crit_budget, exactly: speeds in 1/256 tick per µs are 1,000/16,384 mm/s, and both sides are multiplied by the product of
the denominators (R8, R338). A web at rest never reaches a point ahead of it. -/
def State.finishFits (s : State) (dist : Int) : Bool :=
  let v := s.vel
  let d := max 1 (s.rd 0 F.AXS_WEB_STOP_DEC_web_stop_dec)
  let j := s.rd 0 F.AXS_WEB_JERK_web_jerk
  let budget := s.rd 0 F.THM_CRIT_BUDGET_crit_budget
  if v = 0 then decide (dist ≤ 0)
  else if j ≠ 0 ∧ 16384 * d * d ≤ 1000 * v * j then
    decide (dist * 256 * 16384 * d * j + 1000000000 * v * v * j + 16384000000 * d * d * v ≤ budget * v * 16384000 * d * j)
  else decide (dist * 256 * 16384 * d + 1000000000 * v * v ≤ budget * v * 16384000 * d)

/-- The report of THM_CRIT: its stop follows the phases (R338, R353). -/
def State.reportCrit (s : State) : State :=
  let r : Report := { die := 0, pos := fltPos 0 .thm, src := 16, cls := .f, cause := causeBit 18, frames := [], at40 := s.pos, time := s.now,
                      orderly := true }
  s.modFlt fun f => { f with inbox := f.inbox ++ [r] }

/-- Phase RAMP begins: the web ramps to zero (R315, R338). -/
def State.phaseRamp (s : State) : State := (s.wr 0 F.THM_PSTATUS_phase 2).webStop

/-- The choice between FINISH and blanking at CRIT; a web that is at its finish point already goes on to RAMP (R338). -/
def State.critPhase (s : State) : State :=
  if s.framesInProgress.isEmpty then s.phaseRamp
  else
    let dist := s.finishPoint
    if s.finishFits dist then
      if dist ≤ 0 then s.phaseRamp
      else (s.wr 0 F.THM_PSTATUS_phase 1).modThm fun t => { t with pfin := posAdd s.pos dist }
    else (s.each s.stns fun n s => s.addBlank n .crit).phaseRamp

/-- CRIT_ENTRY (R338). -/
def execCritEntry (s : State) : Out :=
  if s.on 0 F.THM_PSTATUS_crit || !s.critDue then .next s
  else
    let s := ((s.wr 0 F.THM_PSTATUS_crit 1).wr 0 F.THM_PSTATUS_crit_s 1).irq 4
    let s := (s.setActive 0 .thm true).reportCrit
    .next (if s.rd 0 F.FLT_PKG_state ≠ 0 ∨ s.rd 0 F.THM_PSTATUS_phase ≠ 0 then s else s.critPhase)

/-- FINISH_POINT (R44, R338): the instant at which the web reaches P_fin is resolved by the present update. -/
def execFinishPoint (s : State) : Out :=
  .next (if s.rd 0 F.THM_PSTATUS_phase == 1 && (s.webDue 0 s.thm.pfin).isSome then s.phaseRamp else s)

/-- PHASE_SAFE (R338): the published velocity has stayed at zero for hold_ms. -/
def execPhaseSafe (s : State) : Out :=
  if s.rd 0 F.THM_PSTATUS_phase ≠ 2 ∨ !s.webRested then .next s
  else
    let s := (s.wr 0 F.THM_PSTATUS_phase 3).each s.dies fun d s => s.safeOffDie d
    .next (((s.wr 0 F.HIF_ILK_STATUS_so_lsr 1).wr 0 F.HIF_ILK_STATUS_so_hv 1).toStopped)

/-! ### The trip (R339) -/

/-- The Bay removes every drive enable of a die: motors coast, high voltage and laser go safe (R339). -/
def State.tripDie (s : State) (d : Nat) : State :=
  let s := s.each (chanList d) fun k s =>
    if s.chState d k = chOff ∨ s.chState d k = chCoast then s
    else (s.modChan d k fun c => { c with faulted := true }).chStop d k true
  s.safeOffDie d

/-- THM_TRIP (R339, R412): a sensor of the die is at or above trip. -/
def execThmTrip (die : Nat) (s : State) : Out :=
  if !s.hasDie die || !s.on die F.THM_STATUS_trip || s.on 0 F.BAY_STATUS_trip then .next s
  else
    let s := ((s.wr 0 F.BAY_STATUS_trip 1).wr 0 F.FLT_PKG_trip 1).wr 0 F.THM_PSTATUS_trip_s 1
    let s := s.cmpEvent 3
    let s := s.each s.dies fun d s => s.tripDie d
    let s := (s.heatersDown fun _ => true).forceOnto 0 fun dst => (heaterOf 0 dst).isSome
    let s := ((s.wr 0 F.HIF_ILK_STATUS_so_lsr 1).wr 0 F.HIF_ILK_STATUS_so_hv 1).wr 0 F.HIF_ILK_STATUS_so_mot 1
    let s := (s.setHub19 10 true).beginShadow .interlock
    .next (s.report 0 .dlk 10 .f (causeBit 18) s.framesInProgress)

/-- THM_CLEAR_COUNTERS (R342). -/
def execThmClearCounters (s : State) : Out := .next (s.wr 0 F.THM_ENF_CNT_enf_cnt 0)

end Sys2Proof.Machine
end

