-- ==== Sys2Proof/Machine/Bay.lean ====
section
/-! DEFINITION. The Bay domain (R405 to R413): standby and wake, power failure, the comparators, the real-time clock and the trip latch. -/

namespace Sys2Proof.Machine

/-- A standby command is accepted (R409). -/
def State.standbyOk (s : State) : Bool :=
  !s.frmRuns && (s.fsrState == fsrOff || s.fsrState == fsrTrip)
    && s.dies.all (fun d => (chanList d).all fun k => s.chState d k == chOff || s.chState d k == chCoast)
    && (List.range 8).all fun x => s.axState x == axOff || s.axState x == axHold

/-- The standby command (R409). -/
def State.bayStandby (s : State) : State :=
  if !s.standbyOk then s.reject 0 .bay F.BAY_STATUS_write_reject
  else
    let pd := 1000000 * max 1 (s.rd 0 F.BAY_PD_pd_dly)
    let off := 1000000 * max 1 (s.rd 0 F.BAY_PD_min_off)
    (s.each s.dies fun d s => s.safeOffDie d).modBay fun b =>
      { b with standby := true, sbyAt := s.now, pdNs := pd, offNs := off, arcLeft := s.evr.arcQ.length }

/-- The clear_trip command: refused until every die maximum is below trip − hyst (R339). -/
def State.clearTrip (s : State) : State :=
  let lvl := s.tripLevel - (s.rd 0 F.THM_HYST_hyst : Int)
  if !s.dies.all fun d => decide (s.rdS d F.THM_DIE_max < lvl) then s.reject 0 .bay F.BAY_STATUS_write_reject
  else
    let s := (((s.wr 0 F.BAY_STATUS_trip 0).wr 0 F.FLT_PKG_trip 0).setHub19 10 false).modFlt fun f => { f with closedAt := s.now }
    s.releaseOnto 0 fun dst => match heaterOf 0 dst with
      | some h => !s.heaterBlocked h
      | none => false

/-- The clear_cause command (R413). -/
def State.clearCause (s : State) : State :=
  (s.wrWord 0 F.BAY_WAKE_CAUSE_cmp.off 0).modBay fun b => { b with wakeN := false }

/-- A commit of the seconds of the real-time clock (R406). -/
def State.rtcCommit (s : State) (lo hi : Nat) : State :=
  (s.modBay fun b => { b with rtcNs := (hi % 0x1000 * 0x100000 + lo % 0x100000) * 1000000000, alarmSec := none }).wr 0 F.BAY_STATUS_rtc_valid 1

/-- BAY_STANDBY (R409). -/
def execBayStandby (s : State) : Out := .next s.bayStandby

/-- POWER_DOWN (R409): pd_dly after the command; from then on only the Bay runs. -/
def execPowerDown (s : State) : Out :=
  .next (if s.bay.standby && decide (s.bay.sbyAt + s.bay.pdNs ≤ s.now) then
    let now := s.now
    s.dieReset.modBay fun b => { b with standby := false, down := true, pwrEn := false, woke := false, fallAt := now }
  else s)

/-- PWR_EN_REASSERT (R410): min_off has passed since the fall. -/
def execPwrEnReassert (s : State) : Out :=
  .next (if s.bay.down && s.bay.again && decide (s.bay.fallAt + s.bay.offNs ≤ s.now) then s.wakePower else s)

/-- CLEAR_TRIP (R339). -/
def execClearTrip (s : State) : Out := .next s.clearTrip

/-- CLEAR_CAUSE (R413). -/
def execClearCause (s : State) : Out := .next s.clearCause

/-- VMAIN_FAIL (R406, R411): a sample, in mV, has fallen below vmain_thr. With the rails down it is an event of the comparator only (R407). -/
def execVmainFail (mv : Nat) (s : State) : Out :=
  if !s.on 0 (F.BAY_CMP_CFG_en 0) || !s.on 0 F.BAY_STATUS_vmain_ok || decide (10 * s.rd 0 F.BAY_VMAIN_THR_vmain_thr ≤ mv) then .next s
  else
    let s := ((s.wr 0 F.BAY_STATUS_vmain_ok 0).modBay fun b => { b with failAt := some s.now }).cmpEvent 0
    if s.bay.down ∨ s.boot.phase = .reset then .next s
    else .next (((s.wr 0 F.BAY_STATUS_pf_s 1).setHub19 9 true).raiseF 0 .bay 9 18 s.framesInProgress)

/-- VMAIN_RISE (R406, R411): a sample, in mV, has risen above vmain_thr + vmain_hyst. -/
def execVmainRise (mv : Nat) (s : State) : Out :=
  let thr := 10 * (s.rd 0 F.BAY_VMAIN_THR_vmain_thr + s.rd 0 F.BAY_VMAIN_THR_vmain_hyst)
  if !s.on 0 (F.BAY_CMP_CFG_en 0) || s.on 0 F.BAY_STATUS_vmain_ok || decide (mv ≤ thr) then .next s
  else .next ((((s.wr 0 F.BAY_STATUS_vmain_ok 1).modBay fun b => { b with failAt := none }).cmpEvent 0).setHub19 9 false)

/-- COVER (R406, R407): a sample has the level that pol names. -/
def execCover (high : Bool) (s : State) : Out :=
  .next (if s.on 0 (F.BAY_CMP_CFG_en 1) && high == s.on 0 (F.BAY_CMP_CFG_pol 1) then s.cmpEvent 1 else s)

/-- WEB_WAKE (R406, R407): a sample of the quadrature state; one that differs from the sample before it is the event. -/
def execWebWake (quad : Nat) (s : State) : Out :=
  if !s.on 0 (F.BAY_CMP_CFG_en 2) then .next s
  else
    let moved := s.bay.quad.any fun q => q != quad % 4
    let s := s.modBay fun b => { b with quad := some (quad % 4) }
    .next (if moved then s.cmpEvent 2 else s)

/-- BAY_TEMP (R406, R407): a sample of the Bay's temperature, in 0.1 °C, lies above temp_hi or below temp_lo; or the trip net is asserted, which needs
no enable. -/
def execBayTemp (temp : Int) (tripNet : Bool) (s : State) : Out :=
  let out := decide (10 * s.rdS 0 F.BAY_TEMP_THR_temp_hi < temp ∨ temp < 10 * s.rdS 0 F.BAY_TEMP_THR_temp_lo)
  .next (if tripNet || (s.on 0 (F.BAY_CMP_CFG_en 3) && out) then s.cmpEvent 3 else s)

/-- RTC_ALARM (R406, R407): the seconds have reached BAY_ALARM. -/
def execRtcAlarm (s : State) : Out :=
  let a := s.rd40 0 P.BAY_ALARM % 0x100000000
  if !s.on 0 F.BAY_WAKE_SRC_alarm_en || s.rtcSec != a || s.bay.alarmSec == some a then .next s
  else
    let s := s.modBay fun b => { b with alarmSec := some a }
    .next ((s.wr 0 F.BAY_WAKE_CAUSE_alarm 1).wakeActs (s.on 0 F.BAY_WAKE_SRC_alarm_wake) (s.on 0 F.BAY_WAKE_SRC_alarm_pwr))

/-- EXTERNAL_WAKE (R407). -/
def execExternalWake (s : State) : Out :=
  .next ((s.wr 0 F.BAY_WAKE_CAUSE_ext 1).wakeActs false (s.on 0 F.BAY_WAKE_SRC_ext_pwr))

/-- The high half that a path holds for the next commit of a pair (R16), and the path without it. -/
def State.takeHold (s : State) (p : Path) (d : Nat) : Option Nat × State :=
  ((s.path p).hold.getD d none, s.modPath p fun r => { r with hold := r.hold.set d none })

/-- RTC_SEC_WRITE (R406): the low half, with the high half that the path holds, else the present one. -/
def execRtcSecWrite (path : Path) (lo : Nat) (s : State) : Out :=
  if !s.pathOpen path then .next s else
  let (h, s) := s.takeHold path 0
  .next (s.rtcCommit lo (h.getD (s.rtcSec / 0x100000)))

/-- VBAY_LOSS (R405): the Bay loses its contents while the main rails are down. -/
def execVbayLoss (s : State) : Out :=
  if !s.bay.down then .next s
  else
    .next ((s.dropRegs fun k => decide (0xF8000 ≤ k) && decide (k < 0xF9000)).modBay fun b =>
      { b with rtcNs := 0, wakeN := false, again := false, inStart := none, quad := none, alarmSec := none })

end Sys2Proof.Machine
end

