-- ==== Sys2Proof/Machine/Crypto.lean ====
section
/-! DEFINITION. The digest and the signature check that R390 names: SHA-256 and ECDSA over P-256. The manual gives their names and no more; the
constants and steps are those of the public standards (PRESUMED, entry 12). -/

namespace Sys2Proof.Machine

/-! ### SHA-256 -/

/-- The round constants. -/
def shaK : List Nat :=
  [0x428a2f98, 0x71374491, 0xb5c0fbcf, 0xe9b5dba5, 0x3956c25b, 0x59f111f1, 0x923f82a4, 0xab1c5ed5]
    ++ [0xd807aa98, 0x12835b01, 0x243185be, 0x550c7dc3, 0x72be5d74, 0x80deb1fe, 0x9bdc06a7, 0xc19bf174]
    ++ [0xe49b69c1, 0xefbe4786, 0x0fc19dc6, 0x240ca1cc, 0x2de92c6f, 0x4a7484aa, 0x5cb0a9dc, 0x76f988da]
    ++ [0x983e5152, 0xa831c66d, 0xb00327c8, 0xbf597fc7, 0xc6e00bf3, 0xd5a79147, 0x06ca6351, 0x14292967]
    ++ [0x27b70a85, 0x2e1b2138, 0x4d2c6dfc, 0x53380d13, 0x650a7354, 0x766a0abb, 0x81c2c92e, 0x92722c85]
    ++ [0xa2bfe8a1, 0xa81a664b, 0xc24b8b70, 0xc76c51a3, 0xd192e819, 0xd6990624, 0xf40e3585, 0x106aa070]
    ++ [0x19a4c116, 0x1e376c08, 0x2748774c, 0x34b0bcb5, 0x391c0cb3, 0x4ed8aa4a, 0x5b9cca4f, 0x682e6ff3]
    ++ [0x748f82ee, 0x78a5636f, 0x84c87814, 0x8cc70208, 0x90befffa, 0xa4506ceb, 0xbef9a3f7, 0xc67178f2]

/-- The initial hash value. -/
def shaInit : List Nat :=
  [0x6a09e667, 0xbb67ae85, 0x3c6ef372, 0xa54ff53a, 0x510e527f, 0x9b05688c, 0x1f83d9ab, 0x5be0cd19]

/-- Addition modulo 2^32, rotation and the functions of a round. -/
def add32 (a b : Nat) : Nat := (a + b) % 0x100000000
def rotr32 (x n : Nat) : Nat := (x / 2 ^ n + x * 2 ^ (32 - n)) % 0x100000000
def shaChoose (x y z : Nat) : Nat := (x &&& y) ^^^ ((0xFFFFFFFF ^^^ x) &&& z)
def shaMajor (x y z : Nat) : Nat := (x &&& y) ^^^ (x &&& z) ^^^ (y &&& z)
def shaSum (x a b c : Nat) : Nat := rotr32 x a ^^^ rotr32 x b ^^^ rotr32 x c
def shaSigma (x a b c : Nat) : Nat := rotr32 x a ^^^ rotr32 x b ^^^ x / 2 ^ c

/-- Bytes, most significant first, as a number. -/
def bytesBE (l : List Nat) : Nat := l.foldl (fun a b => 256 * a + b % 256) 0

/-- A number as bytes, most significant first. -/
def toBytesBE : Nat → Nat → List Nat
  | 0, _ => []
  | n + 1, v => v / 256 ^ n % 256 :: toBytesBE n v

/-- The message with its padding. -/
def shaPad (m : List Nat) : List Nat :=
  m ++ 0x80 :: List.replicate ((119 - m.length % 64) % 64) 0 ++ toBytesBE 8 (8 * m.length)

/-- The schedule of a block, newest word first. -/
def shaSchedule (block : List Nat) : List Nat :=
  let w := (List.range 16).map fun i => bytesBE ((block.drop (4 * i)).take 4)
  (List.range 48).foldl (fun r _ =>
    let g := fun k => r.getD (k - 1) 0
    add32 (add32 (shaSigma (g 2) 17 19 10) (g 7)) (add32 (shaSigma (g 15) 7 18 3) (g 16)) :: r) w.reverse

/-- One round, on the eight working words. -/
def shaRound (h : List Nat) (k w : Nat) : List Nat :=
  match h with
  | [a, b, c, d, e, f, g, x] =>
    let t := add32 (add32 x (shaSum e 6 11 25)) (add32 (shaChoose e f g) (add32 k w))
    [add32 t (add32 (shaSum a 2 13 22) (shaMajor a b c)), a, b, c, add32 d t, e, f, g]
  | _ => h

/-- One block. -/
def shaBlock (h block : List Nat) : List Nat :=
  let r := ((shaK.zip (shaSchedule block).reverse).foldl (fun h p => shaRound h p.1 p.2) h)
  List.zipWith add32 h r

/-- The blocks of a padded message; fuel is their number. -/
def shaBlocks : Nat → List Nat → List Nat → List Nat
  | 0, h, _ => h
  | n + 1, h, m => shaBlocks n (shaBlock h (m.take 64)) (m.drop 64)

/-- The SHA-256 digest of a byte string, as a number. -/
def sha256 (m : List Nat) : Nat :=
  let p := shaPad m
  (shaBlocks (p.length / 64) shaInit p).foldl (fun a w => 0x100000000 * a + w) 0

/-! ### ECDSA over P-256 -/

def p256p : Nat := 0xffffffff00000001000000000000000000000000ffffffffffffffffffffffff
def p256n : Nat := 0xffffffff00000000ffffffffffffffffbce6faada7179e84f3b9cac2fc632551
def p256b : Nat := 0x5ac635d8aa3a93e7b3ebbd55769886bc651d06b0cc53b0f63bce3c3e27d2604b
def p256g : Nat × Nat :=
  (0x6b17d1f2e12c4247f8bce6e563a440f277037d812deb33a0f4a13945d898c296,
   0x4fe342e2fe1a7f9b8ee7eb4a7c0f9e162bce33576b315ececbb6406837bf51f5)

/-- A power modulo `m`; fuel bounds the bits of the exponent. -/
def powMod (m : Nat) : Nat → Nat → Nat → Nat
  | 0, _, _ => 1
  | fuel + 1, b, e => if e = 0 then 1 else (if e % 2 = 1 then b else 1) * powMod m fuel (b * b % m) (e / 2) % m

/-- The inverse modulo a prime. -/
def invMod (m a : Nat) : Nat := powMod m 256 (a % m) (m - 2)

/-- Addition on the curve; none is the point at infinity. -/
def curveAdd (a b : Option (Nat × Nat)) : Option (Nat × Nat) :=
  match a, b with
  | none, q => q
  | p, none => p
  | some (x, y), some (u, v) =>
    if x = u ∧ (y + v) % p256p = 0 then none
    else
      let l := if x = u then 3 * (x * x + p256p - 1) * invMod p256p (2 * y) % p256p
               else (v + p256p - y) * invMod p256p (u + p256p - x) % p256p
      let z := (l * l + 2 * p256p - x - u) % p256p
      some (z, (l * (x + p256p - z) + p256p - y) % p256p)

/-- A multiple of a point; fuel bounds the bits of the factor. -/
def curveMul : Nat → Nat → Option (Nat × Nat) → Option (Nat × Nat)
  | 0, _, _ => none
  | fuel + 1, k, p => if k = 0 then none else curveAdd (if k % 2 = 1 then p else none) (curveMul fuel (k / 2) (curveAdd p p))

/-- A point that is on the curve. -/
def onCurve (x y : Nat) : Bool :=
  decide (x < p256p) && decide (y < p256p) && y * y % p256p == (x * x * x + (p256p - 3) * x + p256b) % p256p

/-- The signature check of a message: `key` is the 64 bytes of a public key, `sig` the 64 bytes of r and s (R390). -/
def signatureOk (msg key sig : List Nat) : Bool :=
  let x := bytesBE (key.take 32)
  let y := bytesBE ((key.drop 32).take 32)
  let r := bytesBE (sig.take 32)
  let t := bytesBE ((sig.drop 32).take 32)
  onCurve x y && decide (0 < r ∧ r < p256n ∧ 0 < t ∧ t < p256n) &&
    let w := invMod p256n t
    match curveAdd (curveMul 256 (sha256 msg * w % p256n) (some p256g)) (curveMul 256 (r * w % p256n) (some (x, y))) with
    | some (z, _) => z % p256n == r
    | none => false

end Sys2Proof.Machine
end

