-- ==== Sys2Proof/Machine/Evr.lean ====
section
/-! DEFINITION. The event recorder (R370 to R374, R381): writing records, freezing, and draining the ring through the window. -/

namespace Sys2Proof.Machine

/-- The eight words of a ring slot; a slot not listed is empty. -/
def State.ringSlot (s : State) (i : Nat) : List Nat := (s.evr.ring.lookup i).getD (List.replicate 8 0)

/-- As soon as an entry is free, a lost record with the pending count enters the queue (R371). -/
def State.queueLost (s : State) : State :=
  if s.evr.pendLost = 0 ∨ 64 ≤ s.evr.queue.length then s
  else
    let r : EvrReq := ⟨2, false, s.evr.pendLost, s.pos, (s.now - s.boot.startAt) / 1000, 0, 0⟩
    s.modEvr fun e => { e with queue := e.queue ++ [r], pendLost := 0 }

/-- A record goes into the next slot; a critical one joins the archive queue with its final repeat count (R370, R372). -/
def State.writeRecord (s : State) (r : EvrReq) : State :=
  let i := s.evr.next
  let ws := recordWords s.evr.lap r
  let s := (s.memStored 0 5 (2 * i) false).memStored 0 5 (2 * i + 1) false
  let full := decide (4096 ≤ i + 1)
  let s := s.modEvr fun e =>
    { e with ring := (i, ws) :: e.ring.filter (fun x => x.1 ≠ i), next := (i + 1) % 4096, lap := if full then (e.lap + 1) % 4096 else e.lap }
  let s := (s.wr 0 F.EVR_HEAD_next ((i + 1) % 4096)).wr 0 F.EVR_HEAD_wrapped (b2n (full || s.on 0 F.EVR_HEAD_wrapped))
  if r.crit then s.archivePush ws else s

/-- RECORD_WRITE (R370, R371). -/
def execRecordWrite (s : State) : Out :=
  match s.evr.queue with
  | [] => .next s
  | r :: t =>
    if s.evr.frozen then .next s
    else .next (((s.modEvr fun e => { e with queue := t }).writeRecord r).queueLost.evrLevel)

/-! ### Freeze (R373) -/

/-- The freeze command, refused when frozen. -/
def State.evrFreeze (s : State) : State :=
  if s.evr.frozen then s.reject 0 .evr F.EVR_STATUS_write_reject
  else (s.modEvr fun e => { e with frozen := true, frzRefused := 0 }).wr 0 F.EVR_STATUS_frozen 1

/-- The unfreeze command, refused when not frozen: a frozen-gap record goes ahead of the entries queued. -/
def State.evrUnfreeze (s : State) : State :=
  if !s.evr.frozen then s.reject 0 .evr F.EVR_STATUS_write_reject
  else
    let gap : List EvrReq := if s.evr.frzRefused = 0 then [] else [⟨3, false, s.evr.frzRefused, s.pos, (s.now - s.boot.startAt) / 1000, 0, 0⟩]
    ((s.modEvr fun e => { e with frozen := false, frzRefused := 0, queue := gap ++ e.queue }).wr 0 F.EVR_STATUS_frozen 0).evrLevel

/-- The clear_counters command (R381). -/
def State.evrClear (s : State) : State := (s.wr 0 F.EVR_LOST_lost 0).wr 0 F.EVR_FRZ_CNT_frz 0

/-- FREEZE (R373). -/
def execFreeze (s : State) : Out := .next s.evrFreeze

/-- UNFREEZE (R373). -/
def execUnfreeze (s : State) : Out := .next s.evrUnfreeze

/-- EVR_CLEAR_COUNTERS (R381). -/
def execEvrClearCounters (s : State) : Out := .next s.evrClear

/-! ### The window (R374) -/

/-- A word of a slot as its code word is stored: its data with the difference of the stored bits. -/
def State.ringRaw (s : State) (slot w : Nat) : Nat :=
  (s.ringSlot slot).getD w 0 ^^^ (s.memErr 0 5 (2 * slot + w / 4) / 2 ^ (20 * (w % 4)) % 0x100000)

/-- The slot latched for the window: an uncorrectable word makes word 0 read as damaged, and the words as stored (R374). -/
def State.evrLatch (s : State) (slot : Nat) : State :=
  let (a, s) := s.memRead 0 5 (2 * slot) .record
  let (b, s) := s.memRead 0 5 (2 * slot + 1) .record
  let ws := (List.range 8).map fun w => s.ringRaw slot w
  let ws := if a == .uncorrectable || b == .uncorrectable then ws.set 0 (0x50000 + ws.getD 0 0 % 0x10000) else ws
  s.modEvr fun e => { e with latch := some ws }

/-- A read of EVR_WIN: the word of the latched slot, and the cursor advances. Word 0 latches the slot; another word without a latch is not
defined, and is free. -/
def State.evrWinRead (s : State) : Nat × State :=
  let slot := s.rd 0 F.EVR_CURSOR_rec
  let w := s.rd 0 F.EVR_CURSOR_word
  let s := if w = 0 then s.evrLatch slot else s
  let (v, s) := match s.evr.latch with
    | some ws => (ws.getD w 0, s)
    | none => ((s.takeFree.1 % 0x100000 : Nat), s.takeFree.2)
  let s := s.wr 0 F.EVR_CURSOR_word (w + 1)
  (v, if w = 7 then (s.wr 0 F.EVR_CURSOR_rec (slot + 1)).modEvr fun e => { e with latch := none } else s)

/-- A write to EVR_CURSOR discards the latch (R374). -/
def State.evrCursor (s : State) (slot w : Nat) : State :=
  ((s.wr 0 F.EVR_CURSOR_rec slot).wr 0 F.EVR_CURSOR_word w).modEvr fun e => { e with latch := none }

/-- EVR_WIN_READ (R374). -/
def execEvrWinRead (path : Path) (s : State) : Out := .next (if s.pathOpen path then s.evrWinRead.2.answer path [s.evrWinRead.1] else s)

/-- EVR_CURSOR_WRITE (R374). -/
def execEvrCursorWrite (slot word : Nat) (s : State) : Out := .next (s.evrCursor slot word)

end Sys2Proof.Machine
end

