-- ==== Sys2Proof/Machine/Lov.lean ====
section
/-! DEFINITION. The Lovage store (R375 to R382): code words, journals and their scan, appends and look-ups, compaction, the staging buffer and
the read window. -/

namespace Sys2Proof.Machine

/-! ### Code words (R375) -/

/-- Code words of a partition, and of each half of a journal (R375, R390). -/
def lovSize (part : Nat) : Nat :=
  match part with
  | 0 | 1 => 104857
  | 2 => 52428
  | 3 => 104856
  | 4 => 45874
  | 5 => 6552
  | _ => 0
def halfSize (part : Nat) : Nat := lovSize part / 2

/-- The name of a code word: its partition and number; the second half of a journal follows its first. -/
def cwKey (part j : Nat) : Nat := part * 0x20000 + j
def halfKey (part half j : Nat) : Nat := cwKey part (half * halfSize part + j)

def State.cw (s : State) (k : Nat) : List Nat := storeGet s.lov.cells k zeroCw
def State.cwBad (s : State) (k : Nat) : Bool := s.lov.bad.contains k

/-- A code word is written and verified (R375). -/
def State.putCw (s : State) (k : Nat) (ws : List Nat) : State :=
  s.modLov fun l => { l with cells := storeSet l.cells k ws zeroCw, bad := l.bad.filter (· ≠ k) }

/-- A code word whose write has failed twice reads uncorrectable; what it holds is free (R375). -/
def State.spoilCw (s : State) (k : Nat) : State :=
  let f := s.takeFree.1
  let ws := (List.range 4).map fun i => f / 0x100000 ^ i % 0x100000
  s.takeFree.2.modLov fun l => { l with cells := storeSet l.cells k ws zeroCw, bad := k :: l.bad.filter (· ≠ k) }

/-! ### Records and the scan (R376, R377) -/

/-- CRC-32, reflected: one byte (R376). -/
def crcByte (c b : Nat) : Nat :=
  (List.range 8).foldl (fun c _ => if c % 2 = 1 then (c / 2) ^^^ 0xEDB88320 else c / 2) (c ^^^ b % 256)

/-- The CRC of a list of words, each fed as three bytes, least significant first (R376). -/
def crcWords (ws : List Nat) : Nat :=
  ws.foldl (fun c w => crcByte (crcByte (crcByte c w) (w / 256)) (w / 65536)) 0xFFFFFFFF ^^^ 0xFFFFFFFF

/-- A journal record. -/
structure JRec where
  typ : Nat
  key : Nat
  payload : List (List Nat)
  deriving DecidableEq, Repr

/-- Code words that a record takes. -/
def JRec.size (r : JRec) : Nat := r.payload.length + 2

/-- Header and trailer of a record (R376). -/
def JRec.header (r : JRec) (seq : Nat) : List Nat :=
  [0xA0000 + r.typ % 256 * 256 + r.payload.length % 256, seq % 0x100000, r.key % 0x100000, r.key / 0x100000 % 0x100000]
def JRec.crc (r : JRec) (seq : Nat) : Nat := crcWords ((r.header seq).drop 1 ++ r.payload.flatten)
def JRec.trailer (r : JRec) (seq : Nat) : List Nat := [r.crc seq % 0x100000, r.crc seq / 0x100000, 0, 0]

/-- The code-word writes of a record, in their order: payload, trailer, header (R376). -/
def JRec.writes (r : JRec) (part half pos seq : Nat) : List (Nat × List Nat) :=
  (List.range r.payload.length).map (fun i => (halfKey part half (pos + 1 + i), r.payload.getD i zeroCw))
    ++ [(halfKey part half (pos + 1 + r.payload.length), r.trailer seq), (halfKey part half pos, r.header seq)]

/-- The record at a code word of a half, if it is valid with a sequence number (R377). -/
def State.recordAt (s : State) (part half pos seq : Nat) : Option JRec :=
  let h := s.cw (halfKey part half pos)
  let n := h.getD 0 0 % 256
  let r : JRec := { typ := h.getD 0 0 / 256 % 256, key := h.getD 2 0 + 0x100000 * h.getD 3 0,
                    payload := (List.range n).map fun i => s.cw (halfKey part half (pos + 1 + i)) }
  let t := s.cw (halfKey part half (pos + 1 + n))
  if h.getD 0 0 / 0x10000 ≠ 0xA ∨ h.getD 1 0 ≠ seq ∨ halfSize part < pos + n + 2 then none
  else if (List.range (n + 2)).any fun i => s.cwBad (halfKey part half (pos + i)) then none
  else if t.getD 0 0 + 0x100000 * t.getD 1 0 = r.crc seq then some r
  else none

/-- The scan of a half from a code word: the records and the append point (R377). -/
def State.scanFrom (s : State) (part half : Nat) : Nat → Nat → List JRec → List JRec × Nat
  | 0, pos, acc => (acc, pos)
  | fuel + 1, pos, acc =>
    match s.recordAt part half pos acc.length with
    | some r => s.scanFrom part half fuel (pos + r.size) (acc ++ [r])
    | none => (acc, pos)

def State.scanHalf (s : State) (part half : Nat) : List JRec × Nat := s.scanFrom part half (halfSize part) 1 []

/-- A half with a valid header, and its generation (R376). -/
def State.halfValid (s : State) (part half : Nat) : Bool :=
  (s.cw (halfKey part half 0)).getD 0 0 / 0x10000 == 0xA && !s.cwBad (halfKey part half 0)
def State.halfGen (s : State) (part half : Nat) : Nat := (s.cw (halfKey part half 0)).getD 1 0

/-- The current half: the valid one, or the one whose generation lies ahead by the half-range rule (R13, R376). -/
def State.curHalf (s : State) (part : Nat) : Option Nat :=
  match s.halfValid part 0, s.halfValid part 1 with
  | false, false => none
  | true, false => some 0
  | false, true => some 1
  | true, true => some (if (s.halfGen part 1 + 0x100000 - s.halfGen part 0) % 0x100000 < 0x80000 then 1 else 0)

/-- The records of a journal and its append point; a journal without a valid half is empty (R376, R377). -/
def State.journal (s : State) (part : Nat) : List JRec × Nat :=
  match s.curHalf part with
  | some h => s.scanHalf part h
  | none => ([], 1)

/-- The live records: set replaces the value of its key, delete removes it (R377). -/
def liveOf (rs : List JRec) : List JRec :=
  rs.foldl (fun live r =>
    if r.typ = 1 then live.filter (fun x => x.key ≠ r.key) ++ [r]
    else if r.typ = 2 then live.filter fun x => x.key ≠ r.key
    else live) []

/-- The live payload of a key of a journal. -/
def State.liveKey (s : State) (part key : Nat) : Option (List (List Nat)) :=
  ((liveOf (s.journal part).1).find? fun r => r.key == key).map (·.payload)

/-! ### What the registers show (R382) -/

def LovWork.compacting : LovWork → Option Nat
  | .compact part .. => some part
  | _ => none

/-- A compaction runs. -/
def State.lovCompacts (s : State) : Option Nat := s.lov.work.findSome? LovWork.compacting

/-- A host append is held: a second command is refused with busy (R379). -/
def State.lovHost (s : State) : Bool := s.lov.held.isSome

/-- The status of the store. -/
def State.lovStatus (s : State) : State :=
  let busy := s.lov.held.isSome || s.lov.work.any fun w => match w with
    | .append .. => true
    | _ => false
  let c := match s.lovCompacts with
    | some 3 => 1
    | some 4 => 2
    | _ => 0
  (s.wrB 0 F.LOV_STATUS_busy busy).wr 0 F.LOV_STATUS_compact c

/-- Generation and append point of both journals. -/
def State.lovShow (s : State) : State :=
  let gen := fun part => match s.curHalf part with
    | some h => s.halfGen part h
    | none => 0
  let s := ((s.wr 0 F.LOV_JRN_GEN_gen (gen 3)).wr 0 F.LOV_JRN_FILL_fill (s.journal 3).2).wr 0 F.LOV_ARC_GEN_gen (gen 4)
  (s.wr 0 F.LOV_ARC_FILL_fill (s.journal 4).2).lovStatus

/-! ### Compaction (R378) -/

/-- Where compaction starts by itself: 75 % of a half (R378). -/
def compactAt (part : Nat) : Nat := if part = 3 then 39321 else if part = 4 then 17203 else 2457

/-- The base of a journal: one set record per live key (R378). -/
def State.baseOf (s : State) (part : Nat) : List JRec :=
  let rs := (s.journal part).1
  if part ≠ 4 then liveOf rs
  else
    let events := rs.filter fun r => r.typ == 0x10
    let was := ((rs.filter fun r => r.typ == 0x20).map (·.key)).foldl max 0
    let drop := events.length - 1146
    ⟨0x20, was + drop, []⟩ :: events.drop drop

/-- The writes of a list of records from a code word and a sequence number on, and the code word after them. -/
def recordsWrites (part half : Nat) : List JRec → Nat → Nat → List (Nat × List Nat) × Nat
  | [], pos, _ => ([], pos)
  | r :: t, pos, seq =>
    let (ws, e) := recordsWrites part half t (pos + r.size) (seq + 1)
    (r.writes part half pos seq ++ ws, e)

/-- A compaction of a journal is started; it begins with the work before it done. After a standby command none is (R409). -/
def State.startCompaction (s : State) (part : Nat) : State :=
  if s.bay.standby then s else
  let (h, g) := match s.curHalf part with
    | some h => (1 - h, (s.halfGen part h + 1) % 0x100000)
    | none => (0, 0)
  (s.modLov fun l => { l with work := l.work ++ [.compact part h g 1 0 [] 0] }).lovStatus

/-- The compact command, refused while a compaction runs (R382), and after a standby command, when none is started (R409). -/
def State.lovCompact (s : State) (part : Nat) : State :=
  if s.lovCompacts.isSome || s.bay.standby then s.reject 0 .lov F.LOV_STATUS_write_reject else s.startCompaction part

/-! ### Appends (R376, R379) -/

/-- An append begins, if the record fits; else a compaction does, and the append stays held. -/
def State.startAppend (s : State) (part : Nat) (host : Bool) (r : JRec) : Bool × State :=
  match s.curHalf part with
  | none => (false, s.startCompaction part)
  | some h =>
    let (rs, pos) := s.scanHalf part h
    if halfSize part < pos + r.size then (false, s.startCompaction part)
    else (true, s.modLov fun l => { l with work := l.work ++ [.append part host (r.writes part h pos rs.length)] })

/-- With no work in hand a held host append begins (R379). -/
def State.lovIdle (s : State) : State :=
  match s.lov.work, s.lov.held with
  | [], some q =>
    let (ok, s) := s.startAppend 3 true ⟨q.typ, q.key, q.payload⟩
    (if ok then s.modLov fun l => { l with held := none } else s).lovStatus
  | _, _ => s.lovStatus

/-- The result of the last journal command (R382); but for pending, it is one that vector 7 announces (R419). -/
def State.lovResult (s : State) (r : Nat) : State :=
  let s := s.wr 0 F.LOV_JRESULT_result r
  if r = 1 then s else s.irq 7

/-- The result of the host append in progress, which a held one after it keeps from view: that reads pending (R379). -/
def State.lovHostResult (s : State) (r : Nat) : State := if s.lovHost then s else s.lovResult r

/-- A command refused with a result. -/
def State.lovRefuse (s : State) (r : Nat) : State := (s.lovResult r).reject 0 .lov F.LOV_STATUS_write_reject

/-- The record cannot fit even after compaction (R379). -/
def State.lovFull (s : State) (n : Nat) : Bool :=
  decide (halfSize 3 < 1 + ((liveOf (s.journal 3).1).map JRec.size).foldl (· + ·) 0 + n + 2)

/-- The append command (R379). After a standby command no append is started (R409): it answers busy (DESIGN CHOICE, log entry 218). -/
def State.lovAppend (s : State) (typ len : Nat) : State :=
  if s.lovHost || s.bay.standby then s.lovRefuse 2
  else if (typ ≠ 1 ∧ typ ≠ 2) ∨ 64 < len then s.lovRefuse 3
  else if s.lovFull len then s.lovRefuse 4
  else
    let payload := (List.range len).map fun i => (s.lov.stage.drop (4 * i)).take 4
    let q : JournalReq := ⟨typ, s.rd40 0 P.LOV_JKEY, payload⟩
    let s := (s.modLov fun l => { l with held := some q }).lovResult 1
    if s.on 0 F.LOV_STATUS_ready then s.lovIdle else s.lovStatus

/-- The lookup command (R379). -/
def State.lovLookup (s : State) : State :=
  if s.lovHost then s.lovRefuse 2
  else match s.liveKey 3 (s.rd40 0 P.LOV_JKEY) with
    | none => s.lovResult 5
    | some p =>
      let ws := p.flatten
      ((s.modLov fun l => { l with stage := ws.take 256 ++ l.stage.drop ws.length }).wr 0 F.LOV_JRESULT_len p.length).lovResult 0

/-- A write to LOV_JCMD (R382): `01` appends and `10` looks up; others have no action. -/
def State.lovJcmd (s : State) (typ op len : Nat) : State :=
  match op with
  | 1 => s.lovAppend typ len
  | 2 => s.lovLookup
  | _ => s

/-- JOURNAL_APPEND (R379). -/
def execJournalAppend (typ len : Nat) (s : State) : Out := .next (s.lovAppend typ len)

/-- LOOKUP (R379). -/
def execLookup (s : State) : Out := .next s.lovLookup

/-- COMPACT_JRN (R378). -/
def execCompactJrn (s : State) : Out := .next (s.lovCompact 3)

/-- COMPACT_ARC (R378). -/
def execCompactArc (s : State) : Out := .next (s.lovCompact 4)

/-- LOV_CLEAR_COUNTERS (R382). -/
def execLovClearCounters (s : State) : Out := .next (s.wr 0 F.LOV_ARC_LOST_lost 0)

/-- The payload of an archived event (R376): the record's words and the real-time clock's seconds. -/
def archivedPayload (ws : List Nat) : List (List Nat) := [ws.take 4, (ws.drop 4).take 4, (ws.drop 8).take 4]

/-- ARCHIVE_APPEND (R372): with no work in hand the oldest archive request begins to be written; after a standby command only one that waited at it
(R409). -/
def execArchiveAppend (s : State) : Out :=
  match s.evr.arcQ, s.lov.work with
  | ws :: t, [] =>
    if !s.on 0 F.LOV_STATUS_ready || (s.bay.standby && s.bay.arcLeft == 0) then .next s
    else
      let (ok, s) := s.startAppend 4 false ⟨0x10, 0, archivedPayload ws⟩
      .next (if ok then (s.modEvr fun e => { e with arcQ := t }).modBay fun b => { b with arcLeft := b.arcLeft - 1 } else s).lovStatus
  | _, _ => .next s

/-! ### Code-word writes (R375 to R378) -/

/-- The code word that a piece of work writes next. -/
def LovWork.next : LovWork → Option (Nat × List Nat)
  | .append _ _ ws => ws.head?
  | .zero part half _ pos => some (halfKey part half pos, zeroCw)
  | .unhead part half => some (halfKey part half 0, zeroCw)
  | .compact part half gen step pos ws base =>
    match step with
    | 1 => some (halfKey part half pos, zeroCw)
    | 2 => ws.head?
    | 3 => some (halfKey part half 0, [0xA0000, gen, base, 0])
    | _ => some (halfKey part (1 - half) 0, zeroCw)

/-- The first piece of work goes on, or ends. -/
def State.lovPut (s : State) (w : Option LovWork) : State := s.modLov fun l => { l with work := w.toList ++ l.work.drop 1 }

/-- An append has been verified: the host's reads done, and a half that is filled beyond 75 % is compacted (R378, R379). -/
def State.appendDone (s : State) (part : Nat) (host : Bool) : State :=
  let s := s.lovPut none
  let s := if host then s.lovHostResult 0 else s
  let s := if compactAt part < (s.journal part).2 ∧ s.lov.work.all (fun w => w.compacting ≠ some part) then s.startCompaction part else s
  s.lovShow.lovIdle

/-- A compaction enters a step; after a standby command it starts no further one (R409). -/
def State.compactStep (s : State) (part half gen step : Nat) : State :=
  if s.bay.standby then (s.lovPut none).lovIdle
  else if step = 2 then
    let (ws, e) := recordsWrites part half (s.baseOf part) 1 0
    s.lovPut (some (.compact part half gen (if ws.isEmpty then 3 else 2) 0 ws (e - 1)))
  else s

/-- A compaction is complete: a system record of the partition (R378). -/
def State.compactDone (s : State) (part : Nat) : State :=
  let s := (s.lovPut none).evrNow 4 true 0x03000 part
  let lost := [3, 4, 5].any fun p => s.curHalf p == none
  (s.wrB 0 F.LOV_STATUS_jrn_lost lost).lovShow.lovIdle

/-- The write of a piece of work has been verified. -/
def State.lovAdvance (s : State) (w : LovWork) : State :=
  match w with
  | .append part host ws => if ws.length ≤ 1 then s.appendDone part host else s.lovPut (some (.append part host ws.tail))
  | .zero part half lo pos => if lo < pos then s.lovPut (some (.zero part half lo (pos - 1))) else (s.lovPut none).lovShow.lovIdle
  | .unhead _ _ => (s.lovPut none).lovIdle
  | .compact part half gen step pos ws base =>
    match step with
    | 1 => if pos + 1 < halfSize part then s.lovPut (some (.compact part half gen 1 (pos + 1) [] 0)) else s.compactStep part half gen 2
    | 2 =>
      if ws.length ≤ 1 then
        if s.bay.standby then (s.lovPut none).lovIdle else s.lovPut (some (.compact part half gen 3 0 [] base))
      else s.lovPut (some (.compact part half gen 2 pos ws.tail base))
    | 3 => if s.bay.standby then (s.lovPut none).lovShow.lovIdle else s.lovPut (some (.compact part half gen 4 0 [] base))
    | _ => s.compactDone part

/-- The second verify of a write has failed: LOV_WFAIL (R375, R380). -/
def State.wfail (s : State) (k : Nat) : State := ((s.spoilCw k).wr 0 F.LOV_STATUS_wfail_s 1).report 0 .lov 1 .u 0 []

/-- A write has failed twice. An append or a compaction ends; the zeroing at the start goes on, since it precedes every append (R377). -/
def State.lovFail (s : State) (w : LovWork) (k : Nat) : State :=
  let s := s.wfail k
  match w with
  | .append _ true _ => ((s.lovPut none).lovHostResult 6).lovShow.lovIdle
  | .zero .. | .unhead .. => s.lovAdvance w
  | _ => (s.lovPut none).lovShow.lovIdle

/-- LOV starts no further write 50 µs after VMAIN has failed (R411). -/
def State.lovCut (s : State) : Bool := s.bay.failAt.any fun t => decide (t + 50000 ≤ s.now)

/-- CODE_WORD_WRITE (R375): whether the read back of the write, and of its one repetition, gives what was written. -/
def execCodeWordWrite (ok again : Bool) (s : State) : Out :=
  if s.lovCut then .next s else
  match s.lov.work.head? with
  | none => .next s
  | some w =>
    match w.next with
    | none => .next (s.lovPut none).lovIdle
    | some (k, ws) => .next (if ok || again then (s.putCw k ws).lovAdvance w else s.lovFail w k)

/-! ### The scan at the start (R377, R378) -/

/-- The scan of a journal: a lost one is reported, a compaction that lost power is completed, and a torn tail is zeroed. The zeros are written from
the end of the half down, so that a start cut short leaves the append point not zero and the next one zeroes again (DEDUCED, log entry 269). -/
def State.bootScan (s : State) (part : Nat) : State :=
  match s.curHalf part with
  | none => (((s.wr 0 F.LOV_STATUS_jrn_lost 1).report 0 .lov 3 .u 0 [])).evrNow 4 true 0x05000 0
  | some h =>
    let s := if s.halfValid part (1 - h) then s.modLov fun l => { l with work := l.work ++ [.unhead part (1 - h)] } else s
    let pos := (s.scanHalf part h).2
    let k := halfKey part h pos
    if pos < halfSize part ∧ (s.cwBad k ∨ s.cw k ≠ zeroCw) then
      ((s.wr 0 F.LOV_STATUS_torn_s 1).reportC 0 .lov 2).modLov fun l => { l with work := l.work ++ [.zero part h pos (halfSize part - 1)] }
    else s

/-- The scan of every journal (R377). -/
def State.lovBoot (s : State) : State := ((s.each [3, 4, 5] fun p s => s.bootScan p).wr 0 F.LOV_STATUS_ready 1).lovShow

/-! ### The staging buffer and the read window (R382) -/

/-- A read of LOV_STAGE_DATA. -/
def State.stageRead (s : State) : Nat × State :=
  let i := s.rd 0 F.LOV_STAGE_IDX_idx
  (s.lov.stage.getD i 0, s.wr 0 F.LOV_STAGE_IDX_idx (i + 1))

/-- A write to LOV_STAGE_DATA. -/
def State.stageWrite (s : State) (v : Nat) : State :=
  let i := s.rd 0 F.LOV_STAGE_IDX_idx
  (s.modLov fun l => { l with stage := l.stage.set i (v % 0x100000) }).wr 0 F.LOV_STAGE_IDX_idx (i + 1)

/-- STAGE_DATA_ACCESS (R382): a write with its value, or a read on a path. -/
def execStageDataAccess (path : Path) (value : Option Nat) (s : State) : Out :=
  if !s.pathOpen path then .next s else
  match value with
  | some v => .next (s.stageWrite v)
  | none => .next (s.stageRead.2.answer path [s.stageRead.1])

/-- A read of LOV_RD_DATA: the next word of the partition, as stored if it is uncorrectable. Beyond the partition it reads zero. -/
def State.lovRead (s : State) : Nat × State :=
  let part := s.rd 0 F.LOV_RD_ADDR_part
  let j := s.rd 0 F.LOV_RD_ADDR_cw
  let v := if j < lovSize part then (s.cw (cwKey part j)).getD s.lov.rdWord 0 else 0
  (v, if s.lov.rdWord < 3 then s.modLov fun l => { l with rdWord := l.rdWord + 1 }
      else (s.wr 0 F.LOV_RD_ADDR_cw (j + 1)).modLov fun l => { l with rdWord := 0 })

/-- A write to LOV_RD_ADDR (R382). -/
def State.lovAddr (s : State) (part j : Nat) : State :=
  ((s.wr 0 F.LOV_RD_ADDR_part part).wr 0 F.LOV_RD_ADDR_cw j).modLov fun l => { l with rdWord := 0 }

/-- RD_DATA_READ (R382). -/
def execRdDataRead (path : Path) (s : State) : Out := .next (if s.pathOpen path then s.lovRead.2.answer path [s.lovRead.1] else s)

/-- RD_ADDR_WRITE (R382). -/
def execRdAddrWrite (part cw : Nat) (s : State) : Out := .next (s.lovAddr part cw)

end Sys2Proof.Machine
end

