-- ==== Sys2Proof/Machine/Image.lean ====
section
/-! DEFINITION. The configuration image and the boot record: bytes of code words, reading an image, the header and section-table checks, the signature
and key checks (R383 to R391), and CFG's own records. -/

namespace Sys2Proof.Machine

/-! ### Bytes -/

/-- The ten bytes of a code word: word 0 and byte 0 lie in the top bits (R113, R362). -/
def cwBytes (c : List Nat) : List Nat :=
  toBytesBE 10 ((c.getD 0 0 * 2 ^ 60 + c.getD 1 0 * 2 ^ 40 + c.getD 2 0 * 2 ^ 20 + c.getD 3 0))

/-- Ten bytes as a code word; bytes that are missing are zero. -/
def bytesCw (l : List Nat) : List Nat :=
  let v := bytesBE ((List.range 10).map fun i => l.getD i 0)
  [v / 2 ^ 60 % 0x100000, v / 2 ^ 40 % 0x100000, v / 2 ^ 20 % 0x100000, v % 0x100000]

/-- `n` bytes from an offset, least significant first (R383). -/
def leAt (b : List Nat) (off n : Nat) : Nat := ((b.drop off).take n).foldr (fun x a => x % 256 + 256 * a) 0

/-- Code words of a partition from its start, as bytes; nothing if one of them reads uncorrectable. -/
def State.partBytes (s : State) (part n : Nat) : Option (List Nat) :=
  if (List.range n).any fun j => s.cwBad (cwKey part j) then none
  else some ((List.range n).flatMap fun j => cwBytes (s.cw (cwKey part j)))

/-- The magic of an image (R384). -/
def imageMagic : List Nat := [0x51, 0x47, 0x49, 0x4D]

/-- An image partition that holds something with the magic of an image. -/
def State.holdsImage (s : State) (part : Nat) : Bool := ((s.partBytes part 1).getD []).take 4 == imageMagic

/-- The image of a partition; nothing where the magic is wrong or a code word cannot be read. -/
def State.lovImage (s : State) (part : Nat) : Option (List Nat) :=
  match s.partBytes part 7 with
  | none => none
  | some h =>
    if h.take 4 ≠ imageMagic then none
    else
      let len := leAt h 8 4
      (s.partBytes part (min (lovSize part) (cdivN len 10))).map fun b => b.take len

/-- The image of a byte string: its first len bytes. -/
def bytesImage (b : List Nat) : Option (List Nat) := if b.take 4 ≠ imageMagic then none else some (b.take (leAt b 8 4))

/-- Bytes of the hub SRAM, with every held write flushed; nothing where a code word is uncorrectable (R364). -/
def State.sramBytes (s : State) (a n : Nat) : Option (List Nat) × State :=
  let (l, s) := (s.flushAll 0).bufRead 0 a n .raster
  (if l.any (·.2) then none else some (l.map (·.1)), s)

/-- The image that stands in hub SRAM from a byte. -/
def State.sramImage (s : State) (a : Nat) : Option (List Nat) × State :=
  match s.sramBytes a 64 with
  | (none, s) => (none, s)
  | (some h, s) => if h.take 4 ≠ imageMagic then (none, s) else s.sramBytes a (min (leAt h 8 4) (bufSize 0 - a))

/-! ### The boot record (R390) -/

/-- CFG writes code words in their order, at once. -/
def State.putAll (s : State) (ws : List (Nat × List Nat)) : State := s.each ws fun w s => s.putCw w.1 w.2

/-- CFG's writes of one command: whether all of them have been verified, how many more are, if one of them is to fail twice, and the state. -/
structure Puts where
  ok : Bool := true
  left : Option Nat := none
  st : State
  deriving DecidableEq, Repr

/-- More of the writes: those before the one that fails its verify twice are made, and none after it (R375). -/
def Puts.put (p : Puts) (ws : List (Nat × List Nat)) : Puts :=
  match p.ok, p.left with
  | false, _ => p
  | true, none => { p with st := p.st.putAll ws }
  | true, some j =>
    match ws[j]? with
    | none => { p with left := some (j - ws.length), st := p.st.putAll ws }
    | some w => ⟨false, none, (p.st.putAll (ws.take j)).wfail w.1⟩

/-- What the zeroing at the start still has to write to the boot record. -/
def LovWork.bootZeros : LovWork → List (Nat × List Nat)
  | .zero 5 half lo pos => (List.range (pos + 1 - lo)).map fun i => (halfKey 5 half (pos - i), zeroCw)
  | .unhead 5 half => [(halfKey 5 half 0, zeroCw)]
  | _ => []

/-- CFG's writes to the boot record begin with what the zeroing at the start has left (R377). Once LOV starts no further write none is made (R411). -/
def State.bootPuts (s : State) (bad : Option Nat) : Puts :=
  if s.lovCut then ⟨false, none, s⟩ else
  let s := s.putAll (s.lov.work.flatMap LovWork.bootZeros)
  ⟨true, bad, s.modLov fun l => { l with work := l.work.filter fun w => w.bootZeros.isEmpty }⟩

/-- A compaction of the boot record (R378, R390). -/
def Puts.compact (p : Puts) : Puts :=
  let s := p.st
  let (h, g) := match s.curHalf 5 with
    | some h => (1 - h, (s.halfGen 5 h + 1) % 0x100000)
    | none => (0, 0)
  let (ws, e) := recordsWrites 5 h (s.baseOf 5) 1 0
  let zeros := (List.range (halfSize 5)).map fun j => (halfKey 5 h j, zeroCw)
  let q := p.put (zeros ++ ws ++ [(halfKey 5 h 0, [0xA0000, g, e - 1, 0]), (halfKey 5 (1 - h) 0, zeroCw)])
  if q.ok then { q with st := q.st.evrNow 4 true 0x03000 5 } else q

/-- A record is appended by CFG at once, and whether it is: one of the writes, `bad` counted from the first, may fail its verify twice. A half in
which the record does not fit is compacted first, and one filled beyond 75 % after (R375, R378, R390). -/
def State.bootAppend (s : State) (r : JRec) (bad : Option Nat) : Bool × State :=
  let p := s.bootPuts bad
  let full := match p.st.curHalf 5 with
    | some h => decide (halfSize 5 < (p.st.scanHalf 5 h).2 + r.size)
    | none => true
  let p := if full then p.compact else p
  match p.ok, p.st.curHalf 5 with
  | true, some h =>
    let (rs, pos) := p.st.scanHalf 5 h
    let q := p.put (r.writes 5 h pos rs.length)
    (q.ok, if q.ok && decide (compactAt 5 < pos + r.size) then q.compact.st else q.st)
  | _, _ => (false, p.st)

/-- The words of a record of CFG that holds a number. -/
def State.bootWord (s : State) (key : Nat) : Nat :=
  match s.liveKey 5 key with
  | some (w :: _) => w.getD 0 0 + 0x100000 * w.getD 1 0
  | _ => 0

/-- The slot selected: 0 A, 1 B; A until one has been selected. -/
def State.selSlot (s : State) : Nat := s.bootWord 1 % 2
/-- The rollback floor, and whether the recovery partition is unlocked. -/
def State.rollFloor (s : State) : Nat := s.bootWord 2
def State.unlocked (s : State) : Bool := s.bootWord 3 != 0

/-- The bytes of a key slot: the public key and a revoked flag; nothing where the slot is not written. -/
def State.keySlot (s : State) (k : Nat) : Option (List Nat) := (s.liveKey 5 (0x10 + k)).map fun p => p.flatMap cwBytes

/-- The public key of a slot that is written and not revoked. -/
def State.usableKey (s : State) (k : Nat) : Option (List Nat) :=
  match s.keySlot k with
  | some b => if b.getD 64 0 = 0 then some (b.take 64) else none
  | none => none

/-- A record that sets a key slot, or a number. -/
def keyRecord (k : Nat) (key : List Nat) (revoked : Bool) : JRec :=
  let b := (List.range 64).map (fun i => key.getD i 0) ++ [b2n revoked]
  ⟨1, 0x10 + k, (List.range 7).map fun i => bytesCw ((b.drop (10 * i)).take 10)⟩
def numRecord (key v : Nat) : JRec := ⟨1, key, [[v % 0x100000, v / 0x100000 % 0x100000, 0, 0]]⟩

/-! ### Header and section table (R384, R385) -/

/-- A section of an image. -/
structure Sect where
  typ : Nat
  die : Nat
  off : Nat
  len : Nat
  count : Nat
  deriving DecidableEq, Repr

/-- The section table. -/
def imageSects (b : List Nat) : List Sect :=
  (List.range (leAt b 6 2)).map fun i =>
    let o := 64 + 16 * i
    ⟨leAt b o 1, leAt b (o + 1) 1, leAt b (o + 4) 4, leAt b (o + 8) 4, leAt b (o + 12) 4⟩

/-- A section whose type, die and length are of the table of section types (R387). -/
def Sect.formOk (x : Sect) : Bool :=
  match x.typ with
  | 1 => x.die == 0 && x.len == 36
  | 2 | 6 | 7 => x.die == 0 && x.len == 8 * x.count
  | 3 => x.len == 8 * x.count
  | 4 => x.len == 4 + 8 * x.count
  | 5 => decide (16 * x.count ≤ x.len) && x.len % 8 == 0
  | 0xFF => x.die == 0 && x.len == 68
  | _ => false

/-- Consecutive sections: offsets ascend without overlap, types ascend, and only 0x03 to 0x05 repeat, once per die. -/
def sectsOrdered (last : Nat) : List Sect → Bool
  | [] => true
  | [x] => decide (last ≤ x.off)
  | x :: y :: t =>
    decide (last ≤ x.off) && (decide (x.typ < y.typ) || (x.typ == y.typ && decide (3 ≤ x.typ ∧ x.typ ≤ 5)))
      && sectsOrdered (x.off + x.len) (y :: t)

/-- The header and section-table checks. -/
def headerOk (b : List Nat) (maxLen : Nat) : Bool :=
  let n := leAt b 6 2
  let len := leAt b 8 4
  let xs := imageSects b
  leAt b 4 2 == 1 && decide (2 ≤ n ∧ n ≤ 32) && decide (b.length = len ∧ len ≤ maxLen) && decide (leAt b 14 1 < 2) && leAt b 15 1 == 0
    && (List.range n).all (fun i => leAt b (66 + 16 * i) 2 == 0)
    && xs.all (fun x => x.formOk && decide (x.off + x.len ≤ len)) && sectsOrdered (64 + 16 * n) xs
    && decide ((xs.map fun x => (x.typ, x.die)).Nodup)
    && (match xs.getLast? with
        | some x => x.typ == 0xFF && x.off + 68 == len
        | none => false)
    && decide (leAt b (len - 68) 1 < 4) && leAt b (len - 67) 3 == 0

def imageDies (b : List Nat) : Nat := leAt b 12 1
def imageSerial (b : List Nat) : Nat := leAt b 16 4

/-- The verify step of an image (R390, R399): the first failure code of its checks, for a source that takes images of at most `maxLen` bytes and
recovery images or others. -/
def State.verifyImage (s : State) (img : Option (List Nat)) (maxLen : Nat) (recovery : Bool) : Option Nat :=
  match img with
  | none => some 0x01
  | some b =>
    if !headerOk b maxLen then some 0x02
    else if leAt b 13 1 ≠ 0xB1 ∨ imageDies b < 2 ∨ 8 < imageDies b then some 0x03
    else
      let len := b.length
      match s.usableKey (leAt b (len - 68) 1) with
      | none => some 0x04
      | some key =>
        if !signatureOk (b.take (len - 68)) key (b.drop (len - 64)) then some 0x05
        else if imageSerial b < s.rollFloor then some 0x06
        else if (leAt b 14 1 == 1) != recovery then some 0x07
        else none

/-- Bytes an image of a source may have: the Lovage slots and the recovery partition (R383), the flash, and the window of the host (R392). -/
def sourceMax (src : Nat) : Nat :=
  match src with
  | 0 | 1 => 1048570
  | 4 => 524280
  | 3 => 0x1FFFF0
  | _ => 0x100000000

/-- An image partition verifies: slot A 0, slot B 1 (R402). -/
def State.slotOk (s : State) (part : Nat) : Bool := (s.verifyImage (s.lovImage part) (sourceMax part) false).isNone

/-- What the registers of CFG and LOV show of the boot record and of the slots (R382, R402). -/
def State.cfgShow (s : State) : State :=
  let s := (s.wrB 0 F.CFG_STATUS_slot_a_ok (s.slotOk 0)).wrB 0 F.CFG_STATUS_slot_b_ok (s.slotOk 1)
  let s := (s.wrB 0 F.CFG_STATUS_rec_unlocked s.unlocked).wrB 0 F.LOV_STATUS_rec_unlocked s.unlocked
  (s.wr 0 F.CFG_STATUS_sel s.selSlot).wr40 0 P.CFG_FLOOR s.rollFloor

/-- A new random nonce (R391). -/
def State.newNonce (s : State) : State :=
  let (v, s) := s.takeFree
  (s.wr 0 F.CFG_NONCE_nonce v).wr 0 F.CFG_NONCE_HI_nonce_hi (v / 0x100000)

end Sys2Proof.Machine
end

