-- ==== Sys2Proof/Machine/Hif.lean ====
section
/-! DEFINITION. The host endpoint and its interrupts (R415 to R419), the interlock and safe-off outputs (R427), and the test access port
(R429). -/

namespace Sys2Proof.Machine

/-! ### The PCI Express function (R415, R417) -/

/-- The reset of the function: MSI-X table and pending bits, and the host path's latches and hold registers. -/
def State.functionReset (s : State) : State :=
  let s := s.each (List.range 4) fun w s => s.wr 0 (F.HIF_IRQ_PEND_pend w) 0
  (s.modHif fun h => { h with masked := List.range 64, table := [], pba := [] }).modPath .host fun _ => {}

/-- The reads of host memory in flight end as bus errors (R142, R417). -/
def State.hostReadsFail (s : State) : State :=
  s.each (List.range 32) fun c s =>
    if (s.xch 0 c).burst.isSome && XDesc.srcSp (s.xch 0 c).desc == 0 then s.after (execBurstRetry 0 c) else s

/-- LINK_DOWN (R417). -/
def execLinkDown (kind : LinkEvent) (s : State) : Out :=
  let s := s.functionReset.hostReadsFail
  .next (match kind with
    | .d3hot => s
    | _ => ((s.wr 0 F.HIF_STATUS_down_s 1).bump 0 F.HIF_DOWN_CNT_down).reportC 0 .hif 1)

/-- BAD_BAR0_ACCESS (R415): a read completes with Unsupported Request and no data; a write is discarded. -/
def execBadBar0Access (write : Bool) (s : State) : Out :=
  let s := (s.wr 0 F.HIF_STATUS_bad_acc_s 1).bump 0 F.HIF_BAD_ACC_CNT_bad
  .next (if write then s else s.answer .host [])

/-- HIF_CLEAR_COUNTERS (R432). -/
def execHifClearCounters (s : State) : Out :=
  .next (s.clearAll 0 [F.HIF_ABSENT_CNT_absent, F.HIF_BAD_ACC_CNT_bad, F.HIF_DOWN_CNT_down])

/-! ### Interrupts (R418) -/

/-- The condition of a level source holds (R419). -/
def State.levelHolds (s : State) (v : Nat) : Bool :=
  match v with
  | 0 => !s.frm.fifo.isEmpty
  | 2 => s.dies.any fun d => s.rd40 d P.XFR_DONE != 0
  | 5 => !s.plk.rx.isEmpty
  | 43 => !s.rgc.raw.isEmpty
  | _ => false

/-- A W1C of pending bits: a level source that is still true is pending again at once (R418). -/
def State.pendClear (s : State) (w mask : Nat) : State :=
  let s := s.wr 0 (F.HIF_IRQ_PEND_pend w) (s.rd 0 (F.HIF_IRQ_PEND_pend w) &&& (0xFFFF ^^^ (mask % 0x10000)))
  s.each ([0, 2, 5, 43].filter fun v => v / 16 == w && mask.testBit (v % 16)) fun v s => if s.levelHolds v then s.irq v else s

/-- IRQ_PEND_CLEAR (R418). -/
def execIrqPendClear (w mask : Nat) (s : State) : Out := .next (if w < 4 then s.pendClear w mask else s)

/-- A vector is unmasked: a message that waits in the PBA is sent (R418). -/
def State.unmask (s : State) (v : Nat) : State :=
  let wait := s.hif.pba.contains v
  let s := s.modHif fun h => { h with masked := h.masked.filter (· ≠ v), pba := h.pba.filter (· ≠ v) }
  if wait then s.modHif fun h => { h with lastMsg := some v, msgCount := h.msgCount + 1 } else s

/-- VECTOR_UNMASK (R418). -/
def execVectorUnmask (v : Nat) (s : State) : Out := .next (if v < 64 then s.unmask v else s)

/-! ### The interlock (R427) -/

/-- The opening: safe-off of every die in hardware at once, lines in progress cut, and the F-class fault with cause 7 (R103, R427). -/
def State.interlockOpened (s : State) : State :=
  let s := (((s.wr 0 F.HIF_ILK_STATUS_open_s 1).wr 0 F.HIF_ILK_STATUS_so_lsr 1).wr 0 F.HIF_ILK_STATUS_so_hv 1).setHub19 8 true
  let s := (s.each s.dies fun d s => s.safeOffDie d).each s.stns fun n s => s.cutSweep n
  let s := s.fsrToOff
  let ms := min 10000 (s.rd 0 F.HIF_ILK_DLY_mot_dly)
  let s := if s.rd 0 F.FLT_PKG_state = 2 then s.wr 0 F.HIF_ILK_STATUS_so_mot 1
    else s.modPorts fun p => { p with motDly := true, motAt := s.now + 1000000 * ms }
  (s.beginShadow .interlock).report 0 .ilk 8 .f (causeBit 7) s.framesInProgress

/-- The levels of the two inputs, and the time since which they differ (R427). -/
def State.ilkLevels (s : State) (a b : Bool) : State :=
  ((s.wrB 0 F.HIF_ILK_STATUS_ilk_a a).wrB 0 F.HIF_ILK_STATUS_ilk_b b).modPorts fun p =>
    { p with discAt := if a = b then none else some (p.discAt.getD s.now), discSaid := p.discSaid && a != b }

/-- INTERLOCK_OPEN (R427): the levels of the two inputs, at least one of them low for 500 ns. While RESET_N is low they are levels only. -/
def execInterlockOpen (a b : Bool) (s : State) : Out :=
  if a && b then .next s
  else
    let was := s.flt.hub19.contains 8
    let s := s.ilkLevels a b
    .next (if was || s.boot.phase == .reset then s else s.interlockOpened)

/-- INTERLOCK_CLOSE (R427). -/
def execInterlockClose (s : State) : Out :=
  .next (if s.flt.hub19.contains 8 then ((s.ilkLevels true true).setHub19 8 false).modFlt fun f => { f with closedAt := s.now }
    else s.ilkLevels true true)

/-- MOT_DLY_EXPIRY (R427): mot_dly from the opening. -/
def execMotDlyExpiry (s : State) : Out :=
  .next (if s.ports.motDly && decide (s.ports.motAt ≤ s.now) then (s.wr 0 F.HIF_ILK_STATUS_so_mot 1).modPorts fun p => { p with motDly := false } else s)

/-- INTERLOCK_DISCREPANCY (R427): one input has been low and the other high for disc_ms. -/
def execInterlockDiscrepancy (s : State) : Out :=
  .next (if sinceBy s.ports.discAt (1000000 * max 1 (s.rd 0 F.HIF_ILK_DISC_disc_ms)) s.now && !s.ports.discSaid then
    ((s.wr 0 F.HIF_ILK_STATUS_disc_s 1).modPorts fun p => { p with discSaid := true }).reportC 0 .ilk 11 else s)

/-! ### The test access port (R429) -/

/-- Hub windows that run in test mode: FLT, HIF, SVC, CFG and BAY (R442). -/
def testWindow (off : Nat) : Bool :=
  off / 0x10000 == 7 || off / 0x10000 == 14 || (off / 0x10000 == 15 && [3, 7, 8].contains (off % 0x10000 / 0x1000))

/-- Test mode: every other block is held in reset, FAULT_N is static, and the safe-off outputs assert (R427, R429, R442). -/
def State.enterTest (s : State) : State :=
  let r := s.dieReset
  let keep := s.regs.filter fun e => decide (e.1 < 0x100000) && testWindow e.1
  let r := { r with now := s.now, regs := keep, hif := s.hif, svc := s.svc, flt := s.flt, hostPath := s.hostPath, svcPath := s.svcPath,
                    boot := { s.boot with phase := .test } }
  let r := (r.wr 0 F.SVC_STATUS_test_mode 1).wr 0 F.FLT_PKG_pin_mode 0
  ((r.wr 0 F.HIF_ILK_STATUS_so_lsr 1).wr 0 F.HIF_ILK_STATUS_so_hv 1).wr 0 F.HIF_ILK_STATUS_so_mot 1

/-- A test-mode instruction (R429). -/
def testInstruction (code : Nat) : Bool := decide (3 ≤ code ∧ code ≤ 7)

/-- UPDATE_IR (R429, R443). -/
def execUpdateIr (code : Nat) (s : State) : Out :=
  if testInstruction code then
    if s.frmRuns || s.rd 0 F.FLT_PKG_state == 1 then
      .next ((s.modSvc fun v => { v with ir := 0xFF }).wr 0 F.SVC_STATUS_jtag_reject_s 1)
    else .next ((if s.boot.phase = .test then s else s.enterTest).modSvc fun v => { v with ir := code })
  else .next (s.modSvc fun v => { v with ir := if code = 1 ∨ code = 2 then code else 0xFF })

/-- TAP_RESET (R429): IDCODE is loaded; nothing else is reset. -/
def execTapReset (s : State) : Out := .next (s.modSvc fun v => { v with ir := 1 })

/-! ### The service port's line (R428) -/

/-- REQUEST_ABORT (R428): a request that breaks off makes no access and has no response. -/
def execRequestAbort (s : State) : Out := .next s

/-- The bit rate of a baud code (R434). -/
def baudRate (b : Nat) : Nat := if b = 1 then 921600 else if b = 2 then 3000000 else 115200

/-- SERVICE_RESPONSE_END (R428): the seven characters have been sent, and a written baud takes effect. -/
def execServiceResponseEnd (s : State) : Out :=
  let b := s.rd 0 F.SVC_CFG_baud
  .next (if s.svc.responding && decide (s.svc.respAt + 70000000000 / baudRate s.svc.baud ≤ s.now) then
    s.modSvc fun v => { v with responding := false, baud := if b = 3 then 0 else b } else s)

/-- SVC_CLEAR_COUNTERS (R434). -/
def execSvcClearCounters (s : State) : Out := .next ((s.wr 0 F.SVC_ERR_CNT_err 0).wr 0 F.SVC_REQ_CNT_req 0)

end Sys2Proof.Machine
end

