-- ==== Sys2Proof/Machine/Scn.lean ====
section
/-! DEFINITION. The scanner (R152 to R173): its commands, beam detect and facets, the resonant mirror, the speed ramp, and the start and end of
a sweep with the lines a station writes or blanks (R124, R125, R176 to R187). -/

namespace Sys2Proof.Machine

/-! ### The commands of SCN (R170, R173) -/

/-- The scanner takes the addressability of the active bank, and forgets what it tracked. The drive of a mirror starts at its natural frequency
(R163). -/
def State.scReset (s : State) (n : Nat) : State :=
  let s := if s.rd n F.SCN_JOB_addr = s.curAddr n then s else (s.wr n F.SCN_STATUS_cur_addr (s.rd n F.SCN_JOB_addr)).rgcAddr n
  let cmd : Int := if s.isResonant n then s.rd n F.SCN_RES_FN_f_n * 1000000 else 0
  (s.modCks n fun c => { c with fpx := 0 }).modScn n fun x => { x with
    grid := none, shift := 0, refAt := none, err := none, lastStart := none, bd0 := none, intervals := [], facetKnown := false,
    bdCount := 0, bdToBd1 := [], missRun := 0, crossAt := none, centre := none, predicted := none, stable := [], ampRun := 0, cmd := cmd,
    dac := 0, atSpeed := false, ramped := false, swAt := none }

/-- The polygon channel starts with the scanner: one that coasts is cleared, and one that still ramps down or holds runs on from its speed
(DESIGN CHOICE, log entry 209). -/
def State.polyStart (s : State) (n : Nat) (offset : Int) : State :=
  let st := s.chState n 4
  if st = chStopping ∨ st = chHold then s.chEnter n 4 (s.rdS n (F.MDR_CH_SPEED_speed 4)) chRun
  else
    let s := if st = chCoast then s.chClear n 4 else s
    if s.chState n 4 = chOff then s.chStart n 4 offset else s

/-- The start command: the drive starts, with a polygon channel's measured shunt offset. -/
def State.scnStart (s : State) (n : Nat) (offset : Int) : State :=
  if !(s.isPolygon n || s.isResonant n) || s.scState n != scOff then s.reject n .scn F.SCN_EVENT_write_reject
  else
    let s := (s.scReset n).scTo n scSpinup
    (if s.isPolygon n then s.polyStart n offset else s).scnShow n

/-- The drive goes off: a mirror is no longer verified to move (R157). -/
def State.driveOff (s : State) (n st : Nat) : State :=
  let s := (s.scTo n st).modScn n fun x => { x with ramped := false, atSpeed := false, refAt := none, err := none, grid := none, cmd := 0, dac := 0 }
  if s.isPolygon n then s.chStopCmd n 4 else s.scanOk n false

/-- The stop command, refused while FRM runs; a halted scanner leaves HALT by the clear command only. -/
def State.scnStop (s : State) (n : Nat) : State :=
  if s.frmRuns then s.reject n .scn F.SCN_EVENT_write_reject
  else if s.scState n = scHalt then s
  else s.driveOff n scOff

/-- The clear command. -/
def State.scnClear (s : State) (n : Nat) : State := if s.scState n = scHalt then s.scTo n scOff else s

/-- The clear_counters command. -/
def State.scnClearCounters (s : State) (n : Nat) : State :=
  s.clearAll n [F.SCN_PHASE_MAX_e_max, F.SCN_BD_MISS_CNT_bd_miss, F.SCN_FLY_CNT_fly, F.SCN_LOCK_LOST_CNT_lost, F.SCN_PRED_ERR_MAX_pred]

/-- SCN_START (R170). -/
def execScnStart (n : Nat) (offset : Int) (s : State) : Out := .next (if s.stnPowered n then s.scnStart n offset else s)

/-- SCN_STOP (R170). -/
def execScnStop (n : Nat) (s : State) : Out := .next (if s.stnPowered n then s.scnStop n else s)

/-- SCN_CLEAR (R173). -/
def execScnClear (n : Nat) (s : State) : Out := .next (if s.stnPowered n then s.scnClear n else s)

/-- SCN_CLEAR_COUNTERS (R173). -/
def execScnClearCounters (n : Nat) (s : State) : Out := .next (if s.stnPowered n then s.scnClearCounters n else s)

/-- SPIN_TMO (R170): SPINUP or SEARCH has lasted longer than spin_tmo; no frame is affected. -/
def execSpinTmo (n : Nat) (s : State) : Out :=
  if s.hasStn n && (s.scState n == scSpinup || s.scState n == scSearch)
      && decide ((s.scn n).spinAt + 1000000 * s.rd n F.SCN_SPIN_TMO_spin_tmo < s.now) then
    .next ((((s.driveOff n scHalt).wr n F.SCN_EVENT_tmo_s 1)).report n .scn 2 .u 0 [])
  else .next s

/-! ### The speed ramp (R157, R158, R163) -/

/-- The slots of a station that their owner triggers, supplies and reads, with no context (R262). -/
def State.ownerSlots (s : State) (n : Nat) : List Nat :=
  (List.range 24).filter fun i => s.rd n (F.LPE_SLOT_CFG_trig i) == 2 && s.rd n (F.LPE_SLOT_SRC_fb_src i) == 0x3F
    && s.rd n (F.LPE_SLOT_SRC_out_dst i) == 0x3F && !s.on n (F.LPE_SLOT_CFG_ctx i)

/-- SCN's slots: the phase loop (R158), and the amplitude of a mirror (R162). The manual does not say by what SCN knows them: they are the
first and the second owner's slot (DESIGN CHOICE, log entry 210). -/
def State.phaseSlot (s : State) (n : Nat) : Option Nat := (s.ownerSlots n)[0]?
def State.ampSlot (s : State) (n : Nat) : Option Nat := if s.isResonant n then (s.ownerSlots n)[1]? else none

/-- The trim, zero outside LOCKED and the end of a ramp (R158). -/
def State.trimOf (s : State) (n : Nat) : Int :=
  let st := s.scState n
  if st = scLocked ∨ ((st = scAcquire ∨ st = scRelock) ∧ (s.scn n).ramped ∧ s.vInside n (s.curAddr n)) then
    match s.phaseSlot n with
    | some i => rdiv ((s.slot n i).out * Config.trimScale (s.rd n F.SCN_CFG_kind)) 524288
    | none => 0
  else 0

/-- The speed that the command moves to, without trim: rpm_min in SPINUP, the present one in SEARCH, the web's while a grid runs. -/
def State.speedGoal (s : State) (n : Nat) : Int :=
  let st := s.scState n
  let a := s.curAddr n
  let least : Int := if s.isResonant n then s.rd n F.SCN_RES_FN_f_n * 1000000 else s.rpmMin n * 1000000
  if st = scSpinup ∨ s.scanLines n a = 0 then least
  else if st = scSearch then max least (s.scn n).cmd
  else s.speedFor n a (s.vClamp n a (s.scn n).meanVel)

/-- A frequency command inside the pull of the mirror (R163). -/
def State.speedLimit (s : State) (n : Nat) (x : Int) : Int :=
  if s.isResonant n then
    let f : Int := s.rd n F.SCN_RES_FN_f_n * 1000
    clampI (f * (1000 - s.pull n)) (f * (1000 + s.pull n)) x
  else x

/-- The facet interval that the motor feedback gives, 1/16 ns (R157). -/
def State.motorInterval (s : State) (n : Nat) : Nat :=
  7680000000000 / max 1 ((s.rdS n (F.MDR_CH_SPEED_speed 4)).natAbs * s.facetCount n)

/-- The end of a ramp is shaped until a sweep starts within acq_tol of a target: one step faster for a sweep that starts late, one slower
for an early one (R165; DESIGN CHOICE, log entry 211). -/
def State.rampShape (s : State) (n : Nat) : Int :=
  let x := s.scn n
  let st := s.scState n
  if (st = scAcquire ∨ st = scRelock) ∧ x.atSpeed = true ∧ x.ramped = false ∧ s.vInside n (s.curAddr n) = true then
    let e := s.rdS n F.SCN_PHASE_ERR_e
    if e = 0 then 0 else if 0 < e then s.rampStep10 n else -(s.rampStep10 n : Int)
  else 0

/-- One step of the command, trim included, toward its goal (R158, R163): a polygon's command is the reference of its channel, a mirror's the
frequency of its drive, whose amplitude slot sets the DAC (R162). -/
def State.rampCmd (s : State) (n : Nat) : State :=
  let goal := s.speedLimit n (s.speedGoal n + s.trimOf n + s.rampShape n)
  let x := s.scn n
  let step : Int := s.rampStep10 n
  let cmd := s.speedLimit n (if x.cmd ≤ goal then min goal (x.cmd + step) else max goal (x.cmd - step))
  let dac := match s.ampSlot n with
    | some i => (s.slot n i).out
    | none => x.dac
  let s := s.modScn n fun x => { x with cmd := cmd, dac := dac, atSpeed := x.atSpeed || decide (cmd = goal) }
  if s.isPolygon n then s.wrS n (F.MDR_CH_REF_ref 4) (rdiv (cmd * 8) 1000000) else s

/-- A mirror whose zero crossing is overdue by a whole half-period shows no amplitude: scan_ok falls (R157; DESIGN CHOICE, log entry 264). -/
def State.mirrorOk (s : State) (n : Nat) : State :=
  let x := s.scn n
  match x.crossAt with
  | some c => if s.isResonant n && s.on n F.SCN_STATUS_scan_ok && decide (c + 2 * max 1 x.halfPeriod < 16 * s.now) then s.scanOk n false else s
  | none => s

/-- The interval expected before the next BD0: the same facet's, one revolution earlier, else the last one, else the motor's (R160). -/
def State.nextInterval (s : State) (n : Nat) : Nat :=
  let l := (s.scn n).intervals
  match l[s.facetCount n - 1]? with
  | some t => t
  | none => l.headD (s.motorInterval n)

/-- The predicted time of the next BD0. -/
def State.nextBd0 (s : State) (n : Nat) : Option Nat := (s.scn n).bd0.map fun t => t + s.nextInterval n

/-- SCN asks for the assist beam of the coming window in SEARCH: around the predicted BD0, or 1/8 of the motor's interval from now (R157). -/
def State.assist (s : State) (n : Nat) : State :=
  if s.scState n ≠ scSearch then s
  else
    let run := match s.nextBd0 n with
      | some p =>
        let half := max 1 (s.rd n F.SCN_BD_bd_win) * s.nextInterval n / 1024
        assistRun ((p - half) / 16) (2 * half / 16)
      | none => assistRun (s.now + 640) (s.motorInterval n / 128)
    s.modLsr n fun x => { x with assists := run }

/-- POLY_RAMP_STEP (R157, R158, R163): scan_ok of a polygon follows its feedback, and SPINUP ends at rpm_min, with the first assist beam. A switch
that waited for a sweep start falls here once no grid runs (R97, R170). -/
def execPolyRampStep (n : Nat) (s : State) : Out :=
  if !s.hasStn n then .next s
  else
    let s := (s.polyOk n).mirrorOk n
    let s := if 1 ≤ s.scState n ∧ s.scState n ≤ 6 then s.rampCmd n else s
    let s := if s.isPolygon n && s.scState n == scSpinup && s.on n F.SCN_STATUS_scan_ok then (s.scTo n scSearch).assist n else s
    .next (if !s.scRuns n && !(s.scn n).inSweep && (s.cue n).swPend.isSome then s.applyBank n else s)

/-! ### The reference of a sweep (R153, R155) -/

/-- The reference of the coming sweep is known: its start, its phase error, and their delivery to the phase-loop slot (R155). -/
def State.deliver (s : State) (n ref start : Nat) (fly : Bool) : State :=
  if !s.scRuns n then s
  else
    let s := (s.modScn n fun x => { x with refAt := some ref, startAt := start, fly := fly, err := none }).wrB n F.SCN_STATUS_fly fly
    let s := if s.scState n = scAcquire ∨ s.scState n = scRelock then s.realign n else s
    match (s.scn n).grid with
    | none => s
    | some g =>
      let e := s.phaseError n start g.target
      let s := (s.modScn n fun x => { x with err := some e }).wrS n F.SCN_PHASE_ERR_e e
      match s.phaseSlot n with
      | some i => s.slotOwnerTrigger n i { y := satS 20 e }
      | none => s

/-- SEARCH ends: ACQUIRE begins with the coming sweep; a grid that ran before is kept (R165, R170). -/
def State.enterAcquire (s : State) (n start : Nat) : State :=
  let s := (s.scTo n scAcquire).modCks n fun c => { c with fpx := 0 }
  let v := s.tbVel n
  let s := s.modScn n fun x => { x with startAt := start, ramped := false, atSpeed := false, lastStart := none, meanVel := v }
  let s := match (s.scn n).grid with
    | none => s.newGrid n (s.tbAt n start / 4000)
    | some _ => s
  s.scnShow n

/-! ### Beam detect and facets (R160, R161) -/

/-- The sweep start that follows a BD0 (R153, R173). -/
def State.sosDelay (s : State) (n : Nat) : Nat := max 32000 (s.rd n F.SCN_SOS_DLY_sos_dly)

/-- The squared residual of the intervals against the signature if the latest one ends at facet x (R161). -/
def State.sigResidual (s : State) (n x : Nat) : Nat :=
  let f := s.facetCount n
  let l := (s.scn n).intervals.take (16 * f)
  let total : Int := (l.foldl (· + ·) 0 : Nat)
  let at_ : Nat → Int := fun j => (((List.range 16).map fun k => l.getD (j + k * f) 0).foldl (· + ·) 0 : Nat)
  (List.range f).foldl (fun a j =>
    let d := (f : Int) * at_ j - total - 16 * f * s.rdS n (F.SCN_FACET_SIG_sig ((x + f - j) % f))
    a + (d * d).toNat) 0

/-- The best facet for the latest BD0, with its residual and the second best's. -/
def State.sigBest (s : State) (n : Nat) : Nat × Nat × Nat :=
  (List.range (s.facetCount n)).foldl (fun (b : Nat × Nat × Nat) x =>
    let r := s.sigResidual n x
    if x = 0 then (0, r, 2 ^ 200) else if r < b.2.1 then (x, r, b.2.1) else (b.1, b.2.1, min b.2.2 r)) (0, 0, 2 ^ 200)

/-- The facet of a BD0 by the mode that fid_mode selects; FID_LOST after four revolutions that disagree (R161). -/
def State.identify (s : State) (n : Nat) : State :=
  let x := s.scn n
  let f := s.facetCount n
  let nxt := (x.facet + 1) % f
  if s.fidSignature n then
    let full := decide (16 * f ≤ x.intervals.length)
    if !x.facetKnown then
      let (b, r, r2) := s.sigBest n
      if full && decide (4 * r ≤ r2) then s.modScn n fun x => { x with facet := b, facetKnown := true, fidBad := 0 }
      else s.modScn n fun x => { x with facet := nxt }
    else
      let s := s.modScn n fun x => { x with facet := nxt }
      if full ∧ x.bdCount % f = 0 ∧ s.scState n = scLocked then
        let bad := if (s.sigBest n).1 = nxt then 0 else x.fidBad + 1
        let s := s.modScn n fun x => { x with fidBad := bad }
        if 4 ≤ bad then (s.wr n F.SCN_EVENT_fid_s 1).lockLost n scSearch false else s
      else s
  else if s.fidIndex n then
    if x.bd1Mark then s.modScn n fun x => { x with facet := 0, facetKnown := true, bd1Mark := false }
    else s.modScn n fun x => { x with facet := nxt }
  else s.modScn n fun x => { x with facet := 0, facetKnown := true }

/-- A facet has passed in SEARCH, detected or missed: at 64 revolutions after the first detection it should be known (R161). -/
def State.facetDue (s : State) (n : Nat) : State :=
  if s.scState n = scSearch ∧ (s.scn n).facetKnown = false ∧ (s.scn n).bdCount = 64 * s.facetCount n + 1 then
    (s.wr n F.SCN_EVENT_fid_s 1).reportC n .scn 1
  else s

/-- A BD0 edge lies in its window; before one revolution of intervals is known every edge does (R160). -/
def State.inWindow (s : State) (n t : Nat) : Bool :=
  match s.nextBd0 n with
  | none => true
  | some p =>
    decide ((s.scn n).intervals.length < s.facetCount n)
      || decide (((t : Int) - p).natAbs * 1024 ≤ max 1 (s.rd n F.SCN_BD_bd_win) * s.nextInterval n)

/-- A reference instant of a polygon is taken: the interval, the facet and the coming sweep (R160, R161, R198). -/
def State.takeBd0 (s : State) (n t : Nat) (fly : Bool) : State :=
  let f := s.facetCount n
  let s := s.modScn n fun x => { x with bd0 := some t, bdCount := x.bdCount + 1, bd1At := none,
                                        intervals := match x.bd0 with
                                          | some b => ((t - b) :: x.intervals).take (16 * f)
                                          | none => x.intervals }
  let s := s.identify n
  let s := if (s.scn n).facet = 0 then s.cksAuto n else s
  let s := s.wr n F.SCN_STATUS_facet (s.scn n).facet
  let start := t + s.sosDelay n
  if s.scState n = scSearch then
    let s := if (s.scn n).facetKnown then s.enterAcquire n start else s.facetDue n
    (s.deliver n t start fly).assist n
  else s.deliver n t start fly

/-- BD0_DETECTION (R160): an edge at a time in 1/16 ns. On a resonant mirror it is the first mark of the half-period (R153). -/
def execBd0Detection (n t : Nat) (s : State) : Out :=
  if !s.hasStn n || decide (s.scState n < scSearch ∨ s.scState n = scHalt) then .next s
  else if s.isResonant n then .next (s.modScn n fun x => { x with bd0 := some t })
  else if !s.isPolygon n || (s.scn n).refAt.isSome || !s.inWindow n t then .next s
  else .next (((s.modScn n fun x => { x with missRun := 0 }).takeBd0 n t false).polyOk n)

/-- A miss: counted as a BD0 miss and a flywheeled sweep, and a C-class source (R160). -/
def State.bdMiss (s : State) (n : Nat) : State :=
  (((s.bump n F.SCN_BD_MISS_CNT_bd_miss).bump n F.SCN_FLY_CNT_fly).wr n F.SCN_EVENT_bd_miss_s 1).reportC n .scn

/-- BD_WINDOW_CLOSE (R160, R166): no edge in the window of the predicted BD0. -/
def execBdWindowClose (n : Nat) (s : State) : Out :=
  if !s.hasStn n || !s.isPolygon n || decide (s.scState n < scSearch ∨ s.scState n = scHalt) || (s.scn n).refAt.isSome then .next s
  else
    match s.nextBd0 n with
    | none => .next (s.assist n)
    | some p =>
      let s := s.bdMiss n
      if s.scState n = scSearch then
        .next (((s.modScn n fun x => { x with bd0 := some p, intervals := [], bdCount := x.bdCount + 1 }).facetDue n).assist n)
      else
        let run := (s.scn n).missRun + 1
        let s := s.modScn n fun x => { x with missRun := run }
        if max 1 (s.rd n F.SCN_BD_bd_miss_n) ≤ run then
          .next ((s.modScn n fun x => { x with bd0 := some p, missRun := 0 }).lockLost n scSearch false |>.assist n)
        else .next (s.takeBd0 n p true)

/-! ### The resonant mirror (R153, R155, R162 to R164) -/

/-- A direction offset, in 1/16 ns at the present base rate (R164). -/
def State.dirOffset (s : State) (n : Nat) (rev : Bool) : Int :=
  let o := if rev then s.rdS n F.SCN_RES_REV_OFS_rev_ofs else s.rdS n F.SCN_RES_FWD_OFS_fwd_ofs
  let f := if (s.cks n).fpx = 0 then s.pxRate n 0 (s.scn n).halfPeriod else (s.cks n).fpx
  rdivUp (o * 250000000000) (max 1 f)

/-- The optical centre of a half-period is known: the prediction of it is judged, and the next sweep's start is predicted from it (R155). -/
def State.takeCentre (s : State) (n c : Nat) : State :=
  let x := s.scn n
  let miss : Int := match x.predicted with
    | some p => (c : Int) - p
    | none => 0
  let th := x.halfPeriod
  let nextC := ((c : Int) + th + miss).toNat
  let rev := !s.on n F.SCN_STATUS_dir
  let start := ((nextC : Int) - (s.duty n * th / 2000 : Nat) + s.dirOffset n rev).toNat
  let s := s.raiseTo n F.SCN_PRED_ERR_MAX_pred miss.natAbs
  let s := s.modScn n fun x => { x with centre := some c, predicted := some nextC, predCorr := miss }
  let s := if s.scState n = scSearch ∧ 64 ≤ (s.scn n).stable.length then s.enterAcquire n start else s
  s.deliver n nextC start false

/-- The amplitude of a half-period, 0.1 % of its target (R157, R162): the amplitude slot has it on the scale of its own goal. -/
def State.mirrorAmp (s : State) (n amp : Nat) : State :=
  let s := (s.wrSat n F.SCN_AMP_amp amp).scanOk n (decide (500 ≤ amp))
  let s := match s.ampSlot n with
    | some i => s.slotOwnerTrigger n i { y := satS 20 (rdiv (s.rdS n (F.LPE_SLOT_TGT_tgt i) * amp) 1000) }
    | none => s
  let s := if s.scState n = scSpinup ∧ 500 ≤ amp then s.scTo n scSearch else s
  let far := decide (s.rd n F.SCN_RES_CFG_amp_tol < ((amp : Int) - 1000).natAbs)
  let run := if far then (s.scn n).ampRun + 1 else 0
  let th := (s.scn n).halfPeriod
  let s := s.modScn n fun x => { x with ampRun := run, stable := if far then [] else (th :: x.stable).take 64 }
  let l := (s.scn n).stable
  let hi := l.foldl max 0
  let lo := l.foldl min th
  let s := if !far && decide (hi ≤ 1000 * (hi - lo)) then s.modScn n fun x => { x with stable := [th] } else s
  if max 1 (s.rd n F.SCN_RES_CFG_amp_n) ≤ run ∧ s.scRuns n then
    (s.wr n F.SCN_EVENT_amp_s 1).lockLost n scSearch false
  else s

/-- PICKUP_ZERO_CROSSING (R153, R155, R162, R164): at a time in 1/16 ns, with the sign of the slope and the amplitude. -/
def execPickupZeroCrossing (n t : Nat) (rising : Bool) (amp : Nat) (s : State) : Out :=
  if !s.hasStn n || !s.isResonant n || decide (s.scState n = scOff ∨ s.scState n = scHalt) then .next s
  else
    let th := match (s.scn n).crossAt with
      | some c => t - c
      | none => 0
    let s := (s.modScn n fun x => { x with crossAt := some t, halfPeriod := th }).wrB n F.SCN_STATUS_dir (!rising)
    let s := s.wrSat n F.SCN_SPEED_speed (rdiv 2048000000000 (max 1 th)).toNat
    let s := s.mirrorAmp n amp
    if s.rd n F.SCN_CFG_bd1_use = 1 ∨ th = 0 then .next s
    else .next (s.takeCentre n ((t : Int) + s.rdS n F.SCN_RES_LAG_pick_lag).toNat)

/-- BD1_DETECTION (R153, R161, R198): the end-of-scan time of a facet, the index mark, or the second mark of a half-period. -/
def execBd1Detection (n t : Nat) (s : State) : Out :=
  let x := s.scn n
  if !s.hasStn n || decide (s.scState n < scSearch ∨ s.scState n = scHalt) then .next s
  else
    match s.rd n F.SCN_CFG_bd1_use, x.bd0 with
    | 1, some b =>
      if s.isResonant n then .next ((s.modScn n fun x => { x with bd0 := none }).takeCentre n ((b + t) / 2))
      else if x.bd1At.isSome then .next s
      else if !x.facetKnown then .next (s.modScn n fun y => { y with bd1At := some t })
      else .next (s.modScn n fun y => { y with bd1At := some t, bdToBd1 := ((y.facet, t - b) :: y.bdToBd1).take (16 * s.facetCount n) })
    | 2, _ => .next (if s.isPolygon n then s.modScn n fun x => { x with bd1Mark := true } else s)
    | _, _ => .next s

/-! ### The lock at a sweep start (R165 to R168) -/

/-- |e| is within a number of 1/64 lines. -/
def withinLine (e : Int) (tol a : Nat) : Bool := decide (e.natAbs * 4096 ≤ tol * pitchOf a)

/-- The lock window in lines: limited to the steering range (R166, R173). -/
def State.lockWin (s : State) (n : Nat) : Nat := min (max 1 (s.rd n F.SCN_LOCK_lock_win)) (max 1 (s.steerRange n (s.curAddr n)))

/-- A sweep that counts toward a lock, and the run that completes it: LOCKED begins with the following sweep (R165). -/
def State.countRun (s : State) (n : Nat) (ok : Bool) : State :=
  let run := if ok then (s.scn n).run + 1 else 0
  s.modScn n fun x => { x with run := run, lockNext := decide (max 1 (s.rd n F.SCN_LOCK_acq_sweeps) ≤ run) }

/-- A settled sweep of REPHASE (R167). -/
def State.countSettle (s : State) (n : Nat) (ok : Bool) : State :=
  let k := if ok then (s.scn n).settled + 1 else (s.scn n).settled
  s.modScn n fun x => { x with settled := k, lockNext := decide (s.rd n F.SCN_RPH_settle ≤ k) }

/-- The state at a sweep start: a completed run locks, and a lock is judged (R165 to R167). In ACQUIRE and RELOCK the first sweep within
acq_tol at the speed of the web is the alignment sweep; outside the window of speeds the run starts again. Of a web outside v_min to v_max a
station takes notice only where its scanner cannot hold lock: FRM_VMIN bounds the promise (R91; DEDUCED, log entry 212). -/
def State.lockStep (s : State) (n : Nat) : State :=
  let e := (s.scn n).err.getD 0
  let a := s.curAddr n
  let s := if (s.scn n).lockNext then s.scTo n scLocked else s
  let st := s.scState n
  let inside := s.vInside n a
  let tol := max 1 (s.rd n F.SCN_LOCK_acq_tol)
  if st = scLocked ∨ st = scRephase then
    if !inside then s.lockLost n scAcquire true
    else if !withinLine e (64 * s.lockWin n) a then s.lockLost n scAcquire false
    else if st = scLocked then s.raiseTo n F.SCN_PHASE_MAX_e_max e.natAbs
    else if (s.scn n).shift ≠ 0 then s
    else s.countSettle n (withinLine e tol a)
  else if st = scAcquire ∨ st = scRelock then
    let ok := withinLine e tol a
    let x := s.scn n
    let go := inside && decide (x.shift = 0) && (x.ramped || (x.atSpeed && ok))
    (s.countRun n (go && ok)).modScn n fun x => { x with ramped := go, atSpeed := x.atSpeed && inside }
  else s

/-- The sweep-mean velocity: the advance since the last sweep start over its duration (R158). -/
def State.sweepSpeed (s : State) (n : Nat) : State :=
  let x := s.scn n
  let p := s.tbAt n x.startAt
  let v := match x.lastStart with
    | some (t, p0) => (rdiv (replicaDiff p p0) (max 1 (x.startAt - t))).toNat
    | none => x.meanVel
  s.modScn n fun x => { x with meanVel := v, lastStart := some (x.startAt, p) }

/-- A switch at its boundary, but for one that waits for a target tick: the sweep that carries lines of both jobs is the straddling sweep; the next sweep start completes it (R98). -/
def State.bankBoundary (s : State) (n : Nat) : State :=
  match (if (s.scn n).swAt.isSome && s.scState n != scLocked then none else (s.cue n).swPend), (s.scn n).grid with
  | some k, some g =>
    let t := s.switchTick n k
    let old := match t with
      | some t => decide (gridDiff g.target (t * 1024) < -512)
      | none => false
    if old && !s.on n F.CUE_BANK_STATUS_straddle && !(s.sweep n).straddle then
      (s.wr n F.CUE_BANK_STATUS_straddle 1).modSweep n fun w => { w with straddle := true, jobAt := t }
    else (s.applyBank n).modSweep n fun w => { w with straddle := false, jobAt := none }
  | _, _ => s.modSweep n fun w => { w with straddle := false, jobAt := none }

/-- The next frame takes the grid once every line of the frames before it has been carried (R154, R167): a frame that abuts steps the grid
by the rounding of E; another one re-phases it through REPHASE, by at most phase_slew a sweep. While the scanner still acquires, a shift waits for
the lock; a grid that stands on the frame needs none (DEDUCED, log entry 265). -/
def State.gridTake (s : State) (n : Nat) : State :=
  match (s.waitingFrames n).head?, (s.scn n).grid with
  | some f, some g =>
    let busy := (s.rin n).frames.any fun o => o.taken && decide (o.id ≠ f.id) && o.addr == g.addr
      && decide (o.lineAt g.target < o.lines ∧ gridDiff (o.first * 1024) (f.first * 1024) < 0)
    if f.addr ≠ g.addr ∨ busy then s
    else
      let q : Int := pitchOf g.addr
      let m := gridDiff (f.first * 1024) g.target % q
      let d := if q < 2 * m then m - q else m
      let st := s.scState n
      let take := s.modSFrame n f.id fun y => { y with taken := true }
      if f.kind = .continued then take.modScn n fun x => { x with grid := some { g with target := gridAdd g.target d } }
      else if st = scLocked ∨ st = scRephase then (take.scTo n scRephase).modScn n fun x => { x with shift := d }
      else if d = 0 then take
      else s
  | _, _ => s

/-! ### The lines of a sweep (R103, R124, R186, R187) -/

/-- The frames with a line in the present sweep whose FRAME_START the station has applied (R36, R83). -/
def State.carriedFrames (s : State) (n : Nat) : List Nat :=
  let w := s.sweep n
  (((List.range w.lines).filterMap fun j => (ownerOf (s.rin n).frames w.addr (gridAdd w.base ((j * pitchOf w.addr : Nat) : Int))).map
    fun x => x.1.id).eraseDups).filter fun id => (s.rin n).frames.any fun f => f.id == id && f.cued

/-- The cause bits under which a blank sweep flags its frames (R46, R48, R103). -/
def State.blankCauses (s : State) (n : Nat) : Nat :=
  let b := (s.stn n).blanks.foldl (fun a x => a ||| blankCause x) 0
  let b := if s.scState n = scLocked ∧ s.on n F.SCN_STATUS_scan_ok then b else b ||| causeBit 9
  if !(s.link n).blank then b
  else b ||| (if (s.link n).lost || (s.link n).hubLost then causeBit 13
    else if s.on n F.CUE_REP_STATUS_reverse then causeBit 10 else causeBit 11)

/-- The rows that Chervil draws into the sweep for its facet: its lines with those that a bend brings in at some pixel of it (R177). The bend is
straight between knots, so that the knots and the last pixel bound it. -/
def State.usedRow (s : State) (n : Nat) (row : Int) : Bool :=
  let w := s.sweep n
  let last := s.activePx n - 1
  let ds := (last :: ((List.range 33).map fun k => k * s.segPx n).filter fun i => decide (i ≤ last)).map fun i => (bendSplit (s.bend n w.facet i)).1
  decide (-(ds.foldl max 0) ≤ row ∧ row < (w.lines : Int) - ds.foldl min 0)

/-- The frames that own a row of the present sweep, with the rows that a bend brings in (R177, R186, R187). -/
def State.ownedFrames (s : State) (n : Nat) : List Nat :=
  let ids := s.carriedFrames n ++ ((s.rin n).rows.filter fun r => s.usedRow n r.row).map (·.frame)
  ids.eraseDups.filter fun id => (s.rin n).frames.any fun f => f.id == id && f.cued

/-- A frame's first sweep has begun on the station (R83). -/
def State.frameOn (s : State) (n id : Nat) : State :=
  if (s.rin n).frames.any fun f => f.id == id && f.started then s
  else ((s.modSFrame n id fun y => { y with started := true }).frameBegins id).modFrame id
    fun f => { f with onStn := f.onStn ||| 2 ^ (n - 1) }

/-- The sweep is written or blanked: frames are flagged as R103 states, and a frame that a lasting outcome blanks stays so (R186). LSR holds
every beam off while scan_ok is 0 (R157). -/
def State.sweepLines (s : State) (n : Nat) : State :=
  let ids := s.ownedFrames n
  let s := s.each (s.carriedFrames n) fun id s => s.frameOn n id
  let lasting := s.scState n ≠ scLocked ∨ !(s.stn n).blanks.isEmpty
  let blank := decide lasting || (s.link n).blank || s.on n F.LSR_STATUS_lso || !s.on n F.SCN_STATUS_scan_ok
  let s := s.modSweep n fun w => { w with blank := blank, owners := ids }
  if blank then
    let c := s.blankCauses n
    let s := if c = 0 then s else s.flagFrames ids n c
    let s := if lasting then s.each ids fun id s => s.modSFrame n id fun y => { y with blanked := true } else s
    let s := if s.scState n = scLocked then s.bump n F.LPL_BLANK_SWP_CNT_blank_cnt else s
    (if (s.stn n).blanks.contains .writeForbid then s.bump n F.LSR_FORBID_SWP_CNT_forbid_cnt else s).modSweep n
      fun w => { w with written := [] }
  else
    let live := ((s.rin n).rows.map (·.frame)).eraseDups.filter fun id =>
      (s.rin n).frames.any fun f => f.id == id && f.cued && !f.blanked
    let s := s.modSweep n fun w => { w with written := live }
    s.each ((s.rin n).rows.filter fun r => live.contains r.frame && s.usedRow n r.row) fun r s => s.rowOutcome n r

/-- A page that is still owed as the new job's first rows come: page late, one event until the page has been sent (R227, R239). -/
def State.sweepPage (s : State) (n : Nat) : State :=
  let owed := (s.lsr n).pageOwed || ((s.sweep n).straddle && !(s.lsr n).pageSent)
  let s := s.modSweep n fun w => { w with pageLate := owed && s.on n F.LSR_STATUS_link_up }
  if !(s.sweep n).pageLate then s.modLsr n fun x => { x with lateOn := false }
  else
    let s := if (s.sweep n).straddle then s else s.modSweep n fun w => { w with jobAt := (s.lsr n).jobTick }
    let hit := (s.ownedFrames n).filter fun id => (s.rin n).frames.any fun f => f.id == id
      && (match (s.sweep n).jobAt with
        | some t => decide (0 ≤ posDiff f.first t)
        | none => true)
    if hit.isEmpty then s
    else
      let told := (s.lsr n).lateOn
      let s := ((s.wr n F.LSR_STATUS_page_s 1).flagFrames hit n (causeBit 15)).modLsr n fun x => { x with lateOn := true }
      if told then s else s.report n .lsr 6 .u (causeBit 15) hit

/-- The frames of a new job whose lines a bank miss lets be written from the old bank (R100). -/
def State.sweepMissed (s : State) (n : Nat) : State :=
  match (s.cue n).missed with
  | none => s
  | some k =>
    let ids := (s.ownedFrames n).filter fun id => match s.frm.switches.find? fun w => w.num == k with
      | some w => s.frm.frames.any fun f => f.id == id && decide (0 ≤ posDiff f.start w.pos)
      | none => false
    if (s.sweep n).blank then s else s.flagFrames ids n (causeBit 15)

/-- The base rate of the sweep is in force: a rate outside the range blanks the sweep (R202, R228). -/
def State.sweepRate (s : State) (n : Nat) : State :=
  let s := if (s.cks n).fpx = 0 then
      s.retune n (s.scn n).facet (if s.isResonant n then (s.scn n).halfPeriod else s.nextInterval n) else s
  let f := (s.cks n).fpx
  let s := (s.wrSat n F.CKS_PX_FREQ_f_px (rdiv (f : Int) 1000000).toNat).modCks n fun c => { c with lastOk := s.rateOk n f }
  if s.rateOk n f then s
  else if (s.stn n).blanks.contains .rate then s
  else (s.addBlank n .rate).report n .cks 1 .u (causeBit 9) []

/-- What LPL and CKS take over at a sweep start (R184, R185, R204). -/
def State.sweepTables (s : State) (n : Nat) : State :=
  let s := if s.on n F.LPL_STATUS_apply_pend then s.lplCopy n else s
  let s := if (s.cks n).applyPend then (s.cksCopy n).modCks n fun c => { c with applyPend := false } else s
  let s := if s.autoTrim n then s else s.cksAuto n
  ((s.useTables n).clampRegs n).lplShow n

/-- The geometry of the sweep: base, shift, start phase and tables (R153, R176, R183, R221). A sweep of the mirror runs against the last
half-period's direction (R164). -/
def State.sweepShape (s : State) (n : Nat) (g : Grid) : State :=
  let x := s.scn n
  let rev := s.isResonant n && !s.on n F.SCN_STATUS_dir
  let s := s.wrB n F.SCN_STATUS_dir rev
  let f := if s.isResonant n then b2n rev else x.facet
  let u := s.sweepShift n f (x.err.getD 0)
  let ofs := if s.isResonant n then (if rev then s.rdS n F.SCN_RES_REV_OFS_rev_ofs else s.rdS n F.SCN_RES_FWD_OFS_fwd_ofs) else 0
  let phi := s.startPhase n f + ofs
  let told := s.rd n F.LPL_JOB_lut_sel
  let tnew := if (s.sweep n).straddle then s.rdArmed n F.LPL_JOB_lut_sel else told
  let by_ := s.onBypass n
  let t0 := s.firstEdge n (s.startPhase n f)
  let tol := s.rd n F.LPL_PLACE_TOL_place_tol
  let t := if s.isResonant n then x.halfPeriod else s.nextInterval n
  let bound := 256 * s.duty n * t * (1000 + max 5 (min 50 (s.rd n F.LSR_WD_max_on)))
  let s := s.modSweep n fun w => { w with base := g.target, lines := g.lines, addr := g.addr, u := u, phi := phi, facet := f, rev := rev,
                                          tblOld := told, tblNew := tnew, cut := false, bypass := by_,
                                          firstAt := t0, tol := tol, bound := bound }
  (s.wrS n F.LPL_SHIFT_u u).wrB n F.LPL_STATUS_bypass by_

/-- The grid moves on to its next target, by at most phase_slew of a shift; with no sweep to settle, LOCKED begins there; and the rows of that sweep are fetched (R124, R154, R167). -/
def State.gridNext (s : State) (n : Nat) (g : Grid) : State :=
  let slew : Int := max 1 (s.rd n F.SCN_RPH_phase_slew) * 1024
  let d := clampI (-slew) slew (s.scn n).shift
  let t := gridAdd g.target ((g.lines * pitchOf g.addr : Nat) + d)
  let now := s.scState n == scRephase && decide ((s.scn n).shift = d) && s.rd n F.SCN_RPH_settle == 0
  let s := s.modScn n fun x => { x with grid := some { g with target := t }, shift := x.shift - d, lockNext := x.lockNext || now }
  s.fetchSweep n t g.lines g.addr

/-- SWEEP_START (R83, R98, R124, R153 to R168, R176, R184 to R187, R202, R237): a sweep whose reference is known starts. -/
def execSweepStart (n : Nat) (s : State) : Out :=
  if !s.hasStn n || !s.scRuns n || (s.scn n).refAt.isNone || (s.scn n).inSweep then .next s
  else
    let s := ((s.useUnit n .scan).sweepSpeed n).scnShow n
    let s := (s.lockStep n).scnShow n
    let tick := (((s.scn n).grid.map (·.target)).getD 0 + 512) / 1024 % two40
    let s := ((s.sweepActions n tick).targetSwitch n).bankBoundary n
    let s := s.gridTake n
    let s := if (s.cks n).px = 0 then s else s.pxRelockFail n
    let s := ((s.sweepTables n).sampleWriteOk n).sweepRate n
    match (s.scn n).grid with
    | none => .next s
    | some g =>
      let s := s.modRin n fun x => { x with rows := x.nextRows }
      let s := (s.sweepShape n g).modScn n fun x => { x with inSweep := true, refAt := none, err := none }
      let s := s.modLsr n fun x => { x with
        launched := false, perSweep := some (s.rd n F.LSR_APC_CFG_per_sweep), pulseUs := some (s.rd n F.LSR_APC_CFG_pulse_us),
        apcDly := s.rd n F.LSR_APC_DLY_apc_dly, strayThr := some (s.rd n F.LSR_WD_stray_thr), endAt := none }
      let s := ((s.sweepPage n).sweepLines n).sweepMissed n
      .next (((s.gridNext n g).scnShow n).keepUnit n .scan)

/-- A sweep on bypass: its error estimate against place_tol (R187, R212). -/
def State.sweepBypass (s : State) (n : Nat) : State :=
  let w := s.sweep n
  if !(w.bypass || s.onBypass n) || w.blank then s
  else
    let e := errEstimate (s.cks n).fpx
    let s := (s.bump n F.LPL_BYPASS_CNT_bypass_cnt).wrSat n F.CKS_PX_ERR_EST_e_est e
    if e ≤ w.tol then s
    else ((s.bump n F.LPL_PLACE_FLAG_CNT_place_cnt).wr n F.LPL_STATUS_place_s 1).flagFrames w.owners n (causeBit 1)

/-- The frames whose last line the sweep carried have passed the station (R83). -/
def State.sweepEnded (s : State) (n : Nat) : State :=
  let w := s.sweep n
  let gone := (s.rin n).frames.filter fun f => (f.started || f.outside) && f.addr == w.addr && decide ((f.lines : Int) ≤ f.lineAt w.base + w.lines)
  s.each gone fun f s => s.frameOff n f.id

/-- SWEEP_END (R125, R187, R199, R209, R212): the active sweep ends. -/
def execSweepEnd (n : Nat) (s : State) : Out :=
  if !s.hasStn n || !(s.scn n).inSweep then .next s
  else
    let w := s.sweep n
    let s := (s.sweepBypass n).modScn n fun x => { x with inSweep := false }
    let s := (s.sweepEnded n).releaseSweep n w.base w.lines w.addr
    let x := s.scn n
    let s := s.retune n (if s.isResonant n then 0 else if x.facetKnown && (s.fidSignature n || s.fidIndex n) then (x.facet + 1) % s.facetCount n else 0)
      (if s.isResonant n then x.halfPeriod else s.nextInterval n)
    let s := (s.sendDrive n).modLsr n fun y => { y with apcSent := 0, endAt := some s.now }
    let s := if !s.scRuns n && (s.cue n).swPend.isSome then s.applyBank n else s
    .next (s.lineEnded n)

end Sys2Proof.Machine
end

