-- ==== Sys2Proof/Machine/RegCmd.lean ====
section
/-! DEFINITION. What a write to a command register or to a register with a meaning of its own does (the WO fields of every register table):
each bit carries out the command that has a row of its own. -/

namespace Sys2Proof.Machine

/-- The element of an array of words at an offset. -/
def arrayIx (off base stride count : Nat) : Option Nat :=
  if base ≤ off ∧ (off - base) % stride = 0 ∧ (off - base) / stride < count then some ((off - base) / stride) else none

/-- The commands of a word, for each bit that is set, from the lowest. -/
def State.commands (s : State) (v : Nat) (l : List (State → Out)) : State :=
  s.each l.zipIdx fun (c : (State → Out) × Nat) s => if v.testBit c.2 then s.after c.1 else s

/-- A number of fresh free values. -/
def State.takeFrees (s : State) (k : Nat) : List Nat × State :=
  (List.range k).foldl (fun r _ => (r.1 ++ [r.2.takeFree.1], r.2.takeFree.2)) ([], s)

/-- Measurements of a recalibration that a register write orders: free (R55). -/
def State.freeCals (s : State) : List LinkCal × State :=
  s.stns.foldl (fun r n =>
    let (a, s) := r.2.takeFrees 8
    let (b, s) := s.takeFrees 8
    (r.1 ++ [⟨n, a, b⟩], s)) ([], s)

/-- The shunt samples that no PWM_PERIOD has brought before a start that a register write orders: free (R296; DESIGN CHOICE, log entry 270). -/
def State.freeOffset (s : State) : Int × State := (sgn 20 (s.takeFree.1 % 0x100000), s.takeFree.2)

/-- The recalibration that WTB_CMD orders. -/
def recalNow (s : State) : Out :=
  let (c, s) := s.freeCals
  execRecal c s

/-- The start of a motor channel, or of the scanner, that a command register orders. -/
def startNow (d k : Nat) (s : State) : Out :=
  let (o, s) := s.freeOffset
  execMdrChStart d k o s
def scnStartNow (n : Nat) (s : State) : Out :=
  let (o, s) := s.freeOffset
  execScnStart n o s

/-- Slots 0 to 3: CUE, RIN, XFR and LPE. -/
def State.cueCommand (s : State) (d off v : Nat) : Option State :=
  if off = F.CUE_CMD_clear_counters.off then some (s.commands v [execCueClearCounters d])
  else if off = F.CUE_LIST_CMD_op.off then some (if v % 16 < 4 ∨ v / 16 % 4 = 1 then s.listCmd d (v / 16 % 4) (v % 16) else s)
  else if off = F.CUE_EDIT_CMD_op.off then
    some (match v % 4 with
      | 1 => s.editRead d
      | 2 => s.editWrite d
      | 3 => s.editLink d
      | _ => s)
  else if d ≠ 0 ∧ off = F.CUE_REP_COH_TOL_coh_tol.off then some (s.cohTolWrite d (v % 256))
  else match arrayIx off 0x100 4 4 with
    -- lists 0 to 3 are FRM's (R78)
    | some _ => some (s.reject d .cue F.CUE_STATUS_write_reject)
    | none => (arrayIx off 0x140 4 16).map fun j => s.headWrite d j v

def State.rinCommand (s : State) (d off v : Nat) : Option State :=
  if d = 0 then
    if off = F.RIN_RSET_CMD_op.off then
      some (match v / 256 % 4 with
        | 1 => s.sealSet (v % 256)
        | 2 => s.unsealSet (v % 256)
        | _ => s)
    else none
  else if off = F.RIN_DESC_CMD_op.off then
    some (match v % 4 with
      | 1 => s.descRead d
      | 2 => s.descWrite d
      | _ => s)
  else if off = F.RIN_CMD_clear_counters.off then some (s.commands v [execRinClearCounters d])
  else (arrayIx off 0x10100 0x10 8).map fun c => s.commitNow d c (v % 0x100000)

def State.xfrCommand (s : State) (d off v : Nat) : Option State :=
  let n := if d = 0 then 32 else 8
  -- the configuration of channel 7 of a station is RIN's: writes are ignored (R150)
  if d ≠ 0 ∧ [0x202C0, 0x202C4, 0x202C8, 0x202CC].contains off then some s
  else match arrayIx off 0x20110 0x40 n with
  | some c => some (s.commands v [execChannelStart d c, execResume d c, execAbort d c, execXfrChClearCounters d c])
  | none =>
    if d = 0 ∧ off = F.XFR_RES_LIMIT_res_limit.off then some (s.resLimitWrite (v % 0x4000))
    else if d = 0 ∧ (arrayIx off (F.XFR_CH_RES_res_mbps 0).off 0x40 32).isSome then
      (arrayIx off (F.XFR_CH_RES_res_mbps 0).off 0x40 32).map fun c => s.resWrite c (v % 0x4000)
    else if d ≠ 0 ∧ off = F.XFR_SDESC_CMD_op.off then
      some (match v % 4 with
        | 1 => s.sdescRead d
        | 2 => s.sdescWrite d
        | _ => s)
    else none

def State.lpeCommand (s : State) (d off v : Nat) : Option State :=
  if off = F.LPE_CMD_clear_counters.off then some (s.commands v [execLpeClearCounters d])
  else match arrayIx off 0x30144 0x80 (slotCount d), arrayIx off 0x30120 0x80 (slotCount d), arrayIx off 0x30124 0x80 (slotCount d) with
    | some i, _, _ => some (s.commands v [execSlotStart d i, execSlotStop d i, execSlotClear d i])
    | _, some i, _ => some (s.limWrite d i true v)
    | _, _, some i => some (s.limWrite d i false v)
    | _, _, _ => none

/-- Slots 4 to 9: MDR, THM, FLT, MEM and CKS. -/
def State.midCommand (s : State) (d off v : Nat) : Option State :=
  if off = F.MDR_CMD_clear.off then some (s.commands v [execMdrClear d, execMdrClearCounters d])
  else if d = 0 ∧ off = F.THM_CMD_clear_counters.off then some (s.commands v [execThmClearCounters])
  else if off = F.FLT_CMD_clear_f.off then
    some (s.commands v [if d = 0 then execClearF else fun s => .next (s.reject d .flt F.FLT_STAT2_write_reject), execFltClearCounters d])
  else if off = F.MEM_CMD_arm.off then some (s.commands v [execMemArm d, execMemDisarm d, execMemClearCounters d])
  else if off = F.CKS_SYS_CMD_clear_counters.off then some (s.commands v [execCksSysClearCounters d])
  else if d ≠ 0 ∧ off = F.CKS_PX_CMD_apply.off then some (s.commands v [execPxApply d, execCksPxClearCounters d])
  else (arrayIx off 0x50884 0x800 (if d = 0 then 4 else 2)).map fun k =>
    s.commands v [startNow d k, execMdrChStop d k, execMdrChClear d k, execMdrChClearCounters d k]

/-- Slots 10 to 12 of a station: SCN, LPL and LSR. -/
def State.stnCommand (s : State) (n off v : Nat) : Option State :=
  if off = F.SCN_CMD_start.off then some (s.commands v [scnStartNow n, execScnStop n, execScnClear n, execScnClearCounters n])
  else if off = 0xA0884 then some (s.commands v [startNow n 4, execMdrChStop n 4, execMdrChClear n 4, execMdrChClearCounters n 4])
  else if off = F.LPL_CMD_apply.off then some (s.commands v [execLplApply n, execLplClearCounters n])
  else if off = F.LPL_REG_WEB_reg_web.off then some (s.regWrite n false v)
  else if off = F.LPL_REG_SCAN_reg_scan.off then some (s.regWrite n true v)
  else if off = F.LPL_REG_LIM_lim_web.off then some (s.regLimWrite n v)
  else if off = F.LSR_CMD_train.off then some (s.commands v [execTrain n, execTest n, execTestStop n, execLsrClearCounters n])
  else (arrayIx off (F.LSR_DRV_drv 0).off 4 40).map fun k => s.drvWrite n k (v % 4096)

/-- Slots 10 to 14 of the hub: WTB, FRM, RGC, AXS and HIF. -/
def State.hubCommand (s : State) (off v : Nat) : Option State :=
  if off = F.WTB_CMD_preset.off then some (s.commands v [execPreset, execCapture, execRebaseline, recalNow, execWtbClearCounters])
  else if off = F.FRM_SUB_CMD_submit.off then some (s.commands v [execSubmit, execWithdraw, execPopDone, execFrmClearCounters])
  else if off = F.RGC_CMD_reset_est.off then some (s.commands v [execRgcClearCounters, execPopRaw, execResetEst])
  else if off = F.AXS_CMD_clear_counters.off then some (s.commands v [execAxsClearCounters])
  else if off = F.HIF_CMD_clear_counters.off then some (s.commands v [execHifClearCounters])
  else match arrayIx off (F.RGC_CORR_WEB_corr_w 1).off 0x20 7, arrayIx off (F.RGC_CORR_SCAN_corr_x 1).off 0x20 7, arrayIx off 0xD0128 0x40 8,
      arrayIx off 0xE0020 4 4 with
    | some n, _, _, _ => some (s.corrWrite (n + 1) false v)
    | _, some n, _, _ => some (s.corrWrite (n + 1) true v)
    | _, _, some x, _ => some (s.commands v [execAxisEnable x, execAxisDisable x, execAxisClear x, execAxisPreset x, execAxsAxClearCounters x])
    | _, _, _, some w => some (s.pendClear w v)
    | _, _, _, _ => none

/-- The sub-windows of slot 15 of the hub but CFG: PLK, ISP, FIN, SVC, FSR, EVR, LOV and BAY. -/
def State.subCommand (s : State) (off v : Nat) : Option State :=
  if off = F.PLK_TX_CMD_send.off then some (if v.testBit 7 then s.plkSend (v % 128) else s)
  else if off = F.PLK_TX_DATA_data.off then some (s.plkTxWrite v)
  else if off = F.PLK_RX_CMD_pop.off then some (s.commands v [execPop, execPlkClearCounters])
  else if off = F.ISP_CMD_clear_counters.off then some (s.commands v [execIspClearCounters])
  else if off = F.FIN_CMD_clear_counters.off then some (s.commands v [execFinClearCounters])
  else if off = F.SVC_CMD_clear_counters.off then some (s.commands v [execSvcClearCounters])
  else if off = F.FSR_CMD_warmup.off then some (s.commands v [execWarmup, execFsrStandby, execFsrOff, execFsrClear, execFsrClearCounters])
  else if off = F.EVR_CMD_freeze.off then some (s.commands v [execFreeze, execUnfreeze, execEvrClearCounters])
  else if off = F.EVR_CURSOR_rec.off then some (s.evrCursor (v % 4096) (v / 4096 % 8))
  else if off = F.LOV_JCMD_op.off then some (s.lovJcmd (v / 4096 % 256) (v / 1024 % 4) (v % 256))
  else if off = F.LOV_CMD_compact_jrn.off then some (s.commands v [execCompactJrn, execCompactArc, execLovClearCounters])
  else if off = F.LOV_STAGE_DATA_data.off then some (s.stageWrite v)
  else if off = F.LOV_RD_ADDR_cw.off then some (s.lovAddr (bitsN v F.LOV_RD_ADDR_part.hi F.LOV_RD_ADDR_part.lo) (bitsN v F.LOV_RD_ADDR_cw.hi F.LOV_RD_ADDR_cw.lo))
  else if off = F.BAY_CMD_standby.off then some (s.commands v [execBayStandby, execClearCause, execClearTrip])
  else none

end Sys2Proof.Machine
end

