-- ==== Sys2Proof/Machine/RegWrite.lean ====
section
/-! DEFINITION. Writing a register: the units for which an X-class field is fixed (R19), the fields of a word one by one (R450), the LO/HI pairs
of a path (R16, R451), and what an image record writes (R21). -/

namespace Sys2Proof.Machine

/-! ### Units that run (R19) -/

/-- The scanner and the pixel PLL of a station run for R19: every state but OFF and HALT (R173, R214). -/
def State.scnOn (s : State) (n : Nat) : Bool := s.scState n != scOff && s.scState n != scHalt

/-- A motor channel runs for R19 (R312, R313): every state but OFF and COAST. -/
def State.chanOn (s : State) (d k : Nat) : Bool := s.chState d k != chOff && s.chState d k != chCoast

/-- The slot, channel, axis or heater number of an offset in an array. -/
def unitOf (off base stride : Nat) : Nat := (off - base) / stride

/-- The unit that holds the X-class fields of a word runs (R19 and the For-R19 sentences of the chapters). -/
def State.unitRuns (s : State) (d off : Nat) : Bool :=
  match off / 0x10000 with
  | 0 => (List.range 16).any fun j => off == (F.CUE_LIST_CFG_enable j).off && (s.on d (F.CUE_LIST_CFG_enable j) || !s.listIdle d j)
  | 2 =>
    if off < 0x20100 then (List.range (if d = 0 then 32 else 8)).any fun c => s.xRuns d c
    else s.xRuns d (unitOf off 0x20100 0x40)
  | 3 => s.slotState d (if off < 0x32000 then unitOf off 0x30100 0x80 else unitOf off 0x32000 0x100) != slotOff
  | 4 => if off < 0x40010 then !(s.hvActive d).isEmpty else (s.hvActive d).contains (unitOf off 0x40010 4)
  | 5 => if off < 0x50800 then (chanList d).any fun k => s.chanOn d k else s.chanOn d (unitOf off 0x50800 0x800)
  | 6 => s.boot.thmOn
  | 7 => s.frmRuns
  | 9 => d != 0 && s.scnOn d
  | 10 => if d = 0 then s.wtb.runs else if 0xA0800 ≤ off then s.chanOn d 4 else s.scnOn d
  | 11 => if d = 0 then s.frmRuns else s.scRuns d
  | 12 => if d = 0 then s.on 0 F.RGC_CTRL_en else s.on d F.LSR_STATUS_link_up
  | 13 => s.boot.phase == .released
  | 15 =>
    match off % 0x10000 / 0x1000 with
    | 0 => s.plk.sending.isSome || !s.plk.waits.isEmpty || !s.plk.acks.isEmpty || !s.plk.faults.isEmpty || !s.plk.slows.isEmpty
        || s.plk.mail.isSome || s.plk.status
    | 1 => s.frmRuns || !s.ports.tags.isEmpty
    | 2 => s.frmRuns || (s.ports.outs.drop 3).any Option.isSome || s.ports.webPulse || s.ports.rejects.any fun l => !l.isEmpty
    | 4 => s.fsrState != fsrOff && s.fsrState != fsrTrip
    | _ => false
  | _ => false

/-- A discarded write sets write_reject of its block, or of the channel, slot or axis that has one of its own. -/
def State.rejectWrite (s : State) (d off : Nat) : State :=
  match off / 0x10000 with
  | 0 => s.reject d .cue F.CUE_STATUS_write_reject
  | 1 => s.reject d .rin (if d = 0 then F.RIN_HSTATUS_write_reject else F.RIN_STATUS_write_reject)
  | 2 => if off < 0x20100 then s.reject d .xfr F.XFR_STATUS_write_reject else s.xReject d (unitOf off 0x20100 0x40)
  | 3 =>
    if off < 0x30100 then s.reject d .lpe F.LPE_STATUS_write_reject
    else s.reject d .lpe (F.LPE_SLOT_STATUS_write_reject (if off < 0x32000 then unitOf off 0x30100 0x80 else unitOf off 0x32000 0x100))
  | 4 => s.reject d .hvc F.HVC_STATUS_write_reject
  | 5 =>
    if off < 0x50800 then s.reject d .mdr F.MDR_STATUS_write_reject
    else s.reject d .mdr (F.MDR_CH_EVENT_write_reject (unitOf off 0x50800 0x800))
  | 6 => s.reject d .thm F.THM_STATUS_write_reject
  | 7 => s.reject d .flt F.FLT_STAT2_write_reject
  | 8 => s.reject d .mem F.MEM_STATUS_write_reject
  | 9 => s.reject d .cks F.CKS_PX_STATUS_write_reject
  | 10 =>
    if d = 0 then s.reject 0 .wtb F.WTB_STATUS_write_reject
    else s.reject d .scn (if 0xA0800 ≤ off then F.MDR_CH_EVENT_write_reject 4 else F.SCN_EVENT_write_reject)
  | 11 => if d = 0 then s.reject 0 .frm F.FRM_STATUS_write_reject else s.reject d .lpl F.LPL_STATUS_write_reject
  | 12 => if d = 0 then s.reject 0 .rgc F.RGC_STATUS_write_reject else s.reject d .lsr F.LSR_STATUS_write_reject
  | 13 => if off < 0xD0100 then s.reject 0 .axs F.AXS_STATUS_write_reject else s.axReject (unitOf off 0xD0100 0x40)
  | 15 =>
    match off % 0x10000 / 0x1000 with
    | 0 => s.reject 0 .plk F.PLK_STATUS_write_reject
    | 1 => s.reject 0 .isp F.ISP_STATUS_write_reject
    | 2 => s.reject 0 .fin F.FIN_STATUS_write_reject
    | 4 => s.reject 0 .fsr F.FSR_STATUS_write_reject
    | 8 => s.reject 0 .bay F.BAY_STATUS_write_reject
    | _ => s
  | _ => s

/-! ### Fields (R18, R19, R450) -/

/-- The value that a word gives to a field. -/
def Field.of (f : Field) (v : Nat) : Nat := bitsN v f.hi f.lo

/-- A field whose write goes to the staged bank (R93, R268). -/
def State.isBanked (s : State) (d off : Nat) (f : Field) : Bool := (s.bankedFields off d).contains (f.hi, f.lo)

/-- A write that a field refuses whatever runs: src 3 of a station list (R65), enc_source 3 (R58), SCN_CFG.kind and SCN_JOB.addr, which CFG and FRM alone write
(R21, R173). -/
def State.fieldBars (s : State) (d : Nat) (f : Fld) (v : Nat) : Bool :=
  if d ≠ 0 ∧ f.off / 0x10000 = 0 then (List.range' 4 12).any fun j => f == F.CUE_LIST_CFG_src j && v == 3
  else if f = F.SCN_CFG_kind then d != 0 && v != s.rd d f
  else if f = F.SCN_JOB_addr then d != 0
  else if f = F.WTB_CTRL_enc_source then d == 0 && v == 3
  else false

/-- A word that THM refuses whatever runs: a window without lo below hi, or a limit that breaks warn < crit < trip. The limits are signed (R334,
R335, R342). -/
def State.thmBars (s : State) (d off v : Nat) : Bool :=
  let t := sgn 12 (v % 4096)
  if off = F.THM_WIN_WR_wr_lo.off ∨ off = F.THM_WIN_CHG_chg_lo.off then d != 0 && decide (v / 1024 ≤ v % 1024)
  else if d ≠ 0 then false
  else if off = F.THM_WARN_warn.off then decide (s.rdS 0 F.THM_CRIT_crit ≤ t)
  else if off = F.THM_CRIT_crit.off then decide (t ≤ s.rdS 0 F.THM_WARN_warn ∨ s.tripLevel ≤ t)
  else off == F.THM_TRIP_trip.off && decide (min 1150 t ≤ s.rdS 0 F.THM_CRIT_crit)

/-- A write to one field of a register, judged on the state `o` before the whole write. -/
def State.writeField (s o : State) (d off : Nat) (f : Field) (w : Nat) : State :=
  let fld : Fld := ⟨off, f.hi, f.lo⟩
  let v := f.of w
  match f.acc with
  | .ro | .wo => s
  | .w1c => s.wr d fld (s.rd d fld - (s.rd d fld &&& v))
  | .rw =>
    if o.fieldBars d fld v then s.rejectWrite d off
    else if s.isBanked d off f then s.wrStaged d fld v
    else if f.cls = .fixed then
      if v = s.rd d fld then s else if o.unitRuns d off then s.rejectWrite d off else s.wr d fld v
    else s.wr d fld v

/-- A write to a register carries a banked field that accepts it (R96). -/
def State.writesBank (s : State) (d off : Nat) (r : Reg) (w : Nat) : Bool :=
  r.fields.any fun f => f.acc == .rw && s.isBanked d off f && !s.fieldBars d ⟨off, f.hi, f.lo⟩ (f.of w)

/-- The memory that holds a register of a table: 4 the programs of LPE, 5 the tables of a station, 6 the marks, the firing delays and the
linearisation tables (R364). -/
def tableMem (d off : Nat) : Option Nat :=
  if isSlotWord off then some 4
  else if d ≠ 0 ∧ isCalWord off then some 5
  else if decide (0x60100 ≤ off ∧ off < 0x60184) || (d == 0 && (decide (0xC0100 ≤ off ∧ off < 0xC0170) || decide (0xF4100 ≤ off ∧ off < 0xF4184))) then
    some 6
  else none

/-- In OFF a slot's output is its safe output as its program now gives it (R270). -/
def State.slotShowsSafe (s : State) (d off : Nat) : State :=
  let i := unitOf off 0x30100 0x80
  let r := (off - 0x30100) % 0x80
  if decide (off < 0x32000) && (r == 4 || r == 0x28 || r == 0x2C || r == 0x30) && s.slotState d i == slotOff then
    s.slotDrive d i (s.slotSafe d i)
  else s

/-- What follows a write: the code word of a table takes it (R366); and registers show what others hold: the die summary of the collectors
(R361), what SCN and LPL compute; the bypass that a new X-class setting of the pixel PLL or a new LNK divider takes (R206), and the wake line
of a cleared cause (R407). -/
def State.afterWrite (s : State) (d off : Nat) (old : Word) : State :=
  let s := match tableMem d off with
    | some m => s.ctlWrite d m off
    | none => s
  if off / 0x10000 = 7 then s.dieSum
  else if d ≠ 0 ∧ (off / 0x10000 = 10 ∨ off / 0x10000 = 11) then (s.scnShow d).lplShow d
  else if d ≠ 0 ∧ off = F.CKS_PX_CFG_bw_sel.off ∧ s.rdWord d off % 8 ≠ old % 8 then s.pxOff d
  else if d ≠ 0 ∧ off = F.LSR_CFG_lane_rate.off ∧ s.rd d F.LSR_CFG_lane_rate ≠ getBits old F.LSR_CFG_lane_rate.hi F.LSR_CFG_lane_rate.lo then
    s.modLsr d fun x => { x with train := 0 }
  else if d = 0 ∧ off = F.RGC_CTRL_en.off then
    s.modRgc fun r => { r with enOn := r.enOn || s.on 0 F.RGC_CTRL_en || getBits old F.RGC_CTRL_en.hi F.RGC_CTRL_en.lo == 1 }
  else if off / 0x10000 = 3 ∧ isSlotWord off then s.slotShowsSafe d off
  else if (arrayIx off (F.HVC_CH_CFG_pol 0).off 4 (hvCount d)).isSome then s.hvShow d
  else if d = 0 ∧ off = F.BAY_WAKE_CAUSE_cmp.off ∧ s.rdWord 0 off = 0 then s.modBay fun b => { b with wakeN := false }
  else s

/-- A write to a register without a meaning of its own, field by field; whether the unit runs is judged before the write. Each changed field of
class X that is discarded, and each other field that is refused, is one C-class event (DEDUCED, log entry 198). -/
def State.writeFields (s : State) (d off w : Nat) : State :=
  match findReg d off with
  | none => s
  | some (r, _) =>
    if s.thmBars d off w then s.rejectWrite d off
    else
      let old := s.rdWord d off
      let s := if s.writesBank d off r w then s.bumpWrap d F.CUE_STAGE_WCNT_stage_wcnt else s
      (s.each r.fields fun f t => t.writeField s d off f w).afterWrite d off old

/-! ### Registers whose writes act -/

/-- The meaning of a write to a register that has one, by the slot of its block. `cfg` is CFG's command register (R402). -/
def State.slotCommand (s : State) (cfg : Nat → State → State) (d off v : Nat) : Option State :=
  match off / 0x10000 with
  | 0 => s.cueCommand d off v
  | 1 => s.rinCommand d off v
  | 2 => s.xfrCommand d off v
  | 3 => s.lpeCommand d off v
  | 10 | 11 | 12 | 13 | 14 => if d = 0 then s.hubCommand off v else s.stnCommand d off v
  | 15 =>
    if d ≠ 0 then none
    else if off = F.CFG_UPD_CMD_op.off then some (cfg (v % 8) s)
    else if 0xF8100 + 4 * 60 ≤ off ∧ off < 0xF8200 then some (s.rejectWrite 0 off)
    else s.subCommand off v
  | _ => s.midCommand d off v

/-- A write of a 20-bit word at a die-relative offset, pairs aside. -/
def State.writeWord (s : State) (cfg : Nat → State → State) (d off v : Nat) : State :=
  let v := v % 0x100000
  match s.slotCommand cfg d off v with
  | some t => t
  | none =>
    -- req_sel of a hub channel is checked against the reservations (R147)
    match (if d = 0 then arrayIx off 0x20100 0x40 32 else none) with
    | some c => (s.writeFields d off (setBits (BitVec.ofNat 20 v) (F.XFR_CH_CFG_req_sel c).hi (F.XFR_CH_CFG_req_sel c).lo
        (s.rd d (F.XFR_CH_CFG_req_sel c))).toNat).reqSelWrite c (bitsN v (F.XFR_CH_CFG_req_sel c).hi (F.XFR_CH_CFG_req_sel c).lo)
    | none => s.writeFields d off v

/-! ### Pairs (R16, R451) -/

/-- The half of a pair that a register is. -/
def halfAt (d off : Nat) : Half :=
  match findReg d off with
  | some (r, _) => r.half
  | none => .single

/-- A LO is committed, with the held HI where there is one. -/
def State.commitPair (s : State) (cfg : Nat → State → State) (d off lo : Nat) (hi : Option Nat) : State :=
  if d = 0 ∧ off = P.BAY_RTC_SEC then s.rtcCommit lo (hi.getD (s.rtcSec / 0x100000))
  else
    match (if d = 0 then (List.range 8).find? fun x => off == P.AXS_AX_TGT x else none) with
    | some x => s.axTgtWrite x (lo % 0x100000 + 0x100000 * (hi.getD (s.rdWord 0 (off + 4)).toNat))
    | none =>
      let s := match hi with
        | some h => s.writeWord cfg d (off + 4) h
        | none => s
      s.writeWord cfg d off lo

/-- A write on a requester path. -/
def State.pathWrite (s : State) (cfg : Nat → State → State) (p : Path) (d off v : Nat) : State :=
  match halfAt d off with
  | .hi => s.modPath p fun r => { r with hold := r.hold.set d (some (v % 0x100000)) }
  | .lo =>
    let (h, s) := s.takeHold p d
    s.commitPair cfg d off (v % 0x100000) h
  | .single =>
    if off = F.CUE_BANK_VIEW_bank_view.off ∧ p = .service then s.modCue d fun c => { c with viewSvc := v % 4 }
    else s.writeWord cfg d off v

/-! ### REG_OP (R64) -/

/-- A window that REG_OP may not write: CUE, FRM, CFG and FLT. -/
def regOpBarred (d off : Nat) : Bool :=
  off / 0x10000 == 0 || off / 0x10000 == 7 || (d == 0 && (off / 0x10000 == 11 || off / 0x1000 == 0xF7))

/-- The word that a write would replace: staged values of banked fields, present values of the others, zero for W1C and WO fields. -/
def State.baseWord (s : State) (d off : Nat) : Nat :=
  match findReg d off with
  | none => 0
  | some (r, _) =>
    r.fields.foldl (fun a f =>
      let fld : Fld := ⟨off, f.hi, f.lo⟩
      match f.acc with
      | .w1c | .wo => a
      | _ => a + (if s.isBanked d off f then s.rdStaged d fld else s.rd d fld) * 2 ^ f.lo) 0

/-- The write of a REG_OP, on the die's own path for pairs. -/
def State.regOpWrite (s : State) (d off v : Nat) : State :=
  let cfg := fun (_ : Nat) (s : State) => s
  match halfAt d off with
  | .hi => s.modOpHold fun l => l.set d (some v)
  | .lo =>
    let h := s.opHold.getD d none
    (s.modOpHold fun l => l.set d none).commitPair cfg d off v h
  | .single => s.writeWord cfg d off v

/-- A write-table slot is executed. -/
def State.regOp (s : State) (d slot : Nat) : State :=
  let op := s.rd d (F.CUE_WTAB_ADDR_op slot)
  let off := 4 * s.rd d (F.CUE_WTAB_ADDR_word_off slot)
  let data := s.rd d (F.CUE_WTAB_DATA_data slot)
  if op = 3 then s
  else if regOpBarred d off then s.reject d .cue F.CUE_STATUS_write_reject
  else
    let base := s.baseWord d off
    s.regOpWrite d off (match op with
      | 0 => data
      | 1 => base ||| data
      | _ => base - (base &&& data))

/-- REG_OP (R64). -/
def execRegOp (die : Nat) (s : State) : Out := .next (s.onAction die (fun i => i.action == 4) fun i s => s.regOp die (i.arg % 256))

/-- HEATER_ON (R63, R284). -/
def execHeaterOn (s : State) : Out :=
  .next (s.onAction 0 (fun i => i.action == 9 && i.arg.testBit 4) fun i s => s.heaterCue (i.arg % 16) true)

/-- HEATER_OFF (R63, R284). -/
def execHeaterOff (s : State) : Out :=
  .next (s.onAction 0 (fun i => i.action == 9 && !i.arg.testBit 4) fun i s => s.heaterCue (i.arg % 16) false)

/-! ### Image records (R21, R386) -/

/-- What an image record writes to one field: a banked field in all three banks, and neither class nor count binds it. -/
def State.imageField (s : State) (d off : Nat) (f : Field) (w : Nat) : State :=
  let fld : Fld := ⟨off, f.hi, f.lo⟩
  let v := f.of w
  if f.acc ≠ .rw then s
  else if d = 0 ∧ f.lo = 14 ∧ ((arrayIx off 0x20100 0x40 32).any fun c => s.reqSelBad c v) then s.xReject 0 (unitOf off 0x20100 0x40)
  else if f.cls = .banked ∨ (arrayIx off 0x3010C 0x80 (slotCount d)).isSome then
    let s := (s.wr d fld v).wrStaged d fld v
    s.modArmed fun m =>
      storeSet m (regKey d off) (setBits (storeGet m (regKey d off) (keyReset (regKey d off))) f.hi f.lo v) (keyReset (regKey d off))
  else s.wr d fld v

/-- An image record (R386): a register whose writes act does so; any other takes its fields. -/
def State.imageWord (s : State) (d off v : Nat) : State :=
  if d = 0 ∧ off = P.BAY_RTC_SEC then s.rtcCommit v (s.rtcSec / 0x100000)
  else
    match (if d = 0 ∧ (off = F.LOV_STAGE_DATA_data.off ∨ off = F.PLK_TX_DATA_data.off ∨ off = F.EVR_CURSOR_rec.off ∨ off = F.LOV_RD_ADDR_cw.off) then none
           else s.slotCommand (fun _ s => s) d off v) with
    | some t => t
    | none =>
      match findReg d off with
      | some (r, _) => s.each r.fields fun f s => s.imageField d off f v
      | none => s

end Sys2Proof.Machine
end

