-- ==== Sys2Proof/Machine/RegRead.lean ====
section
/-! DEFINITION. Reading a register: what a register shows on a path (R15, R18, R110), the latch of the LO/HI pairs (R16), the reads that have an
effect (R453), and which windows a requester reaches (R25, R392, R442, R447, R456). -/

namespace Sys2Proof.Machine

/-! ### What a register shows -/

/-- CUE_BANK_VIEW of a path (R110). -/
def State.bankView (s : State) (p : Path) (d : Nat) : Nat :=
  match p with
  | .host => s.rd d F.CUE_BANK_VIEW_bank_view
  | .service => (s.cue d).viewSvc

/-- A word as its registers hold it, the banked fields from the bank in view. -/
def State.viewWord (s : State) (p : Path) (d off : Nat) : Word :=
  (s.bankedFields off d).foldl (fun w (f : Nat × Nat) =>
    let fld : Fld := ⟨off, f.1, f.2⟩
    match s.bankView p d with
    | 1 => setBits w f.1 f.2 (s.rdStaged d fld)
    | 2 => setBits w f.1 f.2 (s.rdArmed d fld)
    | _ => w) (s.rdWord d off)

/-- RIN_RSET_STATE of the selected set (R131). -/
def State.rsetState (s : State) : Nat :=
  let r := s.rd 0 F.RIN_RSET_SEL_rset
  let valid := s.stns.foldl (fun a n => if (s.rdesc n r).mode = 3 then a else a + 2 ^ (n - 1)) 0
  b2n (s.rsets.sealedSets.contains r) * 0x80000 + satN 9 (s.useCount r) * 0x80 + valid

/-- Ticks of the sub-second counter: 32,768 in a second (R406). -/
def State.rtcSub (s : State) : Nat := s.bay.rtcNs % 1000000000 * 32768 / 1000000000

/-- A field of a word that the block computes when it is read. -/
def State.shownField (s : State) (d off : Nat) : Option (Nat × Nat × Nat) :=
  if d = 0 ∧ off = F.HIF_ID_dies.off then some (11, 8, s.nStn + 1)
  else if off = F.FLT_SHADOW_shadow.off then some (19, 0, s.shadowBits d)
  else if d = 0 ∧ off = F.RIN_RSET_STATE_sealed.off then some (19, 0, s.rsetState)
  else if d = 0 ∧ off = F.RGC_STATUS_running.off then some (0, 0, b2n (s.stns.any fun n => s.rgcOwned n))
  else if d = 0 ∧ off = P.BAY_RTC_SEC then some (19, 0, s.rtcSec % 0x100000)
  else if d = 0 ∧ off = P.BAY_RTC_SEC + 4 then some (11, 0, s.rtcSec / 0x100000)
  else if d = 0 ∧ off = F.BAY_RTC_SUB_sub.off then some (14, 0, s.rtcSub)
  else match (if d = 0 then arrayIx off (F.RGC_STATE_owned 1).off 0x20 7 else none), arrayIx off 0x20114 0x40 (if d = 0 then 32 else 8),
      (if d = 0 then arrayIx off (F.CFG_FAIL_code 0).off 4 3 else none) with
    | some n, _, _ => some (7, 7, b2n (s.rgcOwned (n + 1)))
    | _, some c, _ =>
      let req := b2n (s.xRequest d c)
      if patchCh d c then some ((F.XFR_CH_STATUS_req c).hi, 0, 128 * req + 4 * bitsN (s.rdWord d off).toNat 6 2 + s.xState d c)
      else some ((F.XFR_CH_STATUS_req c).hi, (F.XFR_CH_STATUS_req c).lo, req)
    | _, _, some i => some (19, 0, s.rd 0 (F.BAY_RET_word (60 + i)))
    | _, _, _ => none

/-- The word that a read without an effect returns. -/
def State.plainRead (s : State) (p : Path) (d off : Nat) : Nat :=
  match findReg d off with
  | none => 0
  | some _ =>
    if off = F.CUE_BANK_VIEW_bank_view.off then s.bankView p d
    else
      let w := s.viewWord p d off
      match s.shownField d off with
      | some (hi, lo, v) => (setBits w hi lo v).toNat
      | none => w.toNat

/-- The MSI-X table and PBA (R418, R448): 32-bit words, four to a vector, the last with the mask bit. -/
def State.msixRead (s : State) (off : Nat) : Option Nat :=
  if 0xE8000 ≤ off ∧ off < 0xE8400 then
    let k := (off - 0xE8000) / 4
    some (if k % 4 = 3 then b2n (s.hif.masked.contains (k / 4)) else storeGet s.hif.table k 0)
  else if off = 0xE9000 ∨ off = 0xE9004 then
    let w := (off - 0xE9000) / 4
    some ((List.range 32).foldl (fun a i => if s.hif.pba.contains (32 * w + i) then a + 2 ^ i else a) 0)
  else none

/-- A write to the MSI-X table: an address or data word, or the mask bit of a vector (R418). -/
def State.msixWrite (s : State) (off v : Nat) : Option State :=
  if 0xE8000 ≤ off ∧ off < 0xE8400 then
    let k := (off - 0xE8000) / 4
    some (if k % 4 ≠ 3 then s.modHif fun h => { h with table := storeSet h.table k (v % 0x100000000) 0 }
      else if v % 2 = 0 then s.unmask (k / 4)
      else if s.hif.masked.contains (k / 4) then s
      else s.modHif fun h => { h with masked := h.masked ++ [k / 4] })
  else if 0xE9000 ≤ off ∧ off < 0xE9008 then some s
  else none

/-- The width, speed and power state of the host link have no event of the table: they are free at each read (R432). -/
def State.linkRead (s : State) : Nat × State :=
  let w := s.rdWord 0 F.HIF_STATUS_l1.off
  let f := s.takeFree.1
  ((setBits w 5 0 f).toNat, s.takeFree.2)

/-- A read on a path (R16, R451, R453). -/
def State.pathRead (s : State) (p : Path) (d off : Nat) : Nat × State :=
  if d = 0 ∧ off = F.EVR_WIN_data.off then s.evrWinRead
  else if d = 0 ∧ off = F.LOV_RD_DATA_data.off then s.lovRead
  else if d = 0 ∧ off = F.LOV_STAGE_DATA_data.off then s.stageRead
  else if d = 0 ∧ off = F.PLK_RX_DATA_data.off then s.plkRead
  else if d = 0 ∧ off = F.HIF_STATUS_l1.off then s.linkRead
  else
    match halfAt d off with
    | .lo => (s.plainRead p d off, s.modPath p fun r => { r with latch := r.latch.set d (s.plainRead p d (off + 4)) })
    | .hi => ((s.path p).latch.getD d 0, s)
    | .single => (s.plainRead p d off, s)

/-! ### Windows (R25, R392, R398, R442, R456) -/

/-- Hub windows that run with the recovery image: FLT, MEM, CKS, HIF, SVC, EVR, LOV, CFG and BAY (R398). -/
def recoveryWindow (off : Nat) : Bool :=
  [7, 8, 9, 14].contains (off / 0x10000) || (off / 0x10000 == 15 && [3, 5, 6, 7, 8].contains (off % 0x10000 / 0x1000))

/-- The block at an offset is held in reset (R398, R429, R442). -/
def State.blockHeld (s : State) (d off : Nat) : Bool :=
  s.boot.held.contains d ||
  match s.boot.phase with
  | .test => d != 0 || !testWindow off
  | .recovery => d != 0 || !recoveryWindow off
  | _ => false

/-- The block at an offset is power-gated on an unused station: SCN, LPL, LSR and the pixel PLL (R404). -/
def State.blockGated (s : State) (d off : Nat) : Bool :=
  s.boot.phase == .released && s.hasStn d && !s.on 0 (F.CFG_STN_used d)
    && ((0xA0000 ≤ off && decide (off < 0xD0000)) || (0x90100 ≤ off && decide (off < 0xA0000)))

/-- How an access to a window ends. -/
inductive Reach where
  | open
  /-- zero, or discarded, and not counted -/
  | silent
  /-- zero, or discarded, and counted in HIF_ABSENT_CNT -/
  | absent
  /-- the same at a block held in reset -/
  | held
  deriving DecidableEq, Repr

def State.reach (s : State) (d off : Nat) : Reach :=
  if !s.hasDie d then .absent
  else if s.blockHeld d off then .held
  else if s.blockGated d off then .silent
  else .open

/-- An access that a window does not take is counted where it has to be (R25, R442). -/
def State.missed (s : State) : Reach → State
  | .absent => (s.wr 0 F.HIF_STATUS_absent_s 1).bump 0 F.HIF_ABSENT_CNT_absent
  | .held => s.bump 0 F.HIF_ABSENT_CNT_absent
  | _ => s

/-! ### The service port (R428) -/

/-- A response of the service port. -/
def State.respond (s : State) (status data : Nat) : State :=
  let s := s.modSvc fun v => { v with responding := true, respAt := s.now, response := [status, data % 256, data / 256 % 256, data / 65536 % 256] }
  let s := s.bumpWrap 0 F.SVC_REQ_CNT_req
  if status = 1 ∨ status = 3 then (s.bump 0 F.SVC_ERR_CNT_err).wr 0 F.SVC_STATUS_err_s 1 else s

/-- A read of a path in a window that it reaches, or not. -/
def State.reachRead (s : State) (p : Path) (d off : Nat) : Nat × State :=
  if s.reach d off = .open then s.pathRead p d off else (0, s.missed (s.reach d off))

/-- A read of the service port. -/
def State.svcRead (s : State) (d off : Nat) : Nat × State := s.reachRead .service d off

/-- A request that has no completion within 10 µs: the manual does not say whether the access was made. -/
def State.svcLate (s : State) (f : State → State) : State :=
  let (x, s) := s.takeFree
  (if x % 2 = 0 then s else f s).respond 3 0

/-- SERVICE_READ (R428): `ok` is a sound format and CRC, `late` a completion that does not come within 10 µs. -/
def execServiceRead (die wordOff : Nat) (ok late : Bool) (s : State) : Out :=
  if !s.svcServed || s.svc.responding then .next s
  else if !ok then .next (s.respond 1 0)
  else if late then .next (s.svcLate fun s => (s.svcRead die (4 * (wordOff % 0x40000))).2)
  else
    let (v, s') := s.svcRead die (4 * (wordOff % 0x40000))
    .next ((s'.answer .service [v]).respond (if s.hasDie die then 0 else 2) v)

end Sys2Proof.Machine
end

