-- ==== Sys2Proof/Machine/Boot.lean ====
section
/-! DEFINITION. The start (R392 to R398): reset, the choice of the source, verify, links, calibration, topology, load and release; the structural
rules (R394); and the failure codes (R399). -/

namespace Sys2Proof.Machine

/-- Why a start fails, beside its source: the code, the die and the section index or rule number (R399). -/
structure Fail where
  code : Nat
  die : Nat := 0
  det : Nat := 0
  deriving DecidableEq, Repr

/-- A failure code as it is recorded (R399). -/
def Fail.word (f : Fail) (src : Nat) : Nat := f.code * 0x1000 + f.die % 8 * 0x200 + f.det % 32 * 0x10 + src

/-- A step of the load: the state it leaves, and why it failed if it did. -/
abbrev Load := State × Option Fail

/-- The next step runs if none before it failed. -/
def Load.andThen (r : Load) (f : State → Load) : Load :=
  match r with
  | (s, none) => f s
  | _ => r

/-- A step for each element of a list. -/
def loadEach {α : Type} (l : List α) (f : α → State → Load) (s : State) : Load := l.foldl (fun r a => Load.andThen r (f a)) (s, none)

/-- Fails with what has been found. -/
def failOpt (f : Option Fail) (s : State) : Load := (s, f)

/-- Fails where a test holds. -/
def failIf (b : Bool) (f : Fail) (s : State) : Load := (s, if b then some f else none)

/-! ### Register records (R386, R387, R389) -/

/-- The sections in which a record may name a register (R387). -/
def recordPermitted (x : Sect) (d off : Nat) : Bool :=
  let slot := off / 0x10000
  let isScn := d != 0 && off == F.SCN_CFG_kind.off
  match x.typ with
  | 2 =>
    d == 0 &&
    (slot == 14 || slot == 10 || (slot == 15 && decide (off % 0x10000 / 0x1000 ≤ 3))
      || (arrayIx off (F.RGC_SENS_CFG_en 0).off 4 8).isSome || (arrayIx off 0xC0040 4 16).isSome
      || [0, 1, 2, 3].any (fun k => off == (F.MDR_CH_CFG_role k).off) || (arrayIx off (F.HVC_CH_CFG_pol 0).off 4 8).isSome
      || (arrayIx off (F.FSR_HTR_CFG_mode 0).off 4 4).isSome || off == F.AXS_CTRL_bus_en.off || (arrayIx off 0xD0100 0x40 8).isSome)
  | 3 => d == x.die && d != 0 && [4, 5, 6, 9, 10, 11, 12].contains slot
  | 4 => d == x.die && slot == 3
  | 5 => d == x.die && ((arrayIx off 0x110 4 12).isSome || (arrayIx off 0x150 4 12).isSome)
  | 6 | 7 => !(d == 0 && off / 0x1000 == 0xF7) && !isScn
  | _ => false

/-- The bits that the fields of a register cover. -/
def Reg.mask (r : Reg) : Nat := r.fields.foldl (fun a f => a ||| ((2 ^ (f.hi + 1 - f.lo) - 1) * 2 ^ f.lo)) 0

/-- A record is refused for its target or for its reserved bits (R386, R388, R65, R78). -/
def State.recordRefused (s : State) (x : Sect) (d off v : Nat) : Bool :=
  match findReg d off with
  | none => true
  | some (r, _) =>
    !s.hasDie d || !recordPermitted x d off || !r.fields.any (fun f => f.acc == .rw) || (v - (v &&& r.mask)) != 0
      || (d != 0 && off == F.SCN_CFG_kind.off && bitsN v F.SCN_CFG_kind.hi F.SCN_CFG_kind.lo != s.rd d F.SCN_CFG_kind)
      || (d != 0 && (arrayIx off 0x110 4 12).isSome && v / 16 % 4 == 3)
      || ((arrayIx off 0x140 4 16).isSome && decide (v % 4096 < 1024))

/-- A write of an image that its block refuses: a thermal window or limit out of order (R334, R342), or encoder source 3 (R58). -/
def State.imageBars (s : State) (d off v : Nat) : Bool :=
  s.thmBars d off v || (d == 0 && off == F.WTB_CTRL_enc_source.off && v % 4 == 3)

/-- A limit that LPE refuses (R265). -/
def State.limRefused (s : State) (d off v : Nat) : Bool :=
  let x := fun i => clampI (s.slotHard d i).1 (s.slotHard d i).2 (sgn 20 v)
  match arrayIx off 0x30120 0x80 (slotCount d), arrayIx off 0x30124 0x80 (slotCount d) with
  | some i, _ => decide (x i < s.rdS d (F.LPE_SLOT_LIM_LO_lim_lo i))
  | _, some i => decide (s.rdS d (F.LPE_SLOT_LIM_HI_lim_hi i) < x i)
  | _, _ => false

/-- A word of an image, unless its block refuses it. -/
def State.imagePut (s : State) (d off v : Nat) : State := if s.imageBars d off v then s.rejectWrite d off else s.imageWord d off v

/-- A register record of section `i`. -/
def loadRecord (x : Sect) (i w : Nat) (s : State) : Load :=
  let d := w % 8
  let off := 4 * (w / 8 % 0x40000)
  let v := w / 0x200000 % 0x100000
  if 2 ^ 41 ≤ w ∨ s.recordRefused x d off v then (s, some ⟨0x0B, d, i⟩)
  else if x.typ = 4 ∧ s.limRefused d off v then (s, some ⟨0x0E, d, i⟩)
  else (s.imagePut d off v, none)

/-- The register records of a section from a byte on. -/
def loadRecords (b : List Nat) (x : Sect) (i skip : Nat) (s : State) : Load :=
  loadEach (List.range ((x.len - skip) / 8)) (fun k s => loadRecord x i (leAt b (x.off + skip + 8 * k) 8) s) s

/-- A calibration reference (R389): the live payload of the key goes to consecutive registers; a payload of another length is absent. -/
def loadCal (b : List Nat) (x : Sect) (i k : Nat) (s : State) : Load :=
  let w := leAt b (x.off + 8 * k) 8
  let key := w % two40
  let d := key / 2 ^ 37
  let off := 4 * (key / 2 ^ 19 % 0x40000)
  let n := w / two40 % 256 + 1
  let payload := if key % 2 ^ 19 = 0 then s.liveKey 3 key else none
  if 2 ^ 49 ≤ w then (s, some ⟨0x0B, d, i⟩)
  else match payload.filter fun p => p.length == cdivN n 4 with
    | none => (s, if w.testBit 48 then some ⟨0x0D, d, i⟩ else none)
    | some p =>
      loadEach (List.range n) (fun j s =>
        let v := p.flatten.getD j 0
        if s.recordRefused x d (off + 4 * j) v then (s, some ⟨0x0B, d, i⟩) else (s.imagePut d (off + 4 * j) v, none)) s

/-! ### Topology (R388) and the structural rules (R394) -/

/-- The entry of station `n` in the topology section: used, colour and kind; an image without the section uses none. -/
def topoUsed (t : List Nat) (n : Nat) : Bool := t.getD (4 * n) 0 == 1
def topoKind (t : List Nat) (n : Nat) : Nat := if topoUsed t n then t.getD (4 * n + 2) 0 % 4 else 2

/-- The topology section is applied: the reserved bytes, rule 8, and what CFG writes for every present station. -/
def loadTopology (b : List Nat) (x : Sect) (i : Nat) (s : State) : Load :=
  let t := (b.drop x.off).take 36
  let zeros := [1, 2, 3, 32, 33, 34, 35] ++ (List.range' 1 7).map fun n => 4 * n + 3
  (failIf (zeros.any fun j => t.getD j 0 != 0) ⟨0x02, 0, i⟩ s).andThen fun s =>
  (failIf (decide (s.nStn + 1 < imageDies b)) ⟨0x0C, 0, 8⟩ s).andThen fun s =>
  match (List.range' 1 7).find? fun n => topoUsed t n && !s.hasStn n with
  | some n => (s, some ⟨0x0C, n, 8⟩)
  | none =>
    (s.each s.stns fun n s =>
      let s := ((s.wr n F.SCN_CFG_kind (topoKind t n)).wr 0 (F.CFG_STN_kind n) (topoKind t n)).wrB 0 (F.CFG_STN_used n) (topoUsed t n)
      s.wr 0 (F.CFG_STN_colour n) (t.getD (4 * n + 1) 0), none)

/-- A used station with a scanner. -/
def State.scanStn (s : State) (n : Nat) : Bool := s.on 0 (F.CFG_STN_used n) && (s.isPolygon n || s.isResonant n)

/-- Rule 1: the beam pitch exceeds the stored pitch of an addressability in use (R174). -/
def State.rule1 (s : State) (n : Nat) : Bool := [0, 1, 2].any fun a => s.scanLines n a != 0 && decide (pitchOf a < s.rd40 n P.LPL_BEAM_PITCH)

/-- The base pixel rate at the web-speed limit of an addressability, in 1/1000 Hz (R8, R197, R200): 120 m/min at 1,200 lpi, else 180. -/
def State.limitRate (s : State) (n a : Nat) : Nat :=
  let v := if a = 2 then 2 else 3
  let t := max 1 (s.advance n a * 250 / (1024 * v))
  if s.isResonant n then s.pxRate n 0 t else s.activePx n * 16000000000000000 / max 1 (s.duty n * t)

/-- Rule 2: the capacity of the laser link (R228). -/
def State.rule2 (s : State) (n : Nat) : Bool :=
  [0, 1, 2].any fun a => s.scanLines n a != 0 && !decide (s.limitRate n a * (3 + (s.nBeams n + 1) / 2) * 100 ≤ 76 * s.laneRate n * 1000000000)

/-- Rule 4: fclass C on a slot with an HV output or a gate (R273). -/
def State.rule4 (s : State) (d : Nat) : Bool :=
  (List.range (slotCount d)).any fun i =>
    s.rd d (F.LPE_SLOT_CFG_fclass i) == 0 &&
      ((hvChannel d (s.rd d (F.LPE_SLOT_SRC_out_dst i))).isSome || s.rd d (F.LPE_SLOT_CFG_gate i) == 1 || s.rd d (F.LPE_SLOT_CFG_gate i) == 2)

/-- Rule 5: fw_max exceeds i_lim (R298). -/
def State.rule5 (s : State) (d : Nat) : Bool := (chanList d).any fun k => decide (s.rd d (F.MDR_CH_ILIM_i_lim k) < s.rd d (F.MDR_CH_FW_MAX_fw_max k))

/-- Rule 6: a station with a scanner lacks a laser-diode or a drum thermistor (R333). -/
def State.rule6 (s : State) (n : Nat) : Bool :=
  s.rd n F.SCN_CFG_kind != 2 && [1, 2].any fun r => (List.range 4).all fun j => s.rd n (F.THM_EXT_CFG_role j) != r

/-- Rule 7: more than one web channel, or a reference mode that the role does not allow (R291). -/
def State.rule7 (s : State) (d : Nat) : Bool :=
  (d == 0 && decide (1 < ([0, 1, 2, 3].filter fun k => s.role 0 k == 0).length))
    || (chanList d).any fun k => !roleMode (s.role d k) (s.rd d (F.MDR_CH_CFG_ref_mode k))

/-- The first station or die that breaks a rule. -/
def ruleFail (l : List Nat) (p : Nat → Bool) (rule : Nat) (s : State) : Load := (s, (l.find? p).map fun d => ⟨0x0C, d, rule⟩)

/-- The rules of boot step 4. -/
def loadRules (s : State) : Load :=
  (ruleFail (s.stns.filter s.scanStn) s.rule1 1 s).andThen fun s =>
  (ruleFail (s.stns.filter s.scanStn) s.rule2 2 s).andThen fun s =>
  (ruleFail s.dies s.rule5 5 s).andThen fun s =>
  (ruleFail s.stns s.rule6 6 s).andThen fun s => ruleFail s.dies s.rule7 7 s

/-! ### Cue entries and loop programs (R387, R394) -/

/-- A cue-entry record of section `i`. -/
def loadCue (b : List Nat) (x : Sect) (i k : Nat) (s : State) : Load :=
  let o := x.off + 16 * k
  let e := leAt b o 2
  let w := leAt b (o + 4) 10
  let c : CueEntry := ⟨w % 0x100000, w / 2 ^ 20 % 0x100000, w / 2 ^ 40 % 0x100000, w / 2 ^ 60 % 0x100000⟩
  if leAt b (o + 2) 2 ≠ 0 ∨ leAt b (o + 14) 2 ≠ 0 ∨ !s.hasDie x.die ∨ 4096 ≤ e ∨ s.editCheck x.die e c ≠ 0 then (s, some ⟨0x0F, x.die, i⟩)
  else (s.storeEntry x.die e c, none)

/-- The slots of a die write their safe outputs in OFF (R270). -/
def State.slotsSafe (s : State) (d : Nat) : State := s.each (List.range (slotCount d)) fun i s => s.slotDrive d i (s.slotSafe d i)

/-- The section of step 5: rule 3 of the declared rate, the records, and the cue entries. -/
def loadProgram (b : List Nat) (x : Sect) (i : Nat) (s : State) : Load :=
  match x.typ with
  | 4 =>
    (failIf (!s.hasDie x.die) ⟨0x0B, x.die, i⟩ s).andThen fun s =>
    (failIf (decide ((if x.die = 0 then 1080000 else 540000) < leAt b x.off 4)) ⟨0x0C, x.die, 3⟩ s).andThen fun s =>
    (loadRecords b x i 4 s).andThen fun s => failIf (s.rule4 x.die) ⟨0x0C, x.die, 4⟩ (s.slotsSafe x.die)
  | 5 => (loadEach (List.range x.count) (loadCue b x i) s).andThen (loadRecords b x i (16 * x.count))
  | _ => (s, none)

/-- The sections of step 4. -/
def loadSection (b : List Nat) (x : Sect) (i : Nat) (s : State) : Load :=
  match x.typ with
  | 1 => loadTopology b x i s
  | 2 | 3 | 6 => loadRecords b x i 0 s
  | 7 => loadEach (List.range x.count) (loadCal b x i) s
  | _ => (s, none)

/-- What the blocks show of what has been loaded, and the tables that are taken into use. -/
def State.loadShow (s : State) : State := s.each s.stns fun n s => (((s.cksCopy n).lplCopy n).scnShow n).lplShow n

/-- The link of a station is required by an image: the station is among the dies that it requires, or its topology uses it (R384, R388, R393). -/
def imageNeeds (b : List Nat) (n : Nat) : Bool :=
  decide (n < imageDies b) || (imageSects b).any fun x => x.typ == 1 && topoUsed ((b.drop x.off).take 36) n

/-- Boot steps 2 to 5 for a verified image: every link that it requires is trained and calibrated, the image is applied and checked (R393). The
timebase runs from step 3, and the cross-check that the image sets starts with a span of its own (R47, R58). -/
def loadImage (b : List Nat) (trained : List Nat) (cals : List LinkCal) (memUe : Option Nat) (s : State) : Load :=
  let xs := (imageSects b).zipIdx
  let cal := fun n => cals.find? fun c => c.stn == n
  let need := s.stns.filter (imageNeeds b)
  let s := s.each (s.stns.filter fun n => trained.contains n) fun n s => s.fabricUp n
  (failOpt ((need.find? fun n => !trained.contains n).map fun n => ⟨0x08, n, 0⟩) s).andThen fun s =>
  (failOpt ((need.find? fun n => match cal n with
    | some c => c.trips.isEmpty || decide (4 < calSpread c)
    | none => true).map fun n => ⟨0x09, n, 0⟩) ((s.modWtb fun w => { w with runs := true }).newSpan.calibrateAll cals)).andThen fun s =>
  (failOpt ((need.find? fun n => match cal n with
    | some c => !calPassed c
    | none => false).map fun n => ⟨0x0A, n, 0⟩) s).andThen fun s =>
  (loadEach xs (fun x s => loadSection b x.1 x.2 s) (s.modBoot fun b => { b with thmOn := true })).andThen fun s =>
  (loadRules s.loadShow).andThen fun s =>
  (failOpt (memUe.map fun d => ⟨0x10, d, 0⟩) s).andThen fun s =>
  (loadEach xs (fun x s => loadProgram b x.1 x.2 s) s).andThen fun s =>
  (ruleFail s.dies s.rule4 4 (s.each s.dies fun d s => (s.slotsSafe d).hvShow d)).andThen fun s => (s.newSpan, none)

/-! ### Failing and releasing (R393 to R399) -/

/-- A failure code goes into retention word 60, those before it move down (R396). -/
def State.recordFail (s : State) (w : Nat) : State :=
  ((s.wr 0 (F.BAY_RET_word 62) (s.rd 0 (F.BAY_RET_word 61))).wr 0 (F.BAY_RET_word 61) (s.rd 0 (F.BAY_RET_word 60))).wr 0 (F.BAY_RET_word 60) w

/-- The start ends without an image. -/
def State.startFailed (s : State) : State :=
  (s.modBoot fun b => { b with phase := .failed }).modBay fun b => { b with inStart := none }

/-- CFG tries a source. -/
def State.trySource (s : State) (src : Nat) : State := s.modBay fun b => { b with inStart := some src }

/-- BOOT_CAUSE as the boot record of EVR carries it (R370). -/
def State.bootCause (s : State) : Nat := (s.rdWord 0 F.BOOT_CAUSE_src.off).toNat

/-- The release of the host: the safe-off outputs and FAULT_N change unless a fault holds them, and the boot record is made (R357, R393, R395,
R427). -/
def State.release (s : State) (src : Nat) (b : List Nat) : State :=
  let s := (s.wr 0 F.BOOT_CAUSE_src src).wr40 0 P.CFG_IMG_SERIAL (imageSerial b)
  let s := (s.wr 0 (F.BAY_RET_word 63) 0).modBay fun b => { b with inStart := none }
  let anyF := s.dies.any fun d => s.on d F.FLT_STATUS_F_f
  let anyU := s.dies.any fun d => s.on d F.FLT_STATUS_U_u
  let s := (s.wr 0 F.FLT_PKG_pin_mode 1).wrB 0 F.FLT_PIN_HOLD_hold (anyF || anyU)
  let s := if anyF then s.wr 0 F.FLT_PKG_state 2 else (s.wr 0 F.HIF_ILK_STATUS_so_lsr 0).wr 0 F.HIF_ILK_STATUS_so_hv 0
  let s := if s.flt.hub19.any fun x => x == 8 || x == 10 then s else s.wr 0 F.HIF_ILK_STATUS_so_mot 0
  let s := (s.modBoot fun b => { b with phase := .released, held := [] }).wr 0 F.HIF_STATUS_boot_window 0
  s.evrNow 4 true 0x02000 s.bootCause

/-- Boot steps 2 to 6 from a source whose image has verified. A source that fails here fails the start (R397). -/
def State.bootFrom (s : State) (src : Nat) (b trained : List Nat) (cals : List LinkCal) (memUe : Option Nat) : State :=
  match loadImage b trained cals memUe (s.modBoot fun x => { x with held := [] }) with
  | (s, some f) => (s.recordFail (f.word src)).startFailed
  | (s, none) => (s.each (s.stns.filter fun n => s.on 0 (F.CFG_STN_used n)) fun n s => s.startTraining n).release src b

/-- The recovery image (R398): verify, then release with most blocks in reset; no count is cleared. -/
def State.bootRecovery (s : State) (reason : Nat) : State :=
  let s := (s.trySource 4).wr 0 F.BOOT_CAUSE_rec_reason reason
  let img := s.lovImage 2
  match s.verifyImage img (sourceMax 4) true with
  | some c => (s.recordFail ((⟨c, 0, 0⟩ : Fail).word 4)).startFailed
  | none =>
    let s := ((s.wr 0 F.BOOT_CAUSE_src 4).wr40 0 P.CFG_IMG_SERIAL (imageSerial (img.getD []))).wr 0 F.CFG_STATUS_recovery 1
    let s := (s.modBoot fun b => { b with phase := .recovery, held := s.stns }).modBay fun b => { b with inStart := none }
    s.evrNow 4 true 0x02000 s.bootCause

/-! ### The sources (R392, R397) -/

/-- The order of the sources: after a failed start from a slot the other slot, if it holds an image, comes before the selected one. -/
def State.sourceOrder (s : State) (sel count : Nat) : List Nat :=
  let a := s.selSlot
  let last := s.rd 0 (F.BAY_RET_word 60)
  let swap := count != 0 && decide (last % 16 ≤ 1) && !([0, 0x11, 0x14].contains (last / 0x1000)) && s.holdsImage (1 - a)
  let slots := if swap then [1 - a, a] else [a, 1 - a]
  if sel = 1 then 2 :: slots else slots ++ [2]

/-- The image of a source. -/
def State.sourceImage (s : State) (flash : List Nat) (src : Nat) : Option (List Nat) := if src = 2 then bytesImage flash else s.lovImage src

/-- The sources in order: one that does not verify is recorded and the next is tried (R397). -/
def State.bootSources (o : StartObs) : List Nat → State → State
  | [], s => s.startFailed
  | src :: t, s =>
    let s := s.trySource src
    let img := s.sourceImage o.flash src
    match s.verifyImage img (sourceMax src) false with
    | some c => State.bootSources o t (s.recordFail ((⟨c, 0, 0⟩ : Fail).word src))
    | none => s.bootFrom src (img.getD []) o.trained o.cals o.memUe

/-- Step 1 of R393: the count is incremented, an interrupted start before it is recorded, and BOOT_CAUSE is set. -/
def State.startBegin (s : State) (o : StartObs) : State :=
  let c := s.rd 0 (F.BAY_RET_word 63) % 16
  let s := match s.bay.inStart with
    | some src => s.recordFail ((⟨0x13, 0, 0⟩ : Fail).word src)
    | none => s
  let s := s.wr 0 (F.BAY_RET_word 63) (min 15 (c + 1))
  let s := ((s.wr 0 F.BOOT_CAUSE_fail_cnt (min 15 (c + 1))).wr 0 F.BOOT_CAUSE_boot_sel o.sel).wr 0 F.BOOT_CAUSE_rst_kind
    (if o.powerOn then 0 else if s.bay.woke then 2 else 1)
  let s := if s.on 0 F.BAY_STATUS_bay_por_s then s.reportC 0 .bay else s
  let s := s.modBoot fun b => { b with startAt := s.now }
  s.modBay fun b => { b with down := false, woke := false, pwrEn := true }

/-- What a start does once the journals have been scanned: recovery, the window for the host, or the sources. -/
def State.startGo (s : State) (o : StartObs) : State :=
  let count := s.rd 0 F.BOOT_CAUSE_fail_cnt
  let lost := s.curHalf 5 == none
  let s := if lost then (s.takeFree.2).recordFail ((⟨0x14, 0, 0⟩ : Fail).word (s.takeFree.1 % 16)) else s
  if 3 < count then s.bootRecovery 1
  else if o.sel = 3 then s.bootRecovery 2
  else if lost then s.bootRecovery 3
  else if o.sel = 2 then ((s.trySource 3).modBoot fun b => { b with phase := .window, held := s.stns }).wr 0 F.HIF_STATUS_boot_window 1
  else s.bootSources o (s.sourceOrder o.sel (count - 1))

/-- A start (R393). -/
def State.start (s : State) (o : StartObs) : State :=
  let o := { o with sel := o.sel % 4 }
  let s := s.startBegin o
  let first := match o.sel with
    | 1 => 2
    | 2 => 3
    | 3 => 4
    | _ => s.selSlot
  let s := (s.modBoot fun b => { b with held := s.stns }).trySource first
  if o.cutShort then s.dieReset
  else if !o.pllOk then
    let (f, s) := s.takeFree
    (s.recordFail ((⟨0x11, 0, 0⟩ : Fail).word (f % 16))).startFailed
  else ((s.fabricUp 0).lovBoot.newNonce.cfgShow).startGo o

/-- RESET_N_RELEASE (R393). -/
def execResetNRelease (o : StartObs) (s : State) : Out := .next (if s.boot.phase = .reset then s.start o else s)

/-- HOST_IMAGE_DELIVERED (R392): the start marker stands at SRAM byte 0x1F_FFF0, and CFG reads the image from byte 0. -/
def execHostImageDelivered (trained : List Nat) (cals : List LinkCal) (memUe : Option Nat) (s : State) : Out :=
  if s.boot.phase ≠ .window then .next s
  else
    match s.sramBytes 0x1FFFF0 4 with
    | (some [0x52, 0x55, 0x4E, 0x21], s) =>
      let (img, s) := s.sramImage 0
      .next (match s.verifyImage img (sourceMax 3) false with
        | some c => (s.recordFail ((⟨c, 0, 0⟩ : Fail).word 3)).startFailed
        | none => s.bootFrom 3 (img.getD []) trained cals memUe)
    | _ => .next s

/-- HOST_IMAGE_TIMEOUT (R392). -/
def execHostImageTimeout (s : State) : Out :=
  .next (if s.boot.phase = .window then (s.recordFail ((⟨0x12, 0, 0⟩ : Fail).word 3)).startFailed else s)

/-! ### RESET_N falls (R455, R471) -/

/-- The code-word write in progress completes before LOV is reset. -/
def State.finishWrite (s : State) : State :=
  match s.lov.work with
  | w :: _ => match w.next with
    | some (k, ws) => s.putCw k ws
    | none => s
  | [] => s

/-- RESET_N_ASSERT (R471): a low shorter than 500 ns is ignored, one of 1 µs resets, and between them either may happen. -/
def execResetNAssert (lowNs : Nat) (midWrite : Bool) (s : State) : Out :=
  let (f, t) := if 500 ≤ lowNs ∧ lowNs < 1000 then s.takeFree else (0, s)
  .next (if lowNs < 500 ∨ (lowNs < 1000 ∧ f % 2 = 0) then t else (if midWrite then t.finishWrite else t).dieReset)

end Sys2Proof.Machine
end

