-- ==== Sys2Proof/Machine/Cfg.lean ====
section
/-! DEFINITION. CFG at run time (R391, R396, R400 to R402): programming and selecting slots, signed commands, the failed-start count; and with it the
writes of the host and of the service port to any register (R428, R450). -/

namespace Sys2Proof.Machine

/-! ### Results (R402) -/

/-- The result of a command; a refused one sets write_reject, and every result raises CFG's interrupt (R419). -/
def State.cfgResult (s : State) (r : Nat) : State :=
  let s := (s.wr 0 F.CFG_RESULT_result r).cfgShow.irq 7
  if r = 0 ∨ r = 7 then s else s.reject 0 .cfg F.CFG_STATUS_write_reject

/-- The result code of an image that does not verify, from its failure code. -/
def verifyResult (code : Nat) : Nat :=
  match code with
  | 0x04 | 0x05 => 3
  | 0x06 => 5
  | 0x07 => 6
  | _ => 4

/-! ### Programming (R400) -/

/-- Byte offset in hub SRAM that CFG_UPD_SRC names. -/
def State.updSrc (s : State) : Nat := 64 * s.rd 0 F.CFG_UPD_SRC_src

/-- An image is written to a partition: its first seven code words are cleared, the rest is written, then they are. The code words of `bad` fail
their verify twice (R375). Once LOV starts no further write none is made (R411). -/
def State.writeImage (s : State) (part : Nat) (img bad : List Nat) : State :=
  if s.lovCut then s else
  let n := cdivN img.length 10
  let w := fun j => (cwKey part j, bytesCw ((img.drop (10 * j)).take 10))
  let s := s.putAll ((List.range 7).map fun j => (cwKey part j, zeroCw))
  let s := (s.putAll ((List.range n).map fun j => w ((j + 7) % max n 1)))
  s.each (bad.filter (· < n)) fun j s => s.wfail (cwKey part j)

/-- The program command for a target: 0 slot A, 1 slot B, 2 the recovery partition. -/
def State.program (s : State) (part : Nat) (bad : List Nat) : State :=
  if (part = 2 ∧ !s.unlocked) ∨ (part ≠ 2 ∧ s.selSlot = part) then s.cfgResult 6
  else
    let (img, s) := s.sramImage s.updSrc
    match s.verifyImage img (sourceMax (if part = 2 then 4 else part)) (part == 2) with
    | some c => s.cfgResult (verifyResult c)
    | none =>
      let s := s.writeImage part (img.getD []) bad
      s.cfgResult (if s.lovImage part = img then 0 else 7)

/-- PROGRAM_A (R400). -/
def execProgramA (bad : List Nat) (s : State) : Out := .next (s.program 0 bad)
/-- PROGRAM_B (R400). -/
def execProgramB (bad : List Nat) (s : State) : Out := .next (s.program 1 bad)
/-- PROGRAM_RECOVERY (R400). -/
def execProgramRecovery (bad : List Nat) (s : State) : Out := .next (s.program 2 bad)

/-- A record of the boot record is appended, and the command's result follows. Which of its writes fails its verify twice is free, if one does; then
the record is not written and the result is that of a readback (log entry 268). -/
def State.bootRecord (s : State) (r : JRec) : State :=
  let f := s.takeFree.1
  let (ok, s) := s.takeFree.2.bootAppend r (if f % 2 = 0 then none else some (f / 2))
  s.cfgResult (if ok then 0 else 7)

/-- The select command, accepted for a slot that verifies (R400). -/
def State.selectSlot (s : State) (k : Nat) : State := if s.slotOk k then s.bootRecord (numRecord 1 k) else s.cfgResult 6

/-- SELECT_A (R400). -/
def execSelectA (s : State) : Out := .next (s.selectSlot 0)
/-- SELECT_B (R400). -/
def execSelectB (s : State) : Out := .next (s.selectSlot 1)

/-- The clear command of the failed-start count (R396). -/
def State.clearCount (s : State) : State := (s.wr 0 (F.BAY_RET_word 63) 0).cfgResult 0

/-- CLEAR_FAILED_START_COUNT (R396). -/
def execClearFailedStartCount (s : State) : Out := .next s.clearCount

/-! ### Signed commands (R391) -/

/-- The block of a signed command. -/
structure Signed where
  op : Nat
  key : Nat
  argLen : Nat
  nonce : Nat
  args : List Nat
  deriving DecidableEq, Repr

/-- The fields of a block of 156 bytes. -/
def parseSigned (b : List Nat) : Signed := ⟨leAt b 4 1, leAt b 5 1, leAt b 6 2, leAt b 8 4, (b.drop 12).take 80⟩

/-- The form of a block: its magic, an operation of R391 and the length of its argument. -/
def signedForm (b : List Nat) : Bool :=
  let c := parseSigned b
  b.length == 156 && b.take 4 == [0x51, 0x47, 0x53, 0x43] && decide (c.key < 4) &&
    (match c.op with
     | 1 => c.argLen == 65 && decide (c.args.getD 0 0 < 4)
     | 2 => c.argLen == 1 && decide (c.args.getD 0 0 < 4)
     | 3 => c.argLen == 4
     | 4 | 5 => c.argLen == 0
     | _ => false)

/-- Another key slot than `k` is usable. -/
def State.otherKey (s : State) (k : Nat) : Bool := [0, 1, 2, 3].any fun j => j != k && (s.usableKey j).isSome

/-- The operation of an accepted command. -/
def State.signedOp (s : State) (c : Signed) : State :=
  let k := c.args.getD 0 0
  match c.op with
  | 1 => s.bootRecord (keyRecord k ((c.args.drop 1).take 64) false)
  | 2 => if s.otherKey k then s.bootRecord (keyRecord k (((s.keySlot k).getD []).take 64) true) else s.cfgResult 6
  | 3 => if leAt c.args 0 4 < s.rollFloor then s.cfgResult 5 else s.bootRecord (numRecord 2 (leAt c.args 0 4))
  | 4 => s.bootRecord (numRecord 3 1)
  | _ => s.bootRecord (numRecord 3 0)

/-- The present nonce. -/
def State.nonce (s : State) : Nat := s.rd 0 F.CFG_NONCE_nonce + 0x100000 * s.rd 0 F.CFG_NONCE_HI_nonce_hi

/-- A block is checked: form, nonce, key and signature, and then carried out. -/
def State.signedCheck (s : State) (b : List Nat) : State :=
  let c := parseSigned b
  if !signedForm b then s.cfgResult 4
  else if c.nonce ≠ s.nonce then s.cfgResult 8
  else match s.usableKey c.key with
    | none => s.cfgResult 3
    | some key => if signatureOk (b.take 92) key (b.drop 92) then s.signedOp c else s.cfgResult 3

/-- The signed command of the block at CFG_UPD_SRC; CFG_NONCE is new after it. A block that cannot be read has the wrong format. -/
def State.signedCommand (s : State) : State :=
  let (b, s) := s.sramBytes s.updSrc 156
  (s.signedCheck (b.getD [])).newNonce

/-- The operation that the block at CFG_UPD_SRC asks for. -/
def State.signedOpAt (s : State) : Nat := leAt (((s.sramBytes s.updSrc 156).1).getD []) 4 1

/-- The signed command runs if its block asks for an operation. -/
def State.signedFor (s : State) (op : Nat) : State := if s.signedOpAt = op then s.signedCommand else s

/-- WRITE_KEY_SLOT (R391). -/
def execWriteKeySlot (s : State) : Out := .next (s.signedFor 1)
/-- REVOKE_KEY_SLOT (R391). -/
def execRevokeKeySlot (s : State) : Out := .next (s.signedFor 2)
/-- RAISE_ROLLBACK_FLOOR (R391). -/
def execRaiseRollbackFloor (s : State) : Out := .next (s.signedFor 3)
/-- UNLOCK_RECOVERY (R391). -/
def execUnlockRecovery (s : State) : Out := .next (s.signedFor 4)
/-- LOCK_RECOVERY (R391). -/
def execLockRecovery (s : State) : Out := .next (s.signedFor 5)

/-! ### Register writes (R402, R428, R450) -/

/-- Code words that fail their verify during a program command given through CFG_UPD_CMD: free. -/
def State.freeBad (s : State) : List Nat × State := (if s.takeFree.1 % 2 = 0 then [] else [s.takeFree.1 / 2], s.takeFree.2)

/-- A write to CFG_UPD_CMD (R402). -/
def State.cfgCommand (op : Nat) (s : State) : State :=
  match op with
  | 1 => s.freeBad.2.program 0 s.freeBad.1
  | 2 => s.freeBad.2.program 1 s.freeBad.1
  | 3 => s.freeBad.2.program 2 s.freeBad.1
  | 4 => s.selectSlot 0
  | 5 => s.selectSlot 1
  | 6 => s.signedCommand
  | 7 => s.clearCount
  | _ => s

/-- A write on a path to a window that it reaches, or not. -/
def State.reachWrite (s : State) (p : Path) (d off v : Nat) : State :=
  if s.reach d off = .open then s.pathWrite State.cfgCommand p d off v else s.missed (s.reach d off)

/-- A DWORD write of the host (R450), the MSI-X table among its targets (R418). -/
def State.hostWrite (s : State) (d off v : Nat) : State :=
  match (if d = 0 ∧ s.reach 0 off = .open then s.msixWrite off v else none) with
  | some t => t
  | none => s.reachWrite .host d off (v % 0x100000)

/-- A DWORD read of the host (R16), with what it returns kept on its path. -/
def State.hostRead (s : State) (d off : Nat) : State :=
  match (if d = 0 ∧ s.reach 0 off = .open then s.msixRead off else none) with
  | some x => s.answer .host [x]
  | none =>
    let (x, t) := s.reachRead .host d off
    t.answer .host [x]

/-- REGISTER_WRITE (R16, R450): a DWORD access of the host at a byte offset of a die window. The table has no row for the host's read of a
register, which latches the HI of a pair: the row's value is absent where the access is a read (DESIGN CHOICE, log entry 137). An offset
that is not aligned is a bad access (R415). -/
def execRegisterWrite (die off : Nat) (v : Option Nat) (s : State) : Out :=
  if !s.hostSees || decide (8 ≤ die) || decide (0x100000 ≤ off) then .next s
  else if off % 4 ≠ 0 then execBadBar0Access v.isSome s
  else match v with
    | some v => .next (s.hostWrite die off v)
    | none => .next (s.hostRead die off)

/-- SERVICE_WRITE (R428): `ok` is a sound format and CRC, `late` a completion that does not come within 10 µs. -/
def execServiceWrite (die wordOff data : Nat) (ok late : Bool) (s : State) : Out :=
  let write := fun (s : State) => s.reachWrite .service die (4 * (wordOff % 0x40000)) (data % 0x100000)
  if !s.svcServed || s.svc.responding then .next s
  else if !ok then .next (s.respond 1 0)
  else if late then .next (s.svcLate write)
  else .next ((write s).respond (if s.hasDie die then 0 else 2) 0)

end Sys2Proof.Machine
end

