-- ==== Sys2Proof/Machine/Dispatch.lean ====
section
/-! DEFINITION. What each command does: one arm per command. -/

namespace Sys2Proof.Machine

def exec (i : Instr) (s : State) : Host.Outcome State Fault Refusal :=
  match i with
  | .resetNAssert lowNs midWrite => Sys2Proof.Machine.execResetNAssert lowNs midWrite s
  | .resetNRelease o => Sys2Proof.Machine.execResetNRelease o s
  | .hostImageDelivered trained cals memUe => Sys2Proof.Machine.execHostImageDelivered trained cals memUe s
  | .hostImageTimeout => Sys2Proof.Machine.execHostImageTimeout s
  | .positionBroadcast => Sys2Proof.Machine.execPositionBroadcast s
  | .broadcastArrival n => Sys2Proof.Machine.execBroadcastArrival n s
  | .replicaAdvance n => Sys2Proof.Machine.execReplicaAdvance n s
  | .flitCrcFail n cls => Sys2Proof.Machine.execFlitCrcFail n cls s
  | .linkLoss n => Sys2Proof.Machine.execLinkLoss n s
  | .hubLinkLoss n => Sys2Proof.Machine.execHubLinkLoss n s
  | .encoderCount enc ev => Sys2Proof.Machine.execEncoderCount enc ev s
  | .signalFault enc => Sys2Proof.Machine.execSignalFault enc s
  | .signalFaultClear enc => Sys2Proof.Machine.execSignalFaultClear enc s
  | .wtbUpdate => Sys2Proof.Machine.execWtbUpdate s
  | .span => Sys2Proof.Machine.execSpan s
  | .preset => Sys2Proof.Machine.execPreset s
  | .capture => Sys2Proof.Machine.execCapture s
  | .rebaseline => Sys2Proof.Machine.execRebaseline s
  | .recal results => Sys2Proof.Machine.execRecal results s
  | .wtbClearCounters => Sys2Proof.Machine.execWtbClearCounters s
  | .mainsCrossing input t vrms => Sys2Proof.Machine.execMainsCrossing input t vrms s
  | .mainsLoss => Sys2Proof.Machine.execMainsLoss s
  | .cueIssue die => Sys2Proof.Machine.execCueIssue die s
  | .tickStampedApply die => Sys2Proof.Machine.execTickStampedApply die s
  | .nop die => Sys2Proof.Machine.execNop die s
  | .frameStart die => Sys2Proof.Machine.execFrameStart die s
  | .frameEnd die => Sys2Proof.Machine.execFrameEnd die s
  | .bankSwitch die => Sys2Proof.Machine.execBankSwitch die s
  | .regOp die => Sys2Proof.Machine.execRegOp die s
  | .event die => Sys2Proof.Machine.execEvent die s
  | .listCtrlDisable die => Sys2Proof.Machine.execListCtrlDisable die s
  | .listCtrlEnable die => Sys2Proof.Machine.execListCtrlEnable die s
  | .listCtrlStop die => Sys2Proof.Machine.execListCtrlStop die s
  | .markWindowOpen => Sys2Proof.Machine.execMarkWindowOpen s
  | .markWindowClose => Sys2Proof.Machine.execMarkWindowClose s
  | .output => Sys2Proof.Machine.execOutput s
  | .heaterOn => Sys2Proof.Machine.execHeaterOn s
  | .heaterOff => Sys2Proof.Machine.execHeaterOff s
  | .sample die => Sys2Proof.Machine.execSample die s
  | .frameClose => Sys2Proof.Machine.execFrameClose s
  | .editRead die => Sys2Proof.Machine.execEditRead die s
  | .editWrite die => Sys2Proof.Machine.execEditWrite die s
  | .editLink die => Sys2Proof.Machine.execEditLink die s
  | .listHeadWrite die list head => Sys2Proof.Machine.execListHeadWrite die list head s
  | .listStop die list => Sys2Proof.Machine.execListStop die list s
  | .cueClearCounters die => Sys2Proof.Machine.execCueClearCounters die s
  | .cohTolWrite n v => Sys2Proof.Machine.execCohTolWrite n v s
  | .submit => Sys2Proof.Machine.execSubmit s
  | .withdraw => Sys2Proof.Machine.execWithdraw s
  | .popDone => Sys2Proof.Machine.execPopDone s
  | .frmClearCounters => Sys2Proof.Machine.execFrmClearCounters s
  | .arm die => Sys2Proof.Machine.execArm die s
  | .switchCompletion die => Sys2Proof.Machine.execSwitchCompletion die s
  | .retireAtZeroSpeed => Sys2Proof.Machine.execRetireAtZeroSpeed s
  | .rejectPulse k => Sys2Proof.Machine.execRejectPulse k s
  | .descRead n => Sys2Proof.Machine.execDescRead n s
  | .descWrite n => Sys2Proof.Machine.execDescWrite n s
  | .seal rset => Sys2Proof.Machine.execSeal rset s
  | .sealAcknowledged => Sys2Proof.Machine.execSealAcknowledged s
  | .unseal rset => Sys2Proof.Machine.execUnseal rset s
  | .commitWrite n c v => Sys2Proof.Machine.execCommitWrite n c v s
  | .bar2Read addr len => Sys2Proof.Machine.execBar2Read addr len s
  | .bar2Write addr bytes => Sys2Proof.Machine.execBar2Write addr bytes s
  | .patchTilePlacement n => Sys2Proof.Machine.execPatchTilePlacement n s
  | .rinClearCounters n => Sys2Proof.Machine.execRinClearCounters n s
  | .mirrorUpdate n => Sys2Proof.Machine.execMirrorUpdate n s
  | .channelStart die ch => Sys2Proof.Machine.execChannelStart die ch s
  | .resume die ch => Sys2Proof.Machine.execResume die ch s
  | .abort die ch => Sys2Proof.Machine.execAbort die ch s
  | .xfrChClearCounters die ch => Sys2Proof.Machine.execXfrChClearCounters die ch s
  | .burstIssue die ch => Sys2Proof.Machine.execBurstIssue die ch s
  | .burstCompletion die ch host => Sys2Proof.Machine.execBurstCompletion die ch host s
  | .burstRetry die ch => Sys2Proof.Machine.execBurstRetry die ch s
  | .descriptorComplete die ch => Sys2Proof.Machine.execDescriptorComplete die ch s
  | .sdescRead n => Sys2Proof.Machine.execSdescRead n s
  | .sdescWrite n => Sys2Proof.Machine.execSdescWrite n s
  | .resMbpsWrite ch v => Sys2Proof.Machine.execResMbpsWrite ch v s
  | .reqSelWrite ch v => Sys2Proof.Machine.execReqSelWrite ch v s
  | .resLimitWrite v => Sys2Proof.Machine.execResLimitWrite v s
  | .scnStart n offset => Sys2Proof.Machine.execScnStart n offset s
  | .scnStop n => Sys2Proof.Machine.execScnStop n s
  | .scnClear n => Sys2Proof.Machine.execScnClear n s
  | .scnClearCounters n => Sys2Proof.Machine.execScnClearCounters n s
  | .bd0Detection n t => Sys2Proof.Machine.execBd0Detection n t s
  | .bd1Detection n t => Sys2Proof.Machine.execBd1Detection n t s
  | .bdWindowClose n => Sys2Proof.Machine.execBdWindowClose n s
  | .pickupZeroCrossing n t rising amp => Sys2Proof.Machine.execPickupZeroCrossing n t rising amp s
  | .sweepStart n => Sys2Proof.Machine.execSweepStart n s
  | .sweepEnd n => Sys2Proof.Machine.execSweepEnd n s
  | .spinTmo n => Sys2Proof.Machine.execSpinTmo n s
  | .polyRampStep n => Sys2Proof.Machine.execPolyRampStep n s
  | .lplApply n => Sys2Proof.Machine.execLplApply n s
  | .lplClearCounters n => Sys2Proof.Machine.execLplClearCounters n s
  | .regWebWrite n scan v => Sys2Proof.Machine.execRegWebWrite n scan v s
  | .regLimWrite n v => Sys2Proof.Machine.execRegLimWrite n v s
  | .pxApply n => Sys2Proof.Machine.execPxApply n s
  | .cksPxClearCounters n => Sys2Proof.Machine.execCksPxClearCounters n s
  | .cksSysClearCounters die => Sys2Proof.Machine.execCksSysClearCounters die s
  | .pixelPllLossOfLock n => Sys2Proof.Machine.execPixelPllLossOfLock n s
  | .systemPllLossOfLock => Sys2Proof.Machine.execSystemPllLossOfLock s
  | .refclkLoss die => Sys2Proof.Machine.execRefclkLoss die s
  | .stationFabricPllLoss n => Sys2Proof.Machine.execStationFabricPllLoss n s
  | .relockAttempt n => Sys2Proof.Machine.execRelockAttempt n s
  | .lockAcquired die px => Sys2Proof.Machine.execLockAcquired die px s
  | .dividerStep die px => Sys2Proof.Machine.execDividerStep die px s
  | .systemPllRetry => Sys2Proof.Machine.execSystemPllRetry s
  | .train n => Sys2Proof.Machine.execTrain n s
  | .test n => Sys2Proof.Machine.execTest n s
  | .testStop n => Sys2Proof.Machine.execTestStop n s
  | .lsrClearCounters n => Sys2Proof.Machine.execLsrClearCounters n s
  | .farEndRelease n => Sys2Proof.Machine.execFarEndRelease n s
  | .lsoHigh1us n => Sys2Proof.Machine.execLsoHigh1us n s
  | .linkUp n => Sys2Proof.Machine.execLinkUp n s
  | .trainTmo n => Sys2Proof.Machine.execTrainTmo n s
  | .sweepFrameLaunch n => Sys2Proof.Machine.execSweepFrameLaunch n s
  | .pageSend n => Sys2Proof.Machine.execPageSend n s
  | .apcPulsePair n => Sys2Proof.Machine.execApcPulsePair n s
  | .apcMeasurement n beam meas => Sys2Proof.Machine.execApcMeasurement n beam meas s
  | .drvSafeoff n => Sys2Proof.Machine.execDrvSafeoff n s
  | .beamWatchdog n => Sys2Proof.Machine.execBeamWatchdog n s
  | .strayLight n reading ns => Sys2Proof.Machine.execStrayLight n reading ns s
  | .reentryComplete n => Sys2Proof.Machine.execReentryComplete n s
  | .lsrDrvWrite n k v => Sys2Proof.Machine.execLsrDrvWrite n k v s
  | .markEdge sensor rising t hold => Sys2Proof.Machine.execMarkEdge sensor rising t hold s
  | .stretchPeriod => Sys2Proof.Machine.execStretchPeriod s
  | .resetEst => Sys2Proof.Machine.execResetEst s
  | .popRaw => Sys2Proof.Machine.execPopRaw s
  | .rgcClearCounters => Sys2Proof.Machine.execRgcClearCounters s
  | .corrWrite n scan v => Sys2Proof.Machine.execCorrWrite n scan v s
  | .slotTimerTrigger die slot => Sys2Proof.Machine.execSlotTimerTrigger die slot s
  | .ownerEventTrigger die slot own => Sys2Proof.Machine.execOwnerEventTrigger die slot own s
  | .heldTriggerRelease die slot => Sys2Proof.Machine.execHeldTriggerRelease die slot s
  | .slotUpdate die adc valid => Sys2Proof.Machine.execSlotUpdate die adc valid s
  | .slotStart die slot => Sys2Proof.Machine.execSlotStart die slot s
  | .slotStop die slot => Sys2Proof.Machine.execSlotStop die slot s
  | .slotClear die slot => Sys2Proof.Machine.execSlotClear die slot s
  | .lpeClearCounters die => Sys2Proof.Machine.execLpeClearCounters die s
  | .limWrite die slot high v => Sys2Proof.Machine.execLimWrite die slot high v s
  | .hvDischarge die ch => Sys2Proof.Machine.execHvDischarge die ch s
  | .chgForbidClear n => Sys2Proof.Machine.execChgForbidClear n s
  | .heaterFire h => Sys2Proof.Machine.execHeaterFire h s
  | .endGuard => Sys2Proof.Machine.execEndGuard s
  | .fuserTempSample j t inRange => Sys2Proof.Machine.execFuserTempSample j t inRange s
  | .readyTimer => Sys2Proof.Machine.execReadyTimer s
  | .bandExit => Sys2Proof.Machine.execBandExit s
  | .autoStandby => Sys2Proof.Machine.execAutoStandby s
  | .warmup => Sys2Proof.Machine.execWarmup s
  | .fsrStandby => Sys2Proof.Machine.execFsrStandby s
  | .fsrOff => Sys2Proof.Machine.execFsrOff s
  | .fsrClear => Sys2Proof.Machine.execFsrClear s
  | .fsrClearCounters => Sys2Proof.Machine.execFsrClearCounters s
  | .pwmPeriod die ch m => Sys2Proof.Machine.execPwmPeriod die ch m s
  | .speedSample die ch => Sys2Proof.Machine.execSpeedSample die ch s
  | .follow die ch => Sys2Proof.Machine.execFollow die ch s
  | .catchEnd die ch => Sys2Proof.Machine.execCatchEnd die ch s
  | .alignEnd die ch => Sys2Proof.Machine.execAlignEnd die ch s
  | .overcurrent die ch => Sys2Proof.Machine.execOvercurrent die ch s
  | .gateFault die ch => Sys2Proof.Machine.execGateFault die ch s
  | .busSample die v chopI => Sys2Proof.Machine.execBusSample die v chopI s
  | .chopperFault kind => Sys2Proof.Machine.execChopperFault kind s
  | .busUndervoltage die => Sys2Proof.Machine.execBusUndervoltage die s
  | .holdEnd die ch => Sys2Proof.Machine.execHoldEnd die ch s
  | .mdrChStart die ch offset => Sys2Proof.Machine.execMdrChStart die ch offset s
  | .mdrChStop die ch => Sys2Proof.Machine.execMdrChStop die ch s
  | .mdrChClear die ch => Sys2Proof.Machine.execMdrChClear die ch s
  | .mdrChClearCounters die ch => Sys2Proof.Machine.execMdrChClearCounters die ch s
  | .mdrClear die => Sys2Proof.Machine.execMdrClear die s
  | .mdrClearCounters die => Sys2Proof.Machine.execMdrClearCounters die s
  | .profileStep replies => Sys2Proof.Machine.execProfileStep replies s
  | .axisTgtWrite x v => Sys2Proof.Machine.execAxisTgtWrite x v s
  | .axisEnable x => Sys2Proof.Machine.execAxisEnable x s
  | .axisDisable x => Sys2Proof.Machine.execAxisDisable x s
  | .axisPreset x => Sys2Proof.Machine.execAxisPreset x s
  | .axisClear x => Sys2Proof.Machine.execAxisClear x s
  | .axsAxClearCounters x => Sys2Proof.Machine.execAxsAxClearCounters x s
  | .axsClearCounters => Sys2Proof.Machine.execAxsClearCounters s
  | .thmConversion die temps => Sys2Proof.Machine.execThmConversion die temps s
  | .thmExtSample n fracs => Sys2Proof.Machine.execThmExtSample n fracs s
  | .gateRise n charge => Sys2Proof.Machine.execGateRise n charge s
  | .warnEntry => Sys2Proof.Machine.execWarnEntry s
  | .warnClear => Sys2Proof.Machine.execWarnClear s
  | .graceExpiry => Sys2Proof.Machine.execGraceExpiry s
  | .releaseExpiry => Sys2Proof.Machine.execReleaseExpiry s
  | .critEntry => Sys2Proof.Machine.execCritEntry s
  | .finishPoint => Sys2Proof.Machine.execFinishPoint s
  | .phaseSafe => Sys2Proof.Machine.execPhaseSafe s
  | .thmTrip die => Sys2Proof.Machine.execThmTrip die s
  | .thmClearCounters => Sys2Proof.Machine.execThmClearCounters s
  | .faultReport => Sys2Proof.Machine.execFaultReport s
  | .latchedReaction die pos => Sys2Proof.Machine.execLatchedReaction die pos s
  | .safeOffCommand die => Sys2Proof.Machine.execSafeOffCommand die s
  | .stopped => Sys2Proof.Machine.execStopped s
  | .shadowEnd sh still => Sys2Proof.Machine.execShadowEnd sh still s
  | .faultNPulseEnd => Sys2Proof.Machine.execFaultNPulseEnd s
  | .clearF => Sys2Proof.Machine.execClearF s
  | .fltClearCounters die => Sys2Proof.Machine.execFltClearCounters die s
  | .mergeFlush die => Sys2Proof.Machine.execMergeFlush die s
  | .scrubRead die mem upset last => Sys2Proof.Machine.execScrubRead die mem upset last s
  | .memArm die => Sys2Proof.Machine.execMemArm die s
  | .memDisarm die => Sys2Proof.Machine.execMemDisarm die s
  | .memClearCounters die => Sys2Proof.Machine.execMemClearCounters die s
  | .recordWrite => Sys2Proof.Machine.execRecordWrite s
  | .freeze => Sys2Proof.Machine.execFreeze s
  | .unfreeze => Sys2Proof.Machine.execUnfreeze s
  | .evrClearCounters => Sys2Proof.Machine.execEvrClearCounters s
  | .evrWinRead path => Sys2Proof.Machine.execEvrWinRead path s
  | .evrCursorWrite slot word => Sys2Proof.Machine.execEvrCursorWrite slot word s
  | .archiveAppend => Sys2Proof.Machine.execArchiveAppend s
  | .codeWordWrite ok again => Sys2Proof.Machine.execCodeWordWrite ok again s
  | .journalAppend typ len => Sys2Proof.Machine.execJournalAppend typ len s
  | .lookup => Sys2Proof.Machine.execLookup s
  | .compactJrn => Sys2Proof.Machine.execCompactJrn s
  | .compactArc => Sys2Proof.Machine.execCompactArc s
  | .lovClearCounters => Sys2Proof.Machine.execLovClearCounters s
  | .stageDataAccess path value => Sys2Proof.Machine.execStageDataAccess path value s
  | .rdDataRead path => Sys2Proof.Machine.execRdDataRead path s
  | .rdAddrWrite part cw => Sys2Proof.Machine.execRdAddrWrite part cw s
  | .programA bad => Sys2Proof.Machine.execProgramA bad s
  | .programB bad => Sys2Proof.Machine.execProgramB bad s
  | .programRecovery bad => Sys2Proof.Machine.execProgramRecovery bad s
  | .selectA => Sys2Proof.Machine.execSelectA s
  | .selectB => Sys2Proof.Machine.execSelectB s
  | .clearFailedStartCount => Sys2Proof.Machine.execClearFailedStartCount s
  | .writeKeySlot => Sys2Proof.Machine.execWriteKeySlot s
  | .revokeKeySlot => Sys2Proof.Machine.execRevokeKeySlot s
  | .raiseRollbackFloor => Sys2Proof.Machine.execRaiseRollbackFloor s
  | .unlockRecovery => Sys2Proof.Machine.execUnlockRecovery s
  | .lockRecovery => Sys2Proof.Machine.execLockRecovery s
  | .bayStandby => Sys2Proof.Machine.execBayStandby s
  | .powerDown => Sys2Proof.Machine.execPowerDown s
  | .pwrEnReassert => Sys2Proof.Machine.execPwrEnReassert s
  | .clearTrip => Sys2Proof.Machine.execClearTrip s
  | .clearCause => Sys2Proof.Machine.execClearCause s
  | .vmainFail mv => Sys2Proof.Machine.execVmainFail mv s
  | .vmainRise mv => Sys2Proof.Machine.execVmainRise mv s
  | .cover high => Sys2Proof.Machine.execCover high s
  | .webWake quad => Sys2Proof.Machine.execWebWake quad s
  | .bayTemp temp tripNet => Sys2Proof.Machine.execBayTemp temp tripNet s
  | .rtcAlarm => Sys2Proof.Machine.execRtcAlarm s
  | .externalWake => Sys2Proof.Machine.execExternalWake s
  | .rtcSecWrite path lo => Sys2Proof.Machine.execRtcSecWrite path lo s
  | .linkDown kind => Sys2Proof.Machine.execLinkDown kind s
  | .badBar0Access write => Sys2Proof.Machine.execBadBar0Access write s
  | .registerWrite die off v => Sys2Proof.Machine.execRegisterWrite die off v s
  | .vectorUnmask v => Sys2Proof.Machine.execVectorUnmask v s
  | .irqPendClear w mask => Sys2Proof.Machine.execIrqPendClear w mask s
  | .hifClearCounters => Sys2Proof.Machine.execHifClearCounters s
  | .statusReq => Sys2Proof.Machine.execStatusReq s
  | .ack seq => Sys2Proof.Machine.execAck seq s
  | .mail seq payload sound => Sys2Proof.Machine.execMail seq payload sound s
  | .ackTimeout typ => Sys2Proof.Machine.execAckTimeout typ s
  | .statusPeriod => Sys2Proof.Machine.execStatusPeriod s
  | .frameTransmitted => Sys2Proof.Machine.execFrameTransmitted s
  | .pressLinkLost => Sys2Proof.Machine.execPressLinkLost s
  | .send len => Sys2Proof.Machine.execSend len s
  | .pop => Sys2Proof.Machine.execPop s
  | .plkClearCounters => Sys2Proof.Machine.execPlkClearCounters s
  | .plkRxDataRead => Sys2Proof.Machine.execPlkRxDataRead s
  | .lineTrigger => Sys2Proof.Machine.execLineTrigger s
  | .pulseEnd k => Sys2Proof.Machine.execPulseEnd k s
  | .ispClearCounters => Sys2Proof.Machine.execIspClearCounters s
  | .webpulseEdge => Sys2Proof.Machine.execWebpulseEdge s
  | .finClearCounters => Sys2Proof.Machine.execFinClearCounters s
  | .interlockOpen a b => Sys2Proof.Machine.execInterlockOpen a b s
  | .interlockClose => Sys2Proof.Machine.execInterlockClose s
  | .motDlyExpiry => Sys2Proof.Machine.execMotDlyExpiry s
  | .interlockDiscrepancy => Sys2Proof.Machine.execInterlockDiscrepancy s
  | .serviceRead die wordOff ok late => Sys2Proof.Machine.execServiceRead die wordOff ok late s
  | .serviceWrite die wordOff data ok late => Sys2Proof.Machine.execServiceWrite die wordOff data ok late s
  | .requestAbort => Sys2Proof.Machine.execRequestAbort s
  | .svcClearCounters => Sys2Proof.Machine.execSvcClearCounters s
  | .updateIr code => Sys2Proof.Machine.execUpdateIr code s
  | .tapReset => Sys2Proof.Machine.execTapReset s
  | .vbayLoss => Sys2Proof.Machine.execVbayLoss s
  | .tagSent => Sys2Proof.Machine.execTagSent s
  | .serviceResponseEnd => Sys2Proof.Machine.execServiceResponseEnd s

end Sys2Proof.Machine
end

