-- ==== Sys2Proof/Machine/Step.lean ====
section
/-! DEFINITION. One step of the block: the command at the front of the queue is carried out. -/

namespace Sys2Proof.Machine

/-- The queue without its first command. -/
def State.dropPending (s : State) : State := { s with pending := s.pending.tail }

/-- A command put in front of the queue. -/
def State.pushFront (s : State) (i : Instr) : State := { s with pending := i :: s.pending }

/-- One step. On an empty queue the block idles (DESIGN CHOICE, entry 1): every effect of time has a command of its own. -/
def step (s : State) : Host.Outcome State Fault Refusal :=
  match s.pending with
  | [] => .next s
  | i :: _ => exec i s.dropPending

/-- The state with the command that a word spells in front of its queue; unchanged where the word spells none. -/
def State.withFetchWord (s : State) (nbits w : Nat) : State :=
  match decodeTableWord nbits w with
  | some i => s.pushFront i
  | none => s

end Sys2Proof.Machine
end

