-- ==== Sys2Proof/Safety.lean ====
section
/-! DEFINITION. The words in which claims about the block are stated: a command that completes, what an update leaves alone, and what holds in
every state a run can reach. -/

namespace Sys2Proof.Machine

/-- The command is carried out: exec answers a next state, and that state has the property. -/
def completes (c : Instr) (s : State) (p : State → Prop) : Prop := ∃ t, exec c s = .next t ∧ p t

/-- Two fields share no bit of a register. -/
def Fld.apart (f g : Fld) : Prop := f.off ≠ g.off ∨ f.hi < g.lo ∨ g.hi < f.lo

/-- Every field of every register of every die reads as before, but for those of one die that share a bit with a listed field. -/
def regsKept (s t : State) (die : Nat) (fs : List Fld) : Prop :=
  ∀ (e : Nat) (g : Fld), g.off < 0x100000 → (e = die → ∀ f ∈ fs, f.apart g) → t.rd e g = s.rd e g

/-- Every field of every register of the other dies reads as before. -/
def diesKept (s t : State) (die : Nat) : Prop :=
  ∀ (e : Nat) (g : Fld), g.off < 0x100000 → e ≠ die → t.rd e g = s.rd e g

/-- Every register of every die reads as before. -/
def allRegsKept (s t : State) : Prop := ∀ (e : Nat) (g : Fld), g.off < 0x100000 → t.rd e g = s.rd e g

/-- Nothing but registers has changed: no memory, queue, engine state, staged or armed bank. -/
def onlyRegs (s t : State) : Prop := t = { s with regs := t.regs }

/-- Nothing but registers and the reports on their way to the fault collector has changed. -/
def onlyRegsAndReports (s t : State) : Prop := t = { s with regs := t.regs, flt := { s.flt with inbox := t.flt.inbox } }

/-- Software has set the promote bit of a position of a die: its reports leave as F reports, after the local safe-off of the die (R345). -/
def State.promotes (s : State) (die pos : Nat) : Bool := s.on die ⟨F.FLT_REACT_promote.off, pos, pos⟩

/-- Exactly one report of a die's position has joined those on their way to the fault collector, with the class of its source or, from a position that
is promoted, as an F report (R343, R345). -/
def reportsOne (s t : State) (die pos : Nat) (cls : FClass) : Prop :=
  ∃ r, t.flt.inbox = s.flt.inbox ++ [r] ∧ r.die = die ∧ r.pos = pos ∧ r.cls = (if s.promotes die pos then .f else cls)

/-- Exactly one report of a position below F, and, unless the position is promoted, nothing else but registers has changed, none but the listed
fields of a die. -/
def reportsOnly (s t : State) (die pos : Nat) (cls : FClass) (fs : List Fld) : Prop :=
  reportsOne s t die pos cls ∧ (s.promotes die pos = false → onlyRegsAndReports s t ∧ regsKept s t die fs)

/-- No word of a memory of a die holds an error or waits in a merge entry (R364, R365). -/
def State.memSound (s : State) (die m : Nat) : Prop := (s.mem die).errs.getD m [] = [] ∧ ∀ x ∈ (s.mem die).merge, x.mem ≠ m

/-- A sound memory, with no flip armed on the die (R368). -/
def State.memClean (s : State) (die m : Nat) : Prop := s.memSound die m ∧ (s.mem die).flip = none

/-- The command clears the listed fields of a die and does nothing else. -/
def clearsOnly (c : Instr) (s : State) (die : Nat) (fs : List Fld) : Prop :=
  completes c s fun t => onlyRegs s t ∧ (∀ f ∈ fs, t.rd die f = 0) ∧ regsKept s t die fs

/-- The register stores, the buffer memories with their error masks, the cue memories and the Lovage cells are in their canonical form: keys strictly rising, and
no entry equal to what an unlisted key reads as. -/
def State.storesOk (s : State) : Bool :=
  storeWf keyReset s.regs && storeWf keyReset s.staged && storeWf keyReset s.armed && storeWf keyReset s.inUse &&
    s.mems.all (fun m => storeWf (fun _ => 0) m.bytes && m.errs.all (storeWf fun _ => 0)) &&
    s.cues.all (fun c => storeWf (fun _ => CueEntry.blank) c.mem) && storeWf (fun _ => zeroCw) s.lov.cells

/-- A variant of the part: one to seven stations (R1). -/
def State.variantOk (s : State) : Bool := decide (1 ≤ s.nStn) && decide (s.nStn ≤ 7)

end Sys2Proof.Machine
end

