-- ==== Sys2Proof/Certificates/Slice0/Obligations.lean ====
section
/-! DEFINITION. The claims about the block, stated over every state and every operand. -/

open Sys2Proof Sys2Proof.Machine

/-- The clear_counters commands of the hub's blocks clear their counters and maxima and change nothing else (R58, R109, R256, R290, R331, R342,
R381, R382, R432 to R434).
The clear_counters commands of the blocks that stand on a station, or on every die, clear their counters and maxima on the die they name
and change nothing else (R81, R131, R150, R173, R193, R214, R215, R240, R276, R312, R313, R360, R369); an axis in FAULT and station channel 7 refuse
theirs (R145, R329), and the blocks of a station that the topology leaves unused take no command (R404, R456).
Model's own choices it touches: log entries 100, 218. -/
def Obligations.CountersClear : Prop :=
  (∀ s : State,
   clearsOnly .wtbClearCounters s 0 [F.WTB_REV_DEPTH_rev_depth_max, F.WTB_ENC_ERR_CNT_enc_a_err, F.WTB_ENC_ERR_CNT_enc_b_err] ∧
   clearsOnly .frmClearCounters s 0 [F.FRM_POP_EMPTY_CNT_pop_empty, F.FRM_ADMIT_CNT_admit_cnt, F.FRM_REFUSE_CNT_refuse_cnt,
     F.FRM_FLAG_CNT_flag_cnt, F.FRM_CANCEL_CNT_cancel_cnt] ∧
   clearsOnly .fsrClearCounters s 0 [F.FSR_CUE_IGN_CNT_ign] ∧
   clearsOnly .axsClearCounters s 0 [F.AXS_BUS_BAD_CNT_bad] ∧
   clearsOnly .thmClearCounters s 0 [F.THM_ENF_CNT_enf_cnt] ∧
   clearsOnly .evrClearCounters s 0 [F.EVR_LOST_lost, F.EVR_FRZ_CNT_frz] ∧
   clearsOnly .lovClearCounters s 0 [F.LOV_ARC_LOST_lost] ∧
   clearsOnly .hifClearCounters s 0 [F.HIF_ABSENT_CNT_absent, F.HIF_BAD_ACC_CNT_bad, F.HIF_DOWN_CNT_down] ∧
   clearsOnly .plkClearCounters s 0 [F.PLK_RX_ERR_CNT_rx_err, F.PLK_FAIL_CNT_fail, F.PLK_TX_LOST_tx_lost] ∧
   clearsOnly .ispClearCounters s 0 [F.ISP_TAG_LOST_lost, F.ISP_TAG_CNT_sent] ∧
   clearsOnly .finClearCounters s 0 [F.FIN_REJ_CNT_rej0_cnt, F.FIN_REJ_CNT_rej1_cnt, F.FIN_MERGE_CNT_merge] ∧
   clearsOnly .svcClearCounters s 0 [F.SVC_ERR_CNT_err, F.SVC_REQ_CNT_req] ∧
   clearsOnly .rgcClearCounters s 0 ([F.RGC_RAW_LOST_lost, F.RGC_DIAG_DROP_diag_drop] ++
     (List.range' 1 7).flatMap fun n => [F.RGC_SET_CNT_sets n, F.RGC_INV_CNT_invalid n]) ∧
   ∀ x, x < 8 →
     (s.axState x ≠ axFault → clearsOnly (.axsAxClearCounters x) s 0
       [F.AXS_AX_CNT_back_cnt x, F.AXS_AX_CNT_rev_cnt x, F.AXS_AX_CNT_ovs_cnt x, F.AXS_AX_DEV_MAX_dev_max x]) ∧
     (s.axState x = axFault → completes (.axsAxClearCounters x) s fun t => t.rd 0 (F.AXS_AX_STATUS_write_reject x) = 1 ∧
       reportsOnly s t 0 (fltPos 0 .axs) .c [F.AXS_AX_STATUS_write_reject x])) ∧
  (∀ (s : State) (d : Nat),
   (s.hasStn d = true →
     clearsOnly (.rinClearCounters d) s d [F.RIN_UNDERRUN_CNT_underrun_cnt, F.RIN_LATE_CNT_late_cnt, F.RIN_DROP_CNT_drop_cnt,
       F.RIN_UE_CNT_ue_cnt, ⟨P.RIN_UE_ADDR, 19, 0⟩, ⟨P.RIN_UE_ADDR + 4, 19, 0⟩]) ∧
   (s.stnPowered d = true →
     clearsOnly (.scnClearCounters d) s d [F.SCN_PHASE_MAX_e_max, F.SCN_BD_MISS_CNT_bd_miss, F.SCN_FLY_CNT_fly, F.SCN_LOCK_LOST_CNT_lost,
       F.SCN_PRED_ERR_MAX_pred] ∧
     clearsOnly (.lplClearCounters d) s d [F.LPL_BLANK_SWP_CNT_blank_cnt, F.LPL_BYPASS_CNT_bypass_cnt, F.LPL_PLACE_FLAG_CNT_place_cnt] ∧
     clearsOnly (.cksPxClearCounters d) s d [F.CKS_PX_LOST_CNT_lost_cnt, F.CKS_PX_RELOCK_CNT_fail_cnt, F.CKS_PX_RELOCK_CNT_relock_cnt] ∧
     clearsOnly (.lsrClearCounters d) s d [F.LSR_WD_CNT_wd_cnt, F.LSR_DRV_SAFEOFF_CNT_drv_cnt, F.LSR_FORBID_SWP_CNT_forbid_cnt,
       F.LSR_TRAIN_CNT_fail_cnt, F.LSR_TRAIN_CNT_ok_cnt]) ∧
   (s.hasStn d = true → s.stnPowered d = false →
     ∀ c ∈ [Instr.scnClearCounters d, .lplClearCounters d, .cksPxClearCounters d, .lsrClearCounters d, .mdrChClearCounters d 4],
       completes c s fun t => t = s) ∧
   (s.hasDie d = true →
     clearsOnly (.cueClearCounters d) s d [F.CUE_EXEC_CNT_exec_cnt, F.CUE_LATE_CNT_late_cnt, F.CUE_LATE_MAX_late_max,
       F.CUE_SKIP_CNT_skip_cnt, F.CUE_HARD_MISS_CNT_hard_miss_cnt] ∧
     clearsOnly (.cksSysClearCounters d) s d [F.CKS_SYS_LOST_CNT_lost_cnt] ∧
     clearsOnly (.mdrClearCounters d) s d [F.MDR_CLAMP_CNT_clamp_cnt] ∧
     clearsOnly (.fltClearCounters d) s d
       ((List.range 20).flatMap fun p => [F.FLT_RPT_CNT_rpt p, F.FLT_LATCH_CNT_latch p, F.FLT_SHADOWED_shadowed p]) ∧
     clearsOnly (.memClearCounters d) s d ((List.range 7).flatMap fun m => [F.MEM_M_CE_CNT_ce_cnt m, F.MEM_M_UE_CNT_ue_cnt m]) ∧
     clearsOnly (.lpeClearCounters d) s d (F.LPE_LOAD_load_max :: (List.range (slotCount d)).flatMap fun i =>
       [F.LPE_SLOT_OVR_CNT_ovr_cnt i, F.LPE_SLOT_SAT_CNT_sat_cnt i, F.LPE_SLOT_FLT_CNT_flt_cnt i, F.LPE_SLOT_SMP_CNT_smp_cnt i]) ∧
     (∀ c, c < chanCount d → ¬(d ≠ 0 ∧ c = 7) → clearsOnly (.xfrChClearCounters d c) s d
       [F.XFR_CH_RETRY_CNT_retry_cnt c, F.XFR_CH_REQ_DROP_req_drop c, F.XFR_CH_POISON_CNT_poison_cnt c]) ∧
     (d ≠ 0 → completes (.xfrChClearCounters d 7) s fun t => t.rd d (F.XFR_CH_STATUS_write_reject 7) = 1 ∧
       reportsOnly s t d (fltPos d .xfr) .c [F.XFR_CH_STATUS_write_reject 7]) ∧
     ∀ k ∈ chanList d, (k = 4 → s.stnPowered d = true) → clearsOnly (.mdrChClearCounters d k) s d
       [F.MDR_CH_MVW_CNT_mvw k, F.MDR_CH_REV_CNT_rev k, F.MDR_CH_FLT_CNT_flt k]))

/-- An encoder input in quadrature mode: a level that stands for glitch_ns is a count of one in the sense of its two lines (which of them leads is the
model's choice, log entry 196), a shorter level is none, and a change of both lines within 1 ns moves nothing and is counted. In sin/cos mode a
sample within the radius moves the count by its interpolation steps, and one outside is counted; an event of the other mode does nothing. Each
count adds the scale to the accumulator, with the sense that invert gives, and no other input moves (R39 to R42, R45).
A span of the cross-check is judged when the primary has advanced by 2^(16 + span_sel) ticks: a difference above xchk_tol is a miss, xchk_n
misses in a row set ENC_MISMATCH, and a span without one clears it (R47).
Model's own choices it touches: log entries 19, 196. -/
def Obligations.EncoderCounts : Prop :=
  (∀ (s : State) (e : Enc),
   let moved : Encoder → Int → State → Prop := fun y n t =>
     let d : Int := if s.on 0 (encInvert e) then -n else n
     t.wtb = (s.setEnc e { y with count := y.count + d, acc := y.acc + d * s.encScale e, hw := max y.hw (y.count + d) }).wtb ∧
     t = { s with regs := t.regs, wtb := t.wtb } ∧ regsKept s t 0 [F.WTB_REV_DEPTH_rev_depth_max]
   let x := s.wtb.enc e
   (s.encMode e = 0 →
     (∀ (line : Bool) (ns : Nat), completes (.encoderCount e (.edge line ns)) s (moved (x.edge line ns (s.encGlitch e)) (quadCount x (x.edge line ns (s.encGlitch e))))) ∧
     (completes (.encoderCount e .both) s fun t =>
       let y := x.both s.now
       t.wtb = (s.setEnc e { y with due := x.due || decide (16 < y.illegal.length), lastBad := s.now }).wtb ∧ y.count = x.count ∧ y.acc = x.acc ∧
       t.rd 0 (encErr e) = satN 10 (s.rd 0 (encErr e) + 1) ∧ reportsOne s t 0 3 .c ∧
       (s.promotes 0 3 = false → t = { s with regs := t.regs, wtb := t.wtb, flt := { s.flt with inbox := t.flt.inbox } } ∧ regsKept s t 0 [encErr e])) ∧
     ∀ ph r, completes (.encoderCount e (.sample ph r)) s fun t => t = s) ∧
   (s.encMode e = 1 →
     (∀ ph r, 500 ≤ r → r ≤ 1400 → completes (.encoderCount e (.sample ph r)) s
       (moved { x with badRun := 0, phase := some ph } (x.stepsTo (s.encInterp e) ph))) ∧
     (∀ ph r, r < 500 ∨ 1400 < r → completes (.encoderCount e (.sample ph r)) s fun t =>
       t.wtb = (s.setEnc e { x with badRun := x.badRun + 1, due := x.due || decide (4 ≤ x.badRun + 1), lastBad := s.now }).wtb ∧
       t.rd 0 (encErr e) = satN 10 (s.rd 0 (encErr e) + 1) ∧ t = { s with regs := t.regs, wtb := t.wtb } ∧ regsKept s t 0 [encErr e]) ∧
     (∀ line ns, completes (.encoderCount e (.edge line ns)) s fun t => t = s) ∧ completes (.encoderCount e .both) s fun t => t = s)) ∧
  (∀ s : State,
   let due := s.checking = true ∧ ((2 ^ (16 + s.spanField F.WTB_XCHK_span_sel) * 16777216 : Nat) : Int) ≤ s.wtb.encA.acc - s.wtb.spanA
   (¬due → completes .span s fun t => t = s) ∧
   (due → completes .span s fun t =>
     let diff := ((s.wtb.encA.acc - s.wtb.spanA) - (s.wtb.encB.acc - s.wtb.spanB)).natAbs
     let tol := s.spanField F.WTB_XCHK_xchk_tol * 16777216
     t.wtb.spanA = s.wtb.encA.acc ∧ t.wtb.spanB = s.wtb.encB.acc ∧ t.wtb.spanCfg = some (s.rdWord 0 F.WTB_XCHK_xchk_tol.off) ∧ t.wtb.pub = s.wtb.pub ∧
     (diff ≤ tol → t.wtb.missRun = 0 ∧ t.rd 0 F.WTB_STATUS_enc_mismatch = 0 ∧ t.flt = s.flt) ∧
     (tol < diff → t.wtb.missRun = s.wtb.missRun + 1 ∧
       t.rd 0 F.WTB_STATUS_enc_mismatch = (if max 1 (s.spanField F.WTB_XCHK_xchk_n) ≤ s.wtb.missRun + 1 then 1 else s.rd 0 F.WTB_STATUS_enc_mismatch))))

/-- A signal fault follows from the samples or transitions of its input, and one that is active already is not raised again. A fault of the selected
encoder makes the timebase invalid and asks for a preset; one of A with failover in prospect waits for the next update, which selects B
(Timebase states it); one of a B that checks A suspends the cross-check with a U report; any other is counted only. It clears after 1 ms
without an exception, preset_req stays, and a new span starts for B (R40, R41, R48, R49).
Model's own choices it touches: log entries 18, 33, 197, 220. -/
def Obligations.SignalFaults : Prop := ∀ (s : State) (e : Enc),
  let failing := (s.wtb.enc e).due = true ∧ s.rd 0 (encFault e) = 0
  ((s.wtb.enc e).due = false → completes (.signalFault e) s fun t => t = s) ∧
  ((s.wtb.enc e).due = true → s.rd 0 (encFault e) ≠ 0 → completes (.signalFault e) s fun t => t = s.setEnc e { s.wtb.enc e with due := false }) ∧
  (failing → completes (.signalFault e) s fun t =>
    t.rd 0 (encFault e) = 1 ∧ t.rd 0 (encFaultS e) = 1 ∧ t.wtb.pub = s.wtb.pub ∧ t.wtb.enc e = { s.wtb.enc e with due := false } ∧
    t.rd 0 F.WTB_STATUS_on_secondary = s.rd 0 F.WTB_STATUS_on_secondary ∧
    (s.selected = e → ¬(s.rd 0 F.WTB_CTRL_enc_source = 2 ∧ e = .a) →
      t.rd 0 F.WTB_STATUS_preset_req = 1 ∧ t.rd 0 F.WTB_STATUS_tb_ok = 0 ∧ t.rd 0 F.CUE_STATUS_tb_valid = 0 ∧ reportsOne s t 0 3 .f) ∧
    (s.selected = e → s.rd 0 F.WTB_CTRL_enc_source = 2 → e = .a →
      t.wtb.failover = true ∧ t.rd 0 F.WTB_STATUS_tb_ok = 0 ∧ t.flt = s.flt ∧ t = { s with regs := t.regs, wtb := t.wtb, rgc := t.rgc } ∧
      regsKept s t 0 [encFault e, encFaultS e, F.WTB_STATUS_tb_ok, F.CUE_STATUS_tb_valid]) ∧
    (s.selected ≠ e → s.rd 0 F.WTB_CTRL_enc_source = 0 ∨ e = .a →
      t.rd 0 (encErr e) = satN 10 (s.rd 0 (encErr e) + 1) ∧ reportsOne s t 0 3 .c) ∧
    (s.selected ≠ e → s.rd 0 F.WTB_CTRL_enc_source ≠ 0 → e = .b →
      t.rd 0 F.WTB_STATUS_enc_mismatch = 0 ∧ t.wtb.missRun = 0 ∧ reportsOne s t 0 3 .u)) ∧
  (s.rd 0 (encFault e) = 0 ∨ s.now < (s.wtb.enc e).lastBad + 1000000 → completes (.signalFaultClear e) s fun t => t = s) ∧
  (s.rd 0 (encFault e) ≠ 0 → (s.wtb.enc e).lastBad + 1000000 ≤ s.now → completes (.signalFaultClear e) s fun t =>
    t.rd 0 (encFault e) = 0 ∧ t.rd 0 (encFaultS e) = s.rd 0 (encFaultS e) ∧
    t.rd 0 F.WTB_STATUS_preset_req = s.rd 0 F.WTB_STATUS_preset_req ∧
    (let u := s.setEnc e { s.wtb.enc e with due := false }
     t.wtb = if e = .b then u.newSpan.wtb else u.wtb) ∧
    t = { s with regs := t.regs, wtb := t.wtb, rgc := t.rgc } ∧
    regsKept s t 0 [encFault e, F.WTB_STATUS_tb_ok, F.CUE_STATUS_tb_valid, F.FLT_F_ACTIVE_f_active])

/-- An update of the timebase never moves the published position back, and while the backlog is greater than zero it holds it and publishes
velocity zero; a failover that waits selects B and keeps the measured position; a preset that waits is what the update publishes; the register
shows the position modulo 2^40. With the power down only time goes on (R43, R45, R48, R50, R409).
The commands of WTB: a preset and a recalibration are accepted only while FRM does not run, and refused with write_reject otherwise; a
capture latches position and velocity together; a rebaseline discards the span in progress; a recalibration shows the latency of each link and
whether it passed (R47, R50, R55).
Model's own choices it touches: log entries 11, 20, 31, 167, 219. -/
def Obligations.Timebase : Prop :=
  (∀ s : State, s.bay.down = true → completes .wtbUpdate s fun t =>
   t = { s with now := s.now + s.tbInterval 0, bay := { s.bay with rtcNs := s.bay.rtcNs + s.tbInterval 0 } }) ∧
  (∀ s : State, s.bay.down = false → completes .wtbUpdate s fun t =>
   let e := if s.wtb.failover then Enc.b else s.selected
   t.now = s.now + s.tbInterval 0 ∧ t.pos = unsgn 40 t.wtb.pub ∧ t.wtb.failover = false ∧
   (s.wtb.failover = true → t.rd 0 F.WTB_STATUS_on_secondary = 1 ∧ t.wtb.xchkOff = true ∧ t.rd 0 F.WTB_STATUS_enc_mismatch = 0 ∧
     (s.wtb.presetPend = none → t.wtb.encB.acc + t.wtb.selOfs = s.wtb.encA.acc + s.wtb.selOfs)) ∧
   (s.wtb.presetPend = none →
     s.wtb.pub ≤ t.wtb.pub ∧ (0 < (s.wtb.enc e).hw - (s.wtb.enc e).count → t.wtb.pub = s.wtb.pub ∧ t.vel = 0) ∧
     t.wtb.encA = s.wtb.encA ∧ t.wtb.encB = s.wtb.encB) ∧
   (∀ p, s.wtb.presetPend = some p →
     t.wtb.presetPend = none ∧ t.wtb.presetBit = true ∧ t.wtb.pub = p ∧ t.rd 0 F.WTB_STATUS_preset_req = 0 ∧
     t.wtb.encA = s.wtb.encA.load p ∧ t.wtb.encB = s.wtb.encB.load p)) ∧
  (∀ s : State,
   (s.frmRuns = true → completes .preset s fun t => t.rd 0 F.WTB_STATUS_write_reject = 1 ∧ reportsOnly s t 0 3 .c [F.WTB_STATUS_write_reject]) ∧
   (s.frmRuns = false → completes .preset s fun t => t = { s with wtb := { s.wtb with presetPend := some (s.rd40 0 P.WTB_PRESET) } }) ∧
   (completes .capture s fun t =>
     t.rd40 0 P.WTB_CAPT = s.pos ∧ t.rd 0 F.WTB_CAPT_VEL_capt_vel = s.vel ∧ onlyRegs s t ∧
     regsKept s t 0 [⟨P.WTB_CAPT, 19, 0⟩, ⟨P.WTB_CAPT + 4, 19, 0⟩, F.WTB_CAPT_VEL_capt_vel]) ∧
   (completes .rebaseline s fun t =>
     t = { s with wtb := { s.wtb with spanA := s.wtb.encA.acc, spanB := s.wtb.encB.acc, spanCfg := some (s.rdWord 0 F.WTB_XCHK_xchk_tol.off) } }) ∧
   (∀ results : List LinkCal,
     (s.frmRuns = true → completes (.recal results) s fun t =>
       t.rd 0 F.WTB_STATUS_write_reject = 1 ∧ reportsOnly s t 0 3 .c [F.WTB_STATUS_write_reject]) ∧
     (s.frmRuns = false → s.nStn ≤ 7 → completes (.recal results) s fun t =>
       t.rd 0 F.WTB_STATUS_cal_done = b2n (s.stns.all fun n => t.on n F.CUE_REP_STATUS_cal_done) ∧
       ∀ n, s.hasStn n = true →
         (results.find? (fun x => x.stn == n) = none → t.rd n F.CUE_REP_STATUS_cal_done = 0) ∧
         ∀ c, results.find? (fun x => x.stn == n) = some c → c.trips ≠ [] → c.delays ≠ [] →
           t.rd n F.CUE_REP_STATUS_cal_done = b2n (calPassed c) ∧
           (calPassed c = true → calLat c < 65536 → t.rd 0 (F.WTB_LAT_lat n) = calLat c ∧ t.rd n F.CUE_REP_LAT_lat = calLat c))))

/-- The mains timebase: before it tracks, two crossings of the selected input 45 to 65 Hz apart are accepted; while it tracks, a crossing
within 2 % of a period of its prediction that keeps the period is accepted and any other is rejected and counted; after two periods without one a
loss clears mains_ok. A crossing that is accepted gives the rms of its cycle and, where no half-cycle has begun at it, decides which phase
heaters fire in its half-cycle (R56, R283, R284).
Model's own choices it touches: log entries 21, 22, 189, 221, 222. -/
def Obligations.MainsTimebase : Prop := ∀ (s : State) (τ vrms : Nat),
  (∀ input, s.rd 0 F.WTB_STATUS_mains_ok = 0 → input = s.rd 0 F.WTB_MAINS_CFG_src →
    (∀ c, s.wtb.mainsCand = some c → 15384615 ≤ τ - c → τ - c ≤ 22222222 → completes (.mainsCrossing input τ vrms) s fun t =>
      t.rd 0 F.WTB_STATUS_mains_ok = 1 ∧ t.wtb.mainsLast = some τ ∧ t.wtb.mainsPeriod = τ - c ∧ t.wtb.mainsSrc = input ∧
      t.rd 0 F.FSR_MAINS_VRMS_vrms = satN F.FSR_MAINS_VRMS_vrms.width vrms ∧ t.rd 0 F.FSR_STATUS_mains_ok = 1 ∧
      ∀ h, h < 4 → t.fsr.phase[h]? = some (t.phaseFires h)) ∧
    (s.wtb.mainsCand = none → completes (.mainsCrossing input τ vrms) s fun t => t = { s with wtb := { s.wtb with mainsCand := some τ } })) ∧
  (∀ input last, s.rd 0 F.WTB_STATUS_mains_ok = 1 → s.wtb.mainsLast = some last → input = s.wtb.mainsSrc ∨ input = s.rd 0 F.WTB_MAINS_CFG_src →
    let n := (rdiv ((τ : Int) - last) (max 1 s.wtb.mainsPeriod)).toNat
    let k := if input = s.wtb.mainsSrc then max 1 n else n
    let q := if k = 0 then s.wtb.mainsPeriod else (τ - last) / k
    let near := 50 * ((τ : Int) - (last + k * s.wtb.mainsPeriod)).natAbs ≤ s.wtb.mainsPeriod ∧ 15384615 ≤ q ∧ q ≤ 22222222
    (near → completes (.mainsCrossing input τ vrms) s fun t =>
      t.rd 0 F.WTB_STATUS_mains_ok = 1 ∧ t.wtb.mainsLast = some τ ∧ t.wtb.mainsPeriod = q ∧ t.wtb.mainsSrc = input ∧
      t.rd 0 F.FSR_MAINS_VRMS_vrms = satN F.FSR_MAINS_VRMS_vrms.width vrms ∧
      (s.fsr.second = true → ∀ h, h < 4 → t.fsr.phase[h]? = some (t.phaseFires h))) ∧
    (¬near → completes (.mainsCrossing input τ vrms) s fun t =>
      t.rd 0 F.WTB_MAINS_REJ_rej_cnt = satN 20 (s.rd 0 F.WTB_MAINS_REJ_rej_cnt + 1) ∧ onlyRegs s t ∧
      regsKept s t 0 [F.WTB_MAINS_REJ_rej_cnt])) ∧
  (s.rd 0 F.WTB_STATUS_mains_ok = 1 →
    (s.wtb.mainsLast.getD 0 + 2 * s.wtb.mainsPeriod ≤ s.now → completes .mainsLoss s fun t =>
      t.rd 0 F.WTB_STATUS_mains_ok = 0 ∧ t.rd 0 F.WTB_STATUS_mains_loss_s = 1 ∧ t.wtb.mainsLast = none ∧ t.rd 0 F.FSR_STATUS_mains_ok = 0) ∧
    (s.now < s.wtb.mainsLast.getD 0 + 2 * s.wtb.mainsPeriod → completes .mainsLoss s fun t => t = s))

/-- Position broadcasts: a slot puts the last update on every link with the next sequence number; an arrival takes it up, corrects the replica
and never moves it back unless it is loaded directly; between arrivals the replica advances by its velocity (R51, R53).
The die links: a class-1 flit that fails its CRC is lost and never replayed, any other replay is reported to the hub's collector; a link
loss makes the station's replica invalid, blanks its later sweeps and is an F-class fault of the station and of the hub; the station finds it when
no broadcast has arrived for its timeout (R32, R33, R54).
Model's own choices it touches: log entries 15, 16, 17, 32. -/
def Obligations.DieLinks : Prop :=
  (∀ s : State,
   (completes .positionBroadcast s fun t =>
     t.wtb.seq = (s.wtb.seq + 1) % 256 ∧ t.wtb.presetBit = false ∧ t = { s with wtb := t.wtb, links := t.links } ∧
     ∀ n, s.hasStn n = true → n < s.links.length →
       (s.dieLinkRuns n = false → t.link n = s.link n) ∧
       (s.dieLinkRuns n = true → ∃ b, (t.link n).flit = some b ∧ b.pos = s.pos ∧ b.vel = s.vel ∧ b.seq = s.wtb.seq ∧
         b.valid = s.wtb.valid ∧ b.preset = s.wtb.presetBit)) ∧
   (∀ n, (s.link n).flit = none → completes (.broadcastArrival n) s fun t => t = s) ∧
   (∀ n b, (s.link n).flit = some b → b.vel < 1048576 → completes (.broadcastArrival n) s fun t =>
     (t.link n).flit = none ∧ (t.link n).lastSeq = b.seq ∧ (t.link n).lost = false ∧ (t.link n).blank = (!b.valid || b.reverse) ∧
     t.rd n F.CUE_REP_VEL_rep_vel = b.vel ∧ t.rd n F.CUE_REP_STATUS_rep_ok = b2n b.valid ∧
     t.rd n F.CUE_REP_STATUS_reverse = b2n b.reverse ∧
     (∀ m, m ≠ n → t.link m = s.link m) ∧
     (b.preset = false → b.synth = false → (s.link n).loadNext = false →
       (t.link n).rep = (s.link n).rep ∨ (t.link n).rep = (b.pos * tickParts + b.vel * s.rd n F.CUE_REP_LAT_lat) % replicaRing ∧
         0 ≤ replicaDiff (t.link n).rep (s.link n).rep) ∧
     ((b.preset || b.synth || (s.link n).loadNext) = true →
       (t.link n).rep = (b.pos * tickParts + b.vel * s.rd n F.CUE_REP_LAT_lat) % replicaRing)) ∧
   (∀ n, s.rd n F.CUE_REP_STATUS_rep_ok = 0 → completes (.replicaAdvance n) s fun t =>
     t.links = s.links.modify n fun l => { l with clock := (t.link n).clock }) ∧
   (∀ n, s.hasStn n = true → n < s.links.length → s.rd n F.CUE_REP_STATUS_rep_ok = 1 → completes (.replicaAdvance n) s fun t =>
     (t.link n).target = ((s.link n).target + s.rd n F.CUE_REP_VEL_rep_vel * 640) % replicaRing ∧
     ((t.link n).rep = (s.link n).rep ∨ (t.link n).rep = (t.link n).target ∧ 0 ≤ replicaDiff (t.link n).rep (s.link n).rep) ∧
     (∀ m, m ≠ n → t.link m = s.link m)) ∧
   (∀ n v, s.hasStn n = true → completes (.cohTolWrite n v) s fun t =>
     t.rd n F.CUE_REP_COH_TOL_coh_tol = v % 2 ^ F.CUE_REP_COH_TOL_coh_tol.width ∧ t.rd n F.CUE_REP_ERR_MAX_err_max = 0 ∧ onlyRegs s t ∧
     regsKept s t n [F.CUE_REP_COH_TOL_coh_tol, F.CUE_REP_ERR_MAX_err_max])) ∧
  (∀ (s : State) (n : Nat), s.hasStn n = true → n < s.links.length →
   (completes (.flitCrcFail n 1) s fun t => (t.link n).flit = none ∧ t = { s with links := t.links } ∧ ∀ m, m ≠ n → t.link m = s.link m) ∧
   (∀ cls, cls ≠ 1 → completes (.flitCrcFail n cls) s fun t =>
     (s.shadowed (.replay n) = false → reportsOnly s t 0 19 .c []) ∧
     (s.shadowed (.replay n) = true → t.rd 0 (F.FLT_SHADOWED_shadowed 19) = satN (F.FLT_SHADOWED_shadowed 19).width (s.rd 0 (F.FLT_SHADOWED_shadowed 19) + 1) ∧
       t.flt.inbox = s.flt.inbox)) ∧
   (∀ c : Instr, ((s.link n).lost = false ∧ (s.link n).lastArrival + s.linkTimeout n ≤ s.now ∧ c = .linkLoss n) ∨
       ((s.link n).hubLost = false ∧ c = .hubLinkLoss n) → completes c s fun t =>
     (c = .linkLoss n → (t.link n).lost = true) ∧ (c = .hubLinkLoss n → (t.link n).hubLost = true) ∧
     ((s.link n).lost = true ∨ (s.link n).hubLost = true → t = { s with links := t.links }) ∧
     ((s.link n).lost = false → (s.link n).hubLost = false →
       t.rd n F.CUE_REP_STATUS_rep_ok = 0 ∧ t.rd n F.CUE_STATUS_tb_valid = 0 ∧ t.rd n F.CUE_REP_STATUS_cal_done = 0 ∧
       (t.link n).blank = true ∧ ∃ l, t.flt.inbox = s.flt.inbox ++ l ∧ l.map (fun r => (r.die, r.cls)) = [(n, .f), (0, .f)])) ∧
   ((s.link n).lost = true ∨ s.now < (s.link n).lastArrival + s.linkTimeout n → completes (.linkLoss n) s fun t => t = s) ∧
   ((s.link n).hubLost = true → completes (.hubLinkLoss n) s fun t => t = s))
/-- CUE_ISSUE takes the due list that stands first and sends the actions of its head, with its chain, to their targets: each joins the issued
actions in order and carries the list it came from (R61, R62, R70, R71).
Heads and stops: a head of a host list that is idle or halted is taken, anything else is refused with write_reject and leaves every list as
it was; a stop of a host list waits for the next update (R78, R79).
Model's own choices it touches: log entries 25, 28, 29, 30, 199, 200, 201, 202, 203. -/
def Obligations.CueLists : Prop :=
  (∀ (s : State) (d j inst : Nat), d < s.cues.length → s.nextDue d = some (j, inst) →
   (4 ≤ j ∨ s.frmCues d j ≠ []) → completes (.cueIssue d) s fun t =>
     (∃ new, (t.cue d).issued = (s.cue d).issued ++ new ∧ new ≠ [] ∧ (∀ x ∈ new, x.list = j) ∧
       (new.length = if j < 4 then ((s.frmCues d j).takeWhile fun c => some c.tick == (s.frmCues d j).head?.map (·.tick)).length
         else (s.cueUnit d 64 (s.listHead d j)).1.length) ∧
       (4 ≤ j → new.map (fun x => (x.entry, x.action, x.arg)) =
         (s.cueUnit d 64 (s.listHead d j)).1.map fun k => (k, (s.cueEntry d k).action, (s.cueEntry d k).arg))) ∧
     (∀ e, e ≠ d → t.cue e = s.cue e) ∧ t.wtb = s.wtb ∧ t.frm = s.frm ∧ t.links = s.links) ∧
  (∀ (s : State) (d : Nat), s.nextDue d = none → completes (.cueIssue d) s fun t => t = s) ∧
  (∀ (s : State) (d j v : Nat), s.hasDie d = true → d < s.cues.length → j < 16 →
   (completes (.listHeadWrite d j v) s fun t =>
     (4 ≤ j → 1024 ≤ v % 4096 → (s.listIdle d j = true ∨ s.listHalted d j = true) →
       t.listHead d j = v % 4096 ∧ t.listIdle d j = (v % 4096 == cueEnd) ∧ t.listHalted d j = false ∧
       t = { s with regs := t.regs, cues := t.cues }) ∧
     (j < 4 ∨ v % 4096 < 1024 ∨ s.listIdle d j = false ∧ s.listHalted d j = false →
       t.rd d F.CUE_STATUS_write_reject = 1 ∧ t.cues = s.cues ∧ reportsOnly s t d (fltPos d .cue) .c [F.CUE_STATUS_write_reject])) ∧
   (completes (.listStop d j) s fun t =>
     (4 ≤ j → j < (s.cue d).lists.length → (t.cueList d j).stopPend = true ∧ t = { s with cues := t.cues }) ∧
     (j < 4 → t.rd d F.CUE_STATUS_write_reject = 1 ∧ t.cues = s.cues ∧ reportsOnly s t d (fltPos d .cue) .c [F.CUE_STATUS_write_reject])))

/-- The actions that a cue engine carries out itself: NOP does nothing, EVENT makes a kind-1 record and the cue-event interrupt of the die,
SAMPLE latches position and velocity of the die's timebase, LIST_CTRL enables, disables or stops a list. Each leaves the issued actions by
itself alone; where no such action has been issued, or its instant has not come, nothing happens (R63, R66, R79).
Model's own choices it touches: log entry 95. -/
def Obligations.CueActions : Prop := ∀ (s : State) (d : Nat) (i : Issued), d < s.cues.length → d < 8 →
  (∀ q ∈ [(Instr.nop d, fun (x : Issued) => x.action == 0), (.event d, fun x => x.action == 5), (.sample d, fun x => x.action == 0x0A),
      (.regOp d, fun x => x.action == 4), (.listCtrlDisable d, isListCtrl 0), (.listCtrlEnable d, isListCtrl 1), (.listCtrlStop d, isListCtrl 2)],
    s.issuedAction d q.2 = none → completes q.1 s fun t => t = s) ∧
  (s.issuedAction d (fun x => x.action == 0) = some i → completes (.nop d) s fun t => t = s.doneAction d i) ∧
  (s.issuedAction d (fun x => x.action == 5) = some i → s.evr.frozen = false →
    (s.evr.queue.any fun e => decide (e.kind = 1 ∧ e.ident = d * 0x20000 + i.arg % 65536)) = false → s.evr.queue.length < 64 →
    completes (.event d) s fun t =>
      (∃ r, t.evr.queue = s.evr.queue ++ [r] ∧ r.kind = 1 ∧ r.ident = d * 0x20000 + i.arg % 65536 ∧ r.at40 = s.pos ∧ r.rep = 0) ∧
      (t.rd 0 (F.HIF_IRQ_PEND_pend 0)).testBit (8 + d) = true ∧ t.cues = (s.doneAction d i).cues ∧
      t = { s with regs := t.regs, evr := t.evr, hif := t.hif, cues := t.cues } ∧
      regsKept s t 0 [F.EVR_STATUS_q_level, F.HIF_IRQ_PEND_pend 0]) ∧
  (s.issuedAction d (fun x => x.action == 0x0A) = some i → completes (.sample d) s fun t =>
    t.rd40 d P.CUE_SAMPLE_POS = s.tbTick d % 1099511627776 ∧ t.rd d F.CUE_SAMPLE_VEL_sample_vel = s.tbVel d ∧
    t = { s.doneAction d i with regs := t.regs } ∧
    regsKept s t d [⟨P.CUE_SAMPLE_POS, 19, 0⟩, ⟨P.CUE_SAMPLE_POS + 4, 19, 0⟩, F.CUE_SAMPLE_VEL_sample_vel]) ∧
  (s.issuedAction d (isListCtrl 0) = some i → completes (.listCtrlDisable d) s fun t =>
    t.rd d (F.CUE_LIST_CFG_enable (i.arg % 16)) = 0 ∧ t = { s.doneAction d i with regs := t.regs } ∧
    regsKept s t d [F.CUE_LIST_CFG_enable (i.arg % 16)]) ∧
  (s.issuedAction d (isListCtrl 1) = some i → completes (.listCtrlEnable d) s fun t =>
    t.rd d (F.CUE_LIST_CFG_enable (i.arg % 16)) = 1 ∧ t = { s.doneAction d i with regs := t.regs } ∧
    regsKept s t d [F.CUE_LIST_CFG_enable (i.arg % 16)]) ∧
  (s.issuedAction d (isListCtrl 2) = some i → i.arg % 16 < (s.cue d).lists.length → completes (.listCtrlStop d) s fun t =>
    (t.cueList d (i.arg % 16)).stopPend = true ∧ t = { s with cues := t.cues } ∧ ∀ e, e ≠ d → t.cue e = s.cue e)

/-- The edit commands: a read shows the entry without changing any, a write takes the result code of the lowest check that applies and stores
the entry only with code 0, a link changes the next field alone (R60, R76, R77).
A REG_OP onto a register of its die replaces it, sets bits of it or clears bits of it, as the operation of its write-table slot says; here
for the backlog limit of WTB and for a target that REG_OP may not reach, which is refused (R64).
Model's own choices it touches: log entry 27. -/
def Obligations.CueRegisters : Prop :=
  (∀ (s : State) (d : Nat), s.hasDie d = true → d < s.cues.length →
   (completes (.editRead d) s fun t =>
     (let i := s.rd d F.CUE_EDIT_IDX_idx
      let e := if i = cueEnd then CueEntry.zero else s.cueEntry d i
      t.rd d (F.CUE_EDIT_W_word 0) = e.w0 % 0x100000 ∧ t.rd d (F.CUE_EDIT_W_word 1) = e.w1 % 0x100000 ∧
      t.rd d (F.CUE_EDIT_W_word 2) = e.w2 % 0x100000 ∧ t.rd d (F.CUE_EDIT_W_word 3) = e.w3 % 0x100000) ∧
     t.rd d F.CUE_EDIT_RESULT_result = 0 ∧ t.cues = s.cues) ∧
   (completes (.editWrite d) s fun t =>
     let i := s.rd d F.CUE_EDIT_IDX_idx
     let r := s.editCheck d i (s.editEntry d)
     t.rd d F.CUE_EDIT_RESULT_result = r ∧
     (r = 0 → t.cueEntry d i = s.editEntry d ∧ (∀ k, k ≠ i → t.cueEntry d k = s.cueEntry d k) ∧ (∀ e, e ≠ d → t.cue e = s.cue e) ∧
       (s.memClean d 1 → t = { s with regs := t.regs, cues := t.cues } ∧ regsKept s t d [F.CUE_EDIT_RESULT_result])) ∧
     (r ≠ 0 → t.cues = s.cues ∧ t.rd d F.CUE_STATUS_write_reject = 1 ∧
       reportsOnly s t d (fltPos d .cue) .c [F.CUE_EDIT_RESULT_result, F.CUE_STATUS_write_reject])) ∧
   (s.rd d F.CUE_EDIT_IDX_idx < 1024 ∨ (s.editEntry d).next < 1024 ∨ s.rd d F.CUE_EDIT_IDX_idx = cueEnd → completes (.editLink d) s fun t =>
     t.rd d F.CUE_EDIT_RESULT_result = (if s.rd d F.CUE_EDIT_IDX_idx < 1024 ∨ (s.editEntry d).next < 1024 then 2 else 3) ∧
     t.rd d F.CUE_STATUS_write_reject = 1 ∧ t.cues = s.cues ∧
     reportsOnly s t d (fltPos d .cue) .c [F.CUE_EDIT_RESULT_result, F.CUE_STATUS_write_reject]) ∧
   (1024 ≤ s.rd d F.CUE_EDIT_IDX_idx → s.rd d F.CUE_EDIT_IDX_idx ≠ cueEnd → 1024 ≤ (s.editEntry d).next → completes (.editLink d) s fun t =>
     let i := s.rd d F.CUE_EDIT_IDX_idx
     (t.cueEntry d i).next = (s.editEntry d).next ∧ (t.cueEntry d i).action = (s.cueEntry d i).action ∧
     (t.cueEntry d i).w1 = (s.cueEntry d i).w1 ∧ (t.cueEntry d i).w2 = (s.cueEntry d i).w2 ∧ (t.cueEntry d i).w3 = (s.cueEntry d i).w3 ∧
     (∀ k, k ≠ i → t.cueEntry d k = s.cueEntry d k) ∧
     t.rd d F.CUE_EDIT_RESULT_result =
       (if (List.range' 4 12).any fun j => s.listIdle d j && s.rd d (F.CUE_LIST_LAST_last j) == i then 4 else 0))) ∧
  (∀ (s : State) (d : Nat) (i : Issued), s.issuedAction d (fun x => x.action == 4) = some i →
   (d = 0 → 4 * s.rd 0 (F.CUE_WTAB_ADDR_word_off (i.arg % 256)) = F.WTB_HYST_web_hyst.off →
     completes (.regOp d) s fun t =>
       let data := s.rd 0 (F.CUE_WTAB_DATA_data (i.arg % 256))
       (s.rd 0 (F.CUE_WTAB_ADDR_op (i.arg % 256)) = 0 → t.rd 0 F.WTB_HYST_web_hyst = data % 16) ∧
       (s.rd 0 (F.CUE_WTAB_ADDR_op (i.arg % 256)) = 1 → t.rd 0 F.WTB_HYST_web_hyst = (s.rd 0 F.WTB_HYST_web_hyst ||| data % 16)) ∧
       (s.rd 0 (F.CUE_WTAB_ADDR_op (i.arg % 256)) = 2 →
         t.rd 0 F.WTB_HYST_web_hyst = s.rd 0 F.WTB_HYST_web_hyst - (s.rd 0 F.WTB_HYST_web_hyst &&& data % 16)) ∧
       t.wtb = s.wtb ∧ t.frm = s.frm) ∧
   (regOpBarred d (4 * s.rd d (F.CUE_WTAB_ADDR_word_off (i.arg % 256))) = true → s.rd d (F.CUE_WTAB_ADDR_op (i.arg % 256)) ≠ 3 →
     completes (.regOp d) s fun t => t.rd d F.CUE_STATUS_write_reject = 1 ∧ reportsOne s t d (fltPos d .cue) .c ∧
       (s.promotes d (fltPos d .cue) = false → regsKept s t d [F.CUE_STATUS_write_reject])) ∧
   (s.rd d (F.CUE_WTAB_ADDR_op (i.arg % 256)) = 3 → completes (.regOp d) s fun t => t = s.doneAction d i))

/-- Frames in progress: a FRAME_START begins the frame of its slot on the hub, and on a station its lines may be written; FRAME_END on a station ends
its writing; the close on list 1 of the hub retires the frame; TICK_STAMPED_APPLY carries out the first tick-stamped action whose instant has come
as the action's own command does (R36, R66, R83, R84, R104, R106).
BANK_SWITCH: a die with the switch armed, and no grid running, makes the armed bank active at once; a station with a running grid waits
for its boundary, which without lock is a target tick whose instant may be resolved already; a die without it keeps its active bank and reports the miss (R97, R98,
R100, R154).
Model's own choices it touches: log entries 77, 87, 88, 95, 165, 169. -/
def Obligations.FrameActions : Prop :=
  (∀ (s : State) (d : Nat),
   (∀ q ∈ [(Instr.tickStampedApply d, fun (x : Issued) => x.tick.isSome), (.frameStart d, fun x => x.action == 1),
       (.frameEnd d, fun x => x.action == 2 && !isClose x), (.bankSwitch d, fun x => x.action == 3)],
     s.issuedAction d q.2 = none → completes q.1 s fun t => t = s) ∧
   (s.issuedAction 0 isClose = none → completes .frameClose s fun t => t = s) ∧
   ∀ i : Issued, s.issuedAction d (fun x => x.tick.isSome) = some i →
     ∀ q ∈ [(Instr.frameStart d, fun (x : Issued) => x.action == 1), (.frameEnd d, fun x => x.action == 2 && !isClose x),
         (.bankSwitch d, fun x => x.action == 3)] ++
         (if d = 0 then [(.frameClose, isClose), (.markWindowOpen, isMark true), (.markWindowClose, isMark false)] else []),
       s.issuedAction d q.2 = some i → completes (.tickStampedApply d) s fun t => exec q.1 s = .next t) ∧
  (∀ (s : State) (d : Nat) (i : Issued),
   (s.frameAt i.arg = none →
     ∀ q ∈ [(Instr.frameStart d, fun (x : Issued) => x.action == 1), (.frameEnd d, fun x => x.action == 2 && !isClose x)],
       s.issuedAction d q.2 = some i → completes q.1 s fun t => t = s.doneAction d i) ∧
   ∀ f : Frame, s.frameAt i.arg = some f →
   (s.issuedAction d (fun x => x.action == 1) = some i → completes (.frameStart d) s fun t =>
     (∃ f', f' ∈ t.frm.frames ∧ f'.id = f.id ∧ f'.started = true ∧ (d = 0 → f'.onHub = true)) ∧
     t.frm.frames.map (·.id) = s.frm.frames.map (·.id) ∧
     (d ≠ 0 → ∀ y, y ∈ (s.rin d).frames → y.id = f.id → ∃ y', y' ∈ (t.rin d).frames ∧ y'.id = f.id ∧ y'.cued = true)) ∧
   (s.issuedAction d (fun x => x.action == 2 && !isClose x) = some i →
     (d = 0 → completes (.frameEnd d) s fun t => t = s.doneAction d i) ∧
     ∀ y, d ≠ 0 → y ∈ (s.rin d).frames → y.id = f.id →
       completes (.frameEnd d) s fun t => ∃ y', y' ∈ (t.rin d).frames ∧ y'.id = f.id ∧ y'.ending = true) ∧
   (s.issuedAction 0 isClose = some i → completes .frameClose s fun t =>
     f.id ∉ t.frm.frames.map (·.id) ∧ ∀ g ∈ s.frm.frames, g.id ≠ f.id → g.id ∈ t.frm.frames.map (·.id))) ∧
  (∀ (s : State) (d : Nat) (i : Issued), d < s.cues.length →
   s.issuedAction d (fun x => x.action == 3) = some i →
   let armed := s.rd d F.CUE_BANK_STATUS_armed = 1 ∧ s.rd d F.CUE_BANK_STATUS_armed_sw = i.arg % 256
   let grid := d ≠ 0 ∧ s.scRuns d = true
   let passed := s.scState d ≠ scLocked ∧ (s.switchTarget d i.arg).any (fun p => (s.webDue d p).isSome) = true
   (armed → (grid → passed) → completes (.bankSwitch d) s fun t =>
     t.rd d F.CUE_BANK_STATUS_armed = 0 ∧ t.rd d F.CUE_BANK_STATUS_active_sw = i.arg % 256 ∧ (t.cue d).swDone = some (i.arg % 256) ∧
     (t.cue d).missed = none ∧ (t.cue d).swPend = none) ∧
   (armed → grid → ¬passed → completes (.bankSwitch d) s fun t =>
     (t.cue d).swPend = some i.arg ∧ t = { s with cues := t.cues, scns := t.scns }) ∧
   (¬armed → completes (.bankSwitch d) s fun t =>
     (t.cue d).missed = some (i.arg % 256) ∧ t.rd d F.CUE_BANK_STATUS_bank_miss_s = 1 ∧ t.rd 0 F.FRM_STATUS_bank_miss_s = 1 ∧
     reportsOne s t 0 5 .u ∧ (s.promotes 0 5 = false → t = { s with regs := t.regs, cues := t.cues, flt := t.flt } ∧
       t.rd d F.CUE_BANK_STATUS_active_sw = s.rd d F.CUE_BANK_STATUS_active_sw)))

/-- Actions on the hub's outputs and mark windows: a heater in cue mode that nothing holds off follows HEATER_ON and HEATER_OFF, and no other
heater changes; an OUTPUT pulses the output it names from its instant; a mark window opens on the sensor of the frame that expects it, or as a
diagnostic one from a host list, and its close ends it (R63, R244, R245, R246, R284, R424, R426).
Model's own choices it touches: log entries 82, 95, 182. -/
def Obligations.OutputCues : Prop := ∀ (s : State) (i : Issued),
  (∀ q ∈ [(Instr.heaterOn, fun (x : Issued) => x.action == 9 && x.arg.testBit 4), (.heaterOff, fun x => x.action == 9 && !x.arg.testBit 4),
      (.output, fun x => x.action == 8), (.markWindowOpen, isMark true), (.markWindowClose, isMark false)],
    s.issuedAction 0 q.2 = none → completes q.1 s fun t => t = s) ∧
  (∀ h, h < 4 → h < s.fsr.out.length → s.heaterMode h = 3 → i.arg.testBit h = true →
    (s.issuedAction 0 (fun x => x.action == 9 && x.arg.testBit 4) = some i → s.heaterHeld h = false → completes .heaterOn s fun t =>
      t.fsr.out[h]? = some true ∧ t = { s with regs := t.regs, fsr := t.fsr, cues := t.cues } ∧
      (∀ k, i.arg.testBit k = false → t.fsr.out[k]? = s.fsr.out[k]?) ∧ regsKept s t 0 [F.FSR_CUE_IGN_CNT_ign]) ∧
    (s.issuedAction 0 (fun x => x.action == 9 && x.arg.testBit 4) = some i → s.heaterHeld h = true → completes .heaterOn s fun t =>
      t.fsr.out[h]? = some false) ∧
    (s.issuedAction 0 (fun x => x.action == 9 && !x.arg.testBit 4) = some i → completes .heaterOff s fun t =>
      t.fsr.out[h]? = some false ∧ t = { s with regs := t.regs, fsr := t.fsr, cues := t.cues } ∧
      (∀ k, i.arg.testBit k = false → t.fsr.out[k]? = s.fsr.out[k]?) ∧ regsKept s t 0 [F.FSR_CUE_IGN_CNT_ign])) ∧
  (∀ inst, s.issuedAction 0 (fun x => x.action == 8) = some i → s.actInstant 0 i = some inst → s.ports.outs.length = 6 → completes .output s fun t =>
    (i.arg % 4 = 0 → t.outEnd 0 = some (inst + max 1 (s.rd 0 F.ISP_TRIG_W_trig_w) * 1000)) ∧
    (i.arg % 4 = 1 → t.outEnd 1 = some (inst + max 1 (s.rd 0 F.ISP_TRIG_W_trig_w) * 1000)) ∧
    (i.arg % 4 = 2 → t.outEnd 3 = some (inst + max 1 (s.rd 0 F.FIN_MARK_W_mark_w) * 1000)) ∧
    t = { s with cues := t.cues, ports := t.ports }) ∧
  (s.issuedAction 0 (isMark true) = some i → s.windowOf (i.arg % 8) = none →
    (∀ g, i.list < 4 → (s.rgc.expected.find? fun g => g.sensor == i.arg % 8) = some g → s.memClean 0 6 → completes .markWindowOpen s fun t =>
      t.rgc = { s.rgc with expected := s.rgc.expected.erase g,
                           wins := s.rgc.wins ++ [⟨i.arg % 8, some g, [], s.rd 0 F.WTB_STATUS_tb_ok == 0⟩] } ∧
      t = { s with cues := t.cues, rgc := t.rgc }) ∧
    (4 ≤ i.list → completes .markWindowOpen s fun t =>
      t.rgc = { s.rgc with wins := s.rgc.wins ++ [⟨i.arg % 8, none, [], s.rd 0 F.WTB_STATUS_tb_ok == 0⟩] } ∧
      t = { s with cues := t.cues, rgc := t.rgc })) ∧
  (∀ w, s.issuedAction 0 (isMark false) = some i → s.windowOf (i.arg % 8) = some w →
    ((∃ g, w.geo = some g ∧ i.list < 4 ∧ i.tick = some g.closeTick) ∨ (w.geo = none ∧ 4 ≤ i.list)) → completes .markWindowClose s fun t =>
      t.rgc.wins = s.rgc.wins.filter fun v => decide (v.sensor ≠ w.sensor))

/-- SUBMIT takes the checks of R88 in order: with code 0 the frame joins the admitted frames behind the others with the next serial, any other code
is shown and counted and nothing else changes; a frame that opens a job opens a switch for every present die (R85, R87, R88, R94, R97).
Model's own choices it touches: log entries 83, 89, 94, 164, 181, 204, 205. -/
def Obligations.Admission : Prop := ∀ s : State,
  let d := s.desc
  let f := s.frameOf d
  completes .submit s fun t =>
    (s.admission d f = 0 →
      t.frm.frames = s.frm.frames ++ [f] ∧ t.rd 0 F.FRM_ADMIT_STATUS_result = 0 ∧
      t.rd 0 F.FRM_ADMIT_SERIAL_serial = s.rd 0 F.FRM_NEXT_SERIAL_next_serial ∧ t.rd40 0 P.FRM_ADMIT_START = s.startOf d % 1099511627776 ∧
      t.rd 0 F.FRM_NEXT_SERIAL_next_serial = (s.rd 0 F.FRM_NEXT_SERIAL_next_serial + 1) % 1048576 ∧
      t.rd 0 F.FRM_ADMIT_CNT_admit_cnt = (s.rd 0 F.FRM_ADMIT_CNT_admit_cnt + 1) % 1048576 ∧
      t.frm.nextId = s.frm.nextId + 1 ∧ (f.sw = none → t.frm.switches = s.frm.switches) ∧
      (∀ k, f.sw = some k → t.rd 0 F.FRM_SW_STATUS_next_sw = (k + 1) % 256 ∧ ∃ w, t.frm.switches = s.frm.switches ++ [w] ∧ w.num = k ∧ w.pos = s.switchPos f ∧
        w.dies = s.dies)) ∧
    (s.admission d f ≠ 0 →
      t.rd 0 F.FRM_ADMIT_STATUS_result = s.admission d f ∧
      t.rd 0 F.FRM_REFUSE_CNT_refuse_cnt = satN F.FRM_REFUSE_CNT_refuse_cnt.width (s.rd 0 F.FRM_REFUSE_CNT_refuse_cnt + 1) ∧
      t.frm = s.frm ∧ t.cues = s.cues ∧ t.rins = s.rins ∧
      (s.memSound 0 2 → s.memSound 0 3 → onlyRegs s t ∧ regsKept s t 0 [F.FRM_ADMIT_STATUS_result, F.FRM_REFUSE_CNT_refuse_cnt,
        F.RIN_ADMIT_DIAG_stn, F.RIN_ADMIT_DIAG_reason, F.RIN_ADMIT_DIAG_rset])) ∧
    (s.rd 0 F.FRM_CTRL_admit_en = 0 → t.rd 0 F.FRM_ADMIT_STATUS_result = 1) ∧
    (s.rd 0 F.FRM_CTRL_admit_en = 1 → s.rd 0 F.WTB_STATUS_tb_ok = 0 → t.rd 0 F.FRM_ADMIT_STATUS_result = 2)

/-- Frames leave the book: a withdrawal takes the last frame back if it has not started and its earliest issue point is still ahead, and never
changes a frame that stays; pop_done takes the oldest record and lets waiting ones follow, or counts an empty pop; at zero speed in a stop every
frame in progress is retired (R104 to R106, R108).
Arms and completions: an arm copies the whole staged bank of its die and no other, a die that has switched reports, a late arm applies at once where no grid runs, and the switch is done
when the last die has (R93, R94, R98, R100).
Model's own choices it touches: log entries 91, 92, 93, 94. -/
def Obligations.FrameBook : Prop :=
  (∀ s : State,
   (completes .withdraw s fun t =>
     (∀ g ∈ t.frm.frames, g ∈ s.frm.frames) ∧
     (∀ f, s.frm.frames.getLast? = some f → f.started = false →
       posAhead (s.issuePoint f.start f.mask) (posAdd s.pos (s.admitLead f.addr : Nat)) = true → f.id ∉ t.frm.frames.map (·.id)) ∧
     (∀ f, s.frm.frames.getLast? = some f → f.started = true → t = s)) ∧
   (completes .popDone s fun t =>
     (s.frm.fifo = [] → t.rd 0 F.FRM_POP_EMPTY_CNT_pop_empty = satN F.FRM_POP_EMPTY_CNT_pop_empty.width (s.rd 0 F.FRM_POP_EMPTY_CNT_pop_empty + 1) ∧
       onlyRegs s t ∧ regsKept s t 0 [F.FRM_POP_EMPTY_CNT_pop_empty]) ∧
     (∀ r l, s.frm.fifo = r :: l →
       t.frm.fifo = l ++ (s.frm.waiting.take (64 - l.length)).map doneRec ∧ t.frm.waiting = s.frm.waiting.drop (64 - l.length) ∧
       t.frm.frames = s.frm.frames ∧ (s.memClean 0 2 → t = { s with regs := t.regs, frm := t.frm, hif := t.hif }))) ∧
   ((s.rd 0 F.FRM_STATUS_stopping = 1 ∨ 2 ≤ s.rd 0 F.THM_PSTATUS_phase) → s.vel = 0 → completes .retireAtZeroSpeed s fun t =>
     ∀ g, g ∈ t.frm.frames ↔ g ∈ s.frm.frames ∧ g.id ∉ s.framesInProgress) ∧
   (s.rd 0 F.FRM_STATUS_stopping = 0 → s.rd 0 F.THM_PSTATUS_phase < 2 ∨ s.vel ≠ 0 → completes .retireAtZeroSpeed s fun t => t = s)) ∧
  (∀ (s : State) (d k : Nat), d < s.cues.length →
   ((s.cue d).armQ.head? = some k → s.rd d F.CUE_BANK_STATUS_armed = 0 → (s.cue d).swDone = none → s.hasDie d = true →
     (s.cue d).missed ≠ some k → completes (.arm d) s fun t =>
       t.rd d F.CUE_BANK_STATUS_armed = 1 ∧ t.rd d F.CUE_BANK_STATUS_armed_sw = k % 256 ∧ (t.cue d).armQ = (s.cue d).armQ.tail ∧
       t.rd 0 F.FRM_STATUS_armed = 1 ∧
       (∀ f : Fld, f.off < 0x100000 → (d ≠ 0 → f.off ≠ F.SCN_JOB_addr.off) → t.rdArmed d f = s.rdStaged d f) ∧
       (∀ e (f : Fld), f.off < 0x100000 → e ≠ d → t.rdArmed e f = s.rdArmed e f)) ∧
   ((s.cue d).armQ.head? = none ∨ s.rd d F.CUE_BANK_STATUS_armed = 1 ∨ (s.cue d).swDone ≠ none ∨ s.hasDie d = false →
     completes (.arm d) s fun t => t = s) ∧
   ((s.cue d).armQ.head? = some k → s.rd d F.CUE_BANK_STATUS_armed = 0 → (s.cue d).swDone = none → s.hasDie d = true → k < 256 →
     (s.cue d).missed = some k → d = 0 ∨ s.scRuns d = false → completes (.arm d) s fun t =>
       t.rd d F.CUE_BANK_STATUS_armed = 0 ∧ t.rd d F.CUE_BANK_STATUS_active_sw = k ∧ (t.cue d).swDone = some k ∧ (t.cue d).missed = none) ∧
   ((s.cue d).swDone = none → completes (.switchCompletion d) s fun t => t = s) ∧
   ((s.cue d).swDone = some k → completes (.switchCompletion d) s fun t =>
     (t.cue d).swDone = none ∧ (∀ w ∈ t.frm.switches, w.num = k → d ∉ w.dies) ∧
     (∀ w ∈ s.frm.switches, w.num = k → w.dies = [d] → t.rd 0 F.FRM_SW_STATUS_done_sw = k % 256 ∧ ∀ x ∈ t.frm.switches, x.num ≠ k) ∧
     t = { s with regs := t.regs, cues := t.cues, frm := t.frm, hif := t.hif }))

/-- Raster-set descriptors: a read shows the entry that the index names and changes none; a write takes the result code of the lowest check that
applies, stores the entry only with code 0, and is refused with write_reject otherwise (R114, R115).
Model's own choices it touches: log entry 6. -/
def Obligations.Descriptors : Prop := ∀ (s : State) (n : Nat), s.hasStn n = true → n < s.rins.length →
  (completes (.descRead n) s fun t =>
    let i := s.rd n F.RIN_DESC_IDX_idx
    (∀ w, w < 8 → t.rd n (F.RIN_DESC_W_word w) = (s.rdesc n i).getD w 0 % 0x100000) ∧ t.rd n F.RIN_DESC_RESULT_result = 0 ∧
    t.rins = s.rins ∧ t.rsets = s.rsets ∧
    (s.memSound n 2 → onlyRegs s t ∧ regsKept s t n (F.RIN_DESC_RESULT_result :: (List.range 8).map F.RIN_DESC_W_word))) ∧
  (completes (.descWrite n) s fun t =>
    let i := s.rd n F.RIN_DESC_IDX_idx
    let e : RDesc := (List.range 8).map fun w => s.rd n (F.RIN_DESC_W_word w)
    let r := s.descCheck n i e
    t.rd n F.RIN_DESC_RESULT_result = r ∧
    (r = 0 → t.rdesc n i = e ∧ (∀ k, k ≠ i → t.rdesc n k = s.rdesc n k) ∧ (t.rin n).sealedSets = (s.rin n).sealedSets ∧
      (∀ f, (s.mem n).flip = some (2, f) → t.rd n F.MEM_STATUS_flip_done_s = 1 ∧ (t.mem n).flip = none) ∧
      (s.memSound n 2 → t = { s with regs := t.regs, mems := t.mems, rins := t.rins } ∧
        regsKept s t n [F.RIN_DESC_RESULT_result, F.MEM_STATUS_armed, F.MEM_STATUS_flip_done_s])) ∧
    (r ≠ 0 → t.rd n F.RIN_STATUS_write_reject = 1 ∧ t.rins = s.rins ∧
      (s.memSound n 2 → reportsOnly s t n 1 .c [F.RIN_DESC_RESULT_result, F.RIN_STATUS_write_reject])) ∧
    ((s.rin n).sealedSets.contains i = true → r = 1) ∧ ∀ m, m ≠ n → t.rin m = s.rin m)

/-- Seal and unseal: every station with an entry for the set seals it and binds its stream context with its values at zero, and the result is 2
until all have acknowledged; an unseal is refused while an admitted frame names the set, else it opens the set everywhere and unbinds its
contexts, and the hub's mirror of every station holds the table and the values from the seal on (R116, R118, R122, R131).
Model's own choices it touches: log entries 39, 206. -/
def Obligations.Seals : Prop := ∀ (s : State) (r : Nat), r < 256 → s.nStn ≤ 7 → s.nStn < s.rins.length →
  (completes (.seal r) s fun t =>
    (t.rd 0 F.RIN_RSET_RESULT_result = if (s.stns.any fun n => decide ((s.rdesc n r).mode ≠ 3)) then 2 else 0) ∧
    t.rsets.sealedSets.contains r = true ∧
    (∀ n, s.hasStn n = true → (s.rdesc n r).mode ≠ 3 → (t.rin n).sealedSets.contains r = true) ∧
    (∀ n, s.hasStn n = true → (s.rdesc n r).mode = 0 → (s.rin n).sealedSets.contains r = false →
      let c := (s.rdesc n r).ctx
      t.rd n (F.RIN_CTX_STATE_kind c) = 1 ∧ t.rd n (F.RIN_CTX_STATE_rset c) = r ∧ t.rd n (F.RIN_CTX_COMMIT_commit c) = 0 ∧
      t.rd n (F.RIN_CTX_REL_release c) = 0 ∧ t.rd n (F.RIN_CTX_NEXT_next c) = 0 ∧ ∀ f ∈ (t.rin n).frames, f.ctx = c → f.mode ≠ 0 ∧ f.mode ≠ 2) ∧
    (∀ n, (s.rdesc n r).mode = 3 → t.rin n = s.rin n) ∧ (∀ n k, t.rdesc n k = s.rdesc n k) ∧
    (∀ n, s.hasStn n = true → n < s.mirrors.length → (t.mirror n).desc = (t.rin n).desc ∧ (t.mirror n).sealedSets = (t.rin n).sealedSets ∧
      (t.mirror n).ctx = (List.range 8).map fun c =>
        (t.rd n (F.RIN_CTX_COMMIT_commit c), t.rd n (F.RIN_CTX_REL_release c), t.rd n (F.RIN_CTX_NEXT_next c))) ∧
    (s.memClean 0 2 → s.memClean 0 3 → (∀ n ∈ s.stns, s.memClean n 2) →
      t = { s with regs := t.regs, rins := t.rins, rsets := t.rsets, mirrors := t.mirrors })) ∧
  (s.rsets.pend = none → completes .sealAcknowledged s fun t => t = s) ∧
  (s.rsets.pend.isSome = true → completes .sealAcknowledged s fun t =>
    t.rsets = { s.rsets with pend := none } ∧ t.rd 0 F.RIN_RSET_RESULT_result = 0 ∧ t = { s with regs := t.regs, rsets := t.rsets } ∧
    regsKept s t 0 [F.RIN_RSET_RESULT_result]) ∧
  (completes (.unseal r) s fun t =>
    (s.useCount r ≠ 0 → t.rd 0 F.RIN_RSET_RESULT_result = 1 ∧ t.rd 0 F.RIN_HSTATUS_write_reject = 1 ∧ t.rsets = s.rsets ∧ t.rins = s.rins ∧
      (s.memSound 0 3 → reportsOnly s t 0 6 .c [F.RIN_RSET_RESULT_result, F.RIN_HSTATUS_write_reject])) ∧
    (s.useCount r = 0 → t.rd 0 F.RIN_RSET_RESULT_result = 0 ∧ t.rsets.sealedSets.contains r = false ∧
      (∀ n, s.hasStn n = true → (t.rin n).sealedSets.contains r = false ∧
        ((s.rin n).sealedSets.contains r = true → ((s.rdesc n r).mode = 0 ∨ (s.rdesc n r).mode = 2) →
          t.rd n (F.RIN_CTX_STATE_kind (s.rdesc n r).ctx) = 0)) ∧
      (∀ n k, k ≠ r → (t.rin n).sealedSets.contains k = (s.rin n).sealedSets.contains k) ∧
      (s.memClean 0 3 → (∀ n ∈ s.stns, s.memClean n 2) → t = { s with regs := t.regs, rins := t.rins, rsets := t.rsets })))

/-- Commits and the BAR2 windows: a commit of an unbound context, or past the room of its set, is refused, one that is not ahead changes nothing,
any other of a line stream moves the commit number; a BAR2 access without a window is dropped and counted, a write into a protected region is
discarded and counted, a whole code word written to the hub's memory is stored, and a read returns what is stored (R118, R119, R122, R128).
Model's own choices it touches: log entries 35, 40, 42, 43, 45, 207. -/
def Obligations.StreamsAndWindows : Prop := ∀ s : State,
  (∀ n c v, s.hasStn n = true → c < 8 → v < 0x100000 → completes (.commitWrite n c v) s fun t =>
    let e := s.rdesc n (s.rd n (F.RIN_CTX_STATE_rset c))
    let ahead := seqDiff v (s.rd n (F.RIN_CTX_COMMIT_commit c))
    let kind := s.rd n (F.RIN_CTX_STATE_kind c)
    let room : Int := if kind = 2 then (e.pslots : Nat) else (e.lines : Nat)
    (kind ≠ 0 → ahead ≤ 0 → t.rd n (F.RIN_CTX_COMMIT_commit c) = s.rd n (F.RIN_CTX_COMMIT_commit c) ∧ t.rins = s.rins ∧
      (s.memSound n 2 → t = s)) ∧
    ((kind = 0 ∨ 0 < ahead ∧ room < seqDiff v (s.rd n (F.RIN_CTX_REL_release c))) →
      t.rd n F.RIN_STATUS_write_reject = 1 ∧ t.rins = s.rins ∧ (s.memSound n 2 → reportsOnly s t n 1 .c [F.RIN_STATUS_write_reject])) ∧
    (kind = 1 → 0 < ahead → seqDiff v (s.rd n (F.RIN_CTX_REL_release c)) ≤ room →
      t.rd n (F.RIN_CTX_COMMIT_commit c) = v ∧ (t.rin n).frames = (s.rin n).frames ∧ (∀ m, m ≠ n → t.rin m = s.rin m) ∧
      (n < s.mirrors.length → (t.mirror n).ctx = (s.mirror n).ctx.modify c fun x => (v, x.2)) ∧
      t.rd n F.RIN_LATE_CNT_late_cnt =
        (if s.lateLines n c (s.rd n (F.RIN_CTX_COMMIT_commit c)) v ≠ [] then satN 20 (s.rd n F.RIN_LATE_CNT_late_cnt + 1)
        else s.rd n F.RIN_LATE_CNT_late_cnt))) ∧
  (s.boot.phase = .released → ∀ a, s.bar2Target a = none →
    (∀ len, completes (.bar2Read a len) s fun t =>
      t.hostPath.data = List.replicate len 0 ∧ t.rd 0 F.RIN_BAR2_DROP_CNT_drop_cnt = satN 20 (s.rd 0 F.RIN_BAR2_DROP_CNT_drop_cnt + 1) ∧
      t = { s with regs := t.regs, hostPath := { s.hostPath with data := List.replicate len 0 } } ∧
      regsKept s t 0 [F.RIN_BAR2_DROP_CNT_drop_cnt, F.RIN_HSTATUS_bar2_drop_s]) ∧
    (∀ bytes, completes (.bar2Write a bytes) s fun t =>
      t.rd 0 F.RIN_BAR2_DROP_CNT_drop_cnt = satN 20 (s.rd 0 F.RIN_BAR2_DROP_CNT_drop_cnt + 1) ∧
      t.rd 0 F.RIN_HSTATUS_bar2_drop_s = 1 ∧ onlyRegs s t ∧
      regsKept s t 0 [F.RIN_BAR2_DROP_CNT_drop_cnt, F.RIN_HSTATUS_bar2_drop_s])) ∧
  (∀ a d x len, s.bar2Target a = some (d, x) → s.hostHeld d = false → x + len ≤ bufSize d → (s.mem d).merge = [] →
    (∀ w ∈ wordsOf x len, s.memErr d 0 w = 0) → completes (.bar2Read a len) s fun t =>
      t = { s with hostPath := { s.hostPath with data := (List.range' x len).map fun y => s.bufByte d y } }) ∧
  (∀ a x (bytes : List Nat), s.bar2Target a = some (0, x) → s.hostHeld 0 = false → x % 10 = 0 → x + 10 ≤ bufSize 0 → bytes.length = 10 →
    (∀ b ∈ bytes, b < 256) → (s.mem 0).merge = [] → 0 < s.mems.length → completes (.bar2Write a bytes) s fun t =>
      (∀ y, t.bufByte 0 y = if x ≤ y ∧ y < x + 10 then bytes.getD (y - x) 0 else s.bufByte 0 y) ∧
      t = { s with regs := t.regs, mems := t.mems } ∧ regsKept s t 0 [F.MEM_STATUS_armed, F.MEM_STATUS_flip_done_s]) ∧
  (∀ a n x (bytes : List Nat) q, s.bar2Target a = some (n, x) → n ≠ 0 → s.hostHeld n = false → bytes ≠ [] →
    x + bytes.length ≤ bufSize n → q ∈ s.guarded n → q.1 ≤ x → x + bytes.length ≤ q.1 + q.2 → completes (.bar2Write a bytes) s fun t =>
      t.rd n F.RIN_DROP_CNT_drop_cnt = satN 20 (s.rd n F.RIN_DROP_CNT_drop_cnt + 1) ∧ t.rd n F.RIN_STATUS_drop_s = 1 ∧
      (∀ y, t.bufByte n y = s.bufByte n y) ∧
      (s.memSound n 2 → reportsOnly s t n 1 .c [F.RIN_DROP_CNT_drop_cnt, F.RIN_STATUS_drop_s])) ∧
  (∀ n, (s.rin n).tiles.find? (fun x => s.tileFree n x) = none → completes (.patchTilePlacement n) s fun t => t = s) ∧
  (∀ n tl, (s.rin n).tiles.find? (fun x => s.tileFree n x) = some tl → n < s.rins.length → (s.mem n).merge = [] → (s.mem n).flip = none →
    completes (.patchTilePlacement n) s fun t =>
      (t.rin n).tiles = (s.rin n).tiles.erase tl ∧
      t.rd n (F.XFR_CH_DONE_CNT_done_cnt 7) = (s.rd n (F.XFR_CH_DONE_CNT_done_cnt 7) + 1) % 2 ^ (F.XFR_CH_DONE_CNT_done_cnt 7).width ∧
      (((s.rin n).tiles.erase tl).any (fun x => x.ctx == tl.ctx && x.group == tl.group) = false → tl.ctx < 8 →
        t.rd n (F.RIN_CTX_REL_release tl.ctx) = (tl.group + 1) % 0x100000) ∧
      (((s.rin n).tiles.erase tl).any (fun x => x.ctx == tl.ctx && x.group == tl.group) = true → tl.ctx < 8 →
        t.rd n (F.RIN_CTX_REL_release tl.ctx) = s.rd n (F.RIN_CTX_REL_release tl.ctx)) ∧
      let e := s.rdesc n tl.rset
      ∀ y, s.memErr n 0 (y / 10) = 0 → (∀ j, j < tl.h → y < e.base + (tl.y0 + j) * e.stride + tl.x0 * e.bpp / 8 ∨
          e.base + (tl.y0 + j) * e.stride + tl.x0 * e.bpp / 8 + tl.w * e.bpp / 8 ≤ y) → t.bufByte n y = s.bufByte n y) ∧
  (∀ n, s.hasStn n = true → n < s.mirrors.length → completes (.mirrorUpdate n) s fun t =>
    t.mirror n = s.mirrorOf n ∧ (∀ m, m ≠ n → t.mirror m = s.mirror m) ∧
    (s.memClean 0 2 → t = { s with mirrors := t.mirrors, regs := t.regs, xfrs := t.xfrs }) ∧
    (∀ c, c < 32 → s.xRuns 0 c = true → XDesc.paced (s.xch 0 c).desc = true → s.xRequest 0 c = true → t.xRequest 0 c = false →
      t.xState 0 c = 2 ∧ (∀ b, (s.xch 0 c).burst = some b → b.dropped = false →
        t.rd 0 (F.XFR_CH_REQ_DROP_req_drop c) = satN 20 (s.rd 0 (F.XFR_CH_REQ_DROP_req_drop c) + 1))) ∧
    (s.memClean 0 2 → regsKept s t 0 ((List.range 32).flatMap fun c =>
      [F.XFR_CH_STATUS_state c, F.XFR_CH_STATUS_halt_cause c, pairBit P.XFR_HALT c, F.XFR_CH_REQ_DROP_req_drop c])))

/-- Memory integrity: the oldest entry of the merge buffers goes into its code word, a poisoned word where a partial entry meets an uncorrectable
one; a scrubber reads the next word no sooner than its turn, counts and corrects a single-bit error; a flip is armed while FRM does not run and none
is armed, and is disarmed at any time (R362, R363, R365 to R368).
Model's own choices it touches: log entries 8, 35, 36, 213. -/
def Obligations.MemoryIntegrity : Prop := ∀ (s : State) (d : Nat), d < s.mems.length →
  (∀ x rest, (s.mem d).merge = x :: rest → s.now < x.at_ + 64 → completes (.mergeFlush d) s fun t => t = s) ∧
  ((s.mem d).merge = [] → completes (.mergeFlush d) s fun t => t = s) ∧
  (∀ x rest, (s.mem d).merge = x :: rest → x.at_ + 64 ≤ s.now → (∀ b ∈ x.bytes, b.1 < 10) → completes (.mergeFlush d) s fun t =>
    (t.mem d).merge = rest.filter (fun y => decide (y.mem ≠ x.mem ∨ y.word ≠ x.word)) ∧
    (∀ a, x.mem ≠ 0 ∨ a / 10 ≠ x.word → t.bufByte d a = s.bufByte d a) ∧
    (x.mem = 0 → (x.bytes.map (·.1)).Nodup → ∀ b ∈ x.bytes, t.bufByte d (10 * x.word + b.1) = b.2 % 256) ∧
    (x.mem < 7 → eccClass (s.memErr d x.mem x.word) = .uncorrectable → x.bytes.length ≠ (if x.mem = 0 then 10 else 4) → (s.mem d).flip = none →
      x.mem < (s.mem d).errs.length → t.memErr d x.mem x.word = poisonMask ∧
      t.rd d (F.MEM_M_UE_CNT_ue_cnt x.mem) = satN 20 (s.rd d (F.MEM_M_UE_CNT_ue_cnt x.mem) + 1) ∧
      t.rd d (F.MEM_M_STATUS_merge_ue_s x.mem) = 1) ∧
    ((s.mem d).flip = none → x.mem < (s.mem d).errs.length → x.bytes.length = (if x.mem = 0 then 10 else 4) → x.poison = false →
      t.memErr d x.mem x.word = 0) ∧
    ∀ e, e ≠ d → t.mem e = s.mem e) ∧
  (∀ m up last, s.boot.phase ≠ .released → completes (.scrubRead d m up last) s fun t => t = s) ∧
  (∀ m up last, s.now < s.scrubTime d m → completes (.scrubRead d m up last) s fun t => t = s) ∧
  (∀ m i, s.boot.phase = .released → s.hasDie d = true → m < 7 → i < 88 → s.scrubTime d m ≤ s.now →
    (if ((s.mem d).scrub.getD m (0, 0)).1 = 0 then s.rd d (F.MEM_M_SCRUB_scrub_period m) else (s.mem d).pass.getD m 0) ≠ 0 →
    m < (s.mem d).scrub.length →
    m < (s.mem d).errs.length → s.memErr d m ((s.mem d).scrub.getD m (0, 0)).1 = 0 → (∀ x ∈ (s.mem d).merge, x.mem ≠ m) →
    (∀ k, memWords d m = some k → ((s.mem d).scrub.getD m (0, 0)).1 + 1 < k) → completes (.scrubRead d m (2 ^ i) false) s fun t =>
      let w := ((s.mem d).scrub.getD m (0, 0)).1
      ((t.mem d).scrub.getD m (0, 0)).1 = w + 1 ∧ t.memErr d m w = 0 ∧
      t.rd d (F.MEM_M_CE_CNT_ce_cnt m) = satN 20 (s.rd d (F.MEM_M_CE_CNT_ce_cnt m) + 1) ∧
      t.rd40 d (P.MEM_M_ADDR m) = w % 1099511627776 ∧ reportsOne s t d (fltPos d .mem) .c ∧
      (∀ e, e ≠ d → t.mem e = s.mem e) ∧ (s.promotes d (fltPos d .mem) = false → t = { s with regs := t.regs, mems := t.mems, flt := t.flt } ∧
      regsKept s t d [F.MEM_M_CE_CNT_ce_cnt m, F.MEM_M_STATUS_syndrome m, ⟨P.MEM_M_ADDR m, 19, 0⟩, ⟨P.MEM_M_ADDR m + 4, 19, 0⟩])) ∧
  (s.hasDie d = true → completes (.memArm d) s fun t =>
    (s.frmRuns = false → (s.mem d).flip = none →
      (s.on d F.MEM_FLIP_A_en && s.on d F.MEM_FLIP_B_en) = false ∨ s.rd d F.MEM_FLIP_A_mem = 0 →
      t.rd d F.MEM_STATUS_armed = 1 ∧ t.mem d = { s.mem d with flip := some (s.rd d F.MEM_FLIP_A_mem,
        flipBit (s.on d F.MEM_FLIP_A_en) (s.rd d F.MEM_FLIP_A_bit) ^^^ flipBit (s.on d F.MEM_FLIP_B_en) (s.rd d F.MEM_FLIP_B_bit)) } ∧
      t = { s with regs := t.regs, mems := t.mems } ∧ regsKept s t d [F.MEM_STATUS_armed]) ∧
    ((s.frmRuns = true ∨ (s.mem d).flip.isSome = true ∨ (s.on d F.MEM_FLIP_A_en && s.on d F.MEM_FLIP_B_en) = true ∧ s.rd d F.MEM_FLIP_A_mem ≠ 0) →
      t.rd d F.MEM_STATUS_write_reject = 1 ∧ reportsOnly s t d (fltPos d .mem) .c [F.MEM_STATUS_write_reject])) ∧
  (s.hasDie d = true → completes (.memDisarm d) s fun t =>
    t.rd d F.MEM_STATUS_armed = 0 ∧ t.mem d = { s.mem d with flip := none } ∧ t = { s with regs := t.regs, mems := t.mems } ∧
    regsKept s t d [F.MEM_STATUS_armed])

/-- The commands of a transfer channel. A start takes the first descriptor and runs it, or halts on one that the channel refuses before a byte
moves; a resume of a halted channel goes on from the first byte not written; an abort ends in idle, once the burst in flight is over, with every
byte that was read written out. Channel 7 of
a station takes none of them (R135, R143, R145, R149).
Model's own choices it touches: log entries 37, 183, 184. -/
def Obligations.TransferChannels : Prop := ∀ (s : State) (d c : Nat), s.hasXch d c = true →
  let first := s.rd d (F.XFR_CH_DESC_first c)
  (∀ k : Instr, (k = .channelStart d c ∧ (d ≠ 0 ∧ c = 7 ∨ s.xRuns d c = true) ∨ k = .resume d c ∧ (d ≠ 0 ∧ c = 7 ∨ s.xState d c ≠ 3) ∨
      k = .abort d c ∧ d ≠ 0 ∧ c = 7) → completes k s fun t =>
    t.rd d (F.XFR_CH_STATUS_write_reject c) = 1 ∧ reportsOnly s t d (fltPos d .xfr) .c [F.XFR_CH_STATUS_write_reject c]) ∧
  (¬(d ≠ 0 ∧ c = 7) → c < (s.xfrs.getD d {}).chans.length →
    (s.xRuns d c = false → completes (.channelStart d c) s fun t =>
      t.rd d (F.XFR_CH_CUR_DESC_cur c) = first ∧ 
      t.xch d c = { desc := (s.fetchDesc d first).1, credit := (s.xch d c).credit, creditAt := (s.xch d c).creditAt } ∧ t.rd d (F.XFR_CH_HOLD_hold_lvl c) = 0 ∧
      (s.xdescBad d (s.fetchDesc d first).1 = false → t.xState d c = 1 ∧ t.rd d (F.XFR_CH_STATUS_halt_cause c) = 0) ∧
      (s.xdescBad d (s.fetchDesc d first).1 = true → t.xState d c = 3 ∧ t.rd d (F.XFR_CH_STATUS_halt_cause c) = 2 ∧
        t.rd d (pairBit P.XFR_HALT c) = 1 ∧ t.rd 0 ⟨0xE0020, 3, 3⟩ = 1 ∧
        ∃ r ∈ t.flt.inbox, r.die = d ∧ r.pos = fltPos d .xfr ∧ r.src = c ∧ r.cls = (if s.promotes d (fltPos d .xfr) then .f else .u))) ∧
    (s.xState d c = 3 → s.xdescBad d (s.xch d c).desc = true → completes (.resume d c) s fun t =>
      t.xState d c = 3 ∧ t.rd d (F.XFR_CH_STATUS_halt_cause c) = 2 ∧ t.xch d c = s.xch d c) ∧
    (s.xState d c = 3 → s.xdescBad d (s.xch d c).desc = false → completes (.resume d c) s fun t =>
      t.xState d c = 1 ∧ t.rd d (F.XFR_CH_STATUS_halt_cause c) = 0 ∧ t.rd d (pairBit P.XFR_HALT c) = 0 ∧
      t.xch d c = { s.xch d c with burst := none, read := (s.xch d c).written, hold := [] } ∧
      t = { s with regs := t.regs, xfrs := t.xfrs } ∧
      regsKept s t d [F.XFR_CH_STATUS_state c, F.XFR_CH_STATUS_halt_cause c, pairBit P.XFR_HALT c]) ∧
    (completes (.abort d c) s fun t =>
      (s.xState d c = 0 → t = s) ∧
      ((s.xState d c = 1 ∨ s.xState d c = 2) → (s.xch d c).burst.isSome = true →
        t.xch d c = { s.xch d c with aborting := true } ∧ t = { s with xfrs := t.xfrs }) ∧
      (s.xState d c ≠ 0 → (s.xState d c = 3 ∨ (s.xch d c).burst = none) →
        t.xState d c = 0 ∧ (t.xch d c).hold = [] ∧ (t.xch d c).burst = none ∧ t.rd d (F.XFR_CH_HOLD_hold_lvl c) = 0 ∧
        ((s.xch d c).hold = [] → t = { s with regs := t.regs, xfrs := t.xfrs } ∧
          regsKept s t d [F.XFR_CH_STATUS_state c, F.XFR_CH_STATUS_halt_cause c, pairBit P.XFR_HALT c, F.XFR_CH_HOLD_hold_lvl c]) ∧
        (s.xState d c ≠ 3 → 0 < XDesc.dstLen (s.xch d c).desc → (s.xch d c).hold.length ≤ 128 →
          (t.xch d c).written = (s.xch d c).written + (s.xch d c).hold.length))))

/-- Bursts: a running channel issues the next while its holding register has room and a paced descriptor's request is up; a completed burst enters
the holding register and whole destination beats leave it in order; a bus error reissues the burst up to retry_max times and then halts the channel;
a finished descriptor is counted and either chains or leaves the channel idle. A burst issues only where the channel wins its path, and spends
the credit of a reserved channel or the turn of a best-effort one (R134, R136 to R138, R140 to R143, R146).
Model's own choices it touches: log entries 127, 185, 239. -/
def Obligations.TransferBursts : Prop := ∀ (s : State) (d c : Nat), s.hasXch d c = true → c < (s.xfrs.getD d {}).chans.length →
  let x := s.xch d c
  let e : XDesc := x.desc
  (s.xRuns d c = true → x.burst = none → x.read < e.total → completes (.burstIssue d c) s fun t =>
    (e.paced = true → s.xRequest d c = false → t.xState d c = 2 ∧ t.xch d c = x) ∧
    ((e.paced = false ∨ s.xRequest d c = true) → x.hold.length + s.burstLen d c ≤ 128 → s.xWins d c = true →
      t.xState d c = 1 ∧ (t.xch d c).burst = some { start := x.read, len := s.burstLen d c, fails := 0, at_ := s.now } ∧
      (s.xRes d c ≠ 0 → t.xch d c = { x with burst := (t.xch d c).burst, credit := s.xCredit d c - 1000 * s.burstLen d c, creditAt := s.now }) ∧
      (s.xRes d c = 0 → t.xch d c = { x with burst := (t.xch d c).burst } ∧
        (t.xfrs.getD d {}).lastOf = (s.xPaths d c).foldl (fun l p => l.set (s.xRound d p c) c) (s.xfrs.getD d {}).lastOf)) ∧
    ((e.paced = false ∨ s.xRequest d c = true) → 128 < x.hold.length + s.burstLen d c ∨ s.xWins d c = false → t = s) ∧
    t = { s with regs := t.regs, xfrs := t.xfrs } ∧
    regsKept s t d [F.XFR_CH_STATUS_state c, F.XFR_CH_STATUS_halt_cause c, pairBit P.XFR_HALT c]) ∧
  (s.xRuns d c = false ∨ x.burst.isSome = true ∨ e.total ≤ x.read → completes (.burstIssue d c) s fun t => t = s) ∧
  (∀ b host, x.burst = some b → s.now < b.at_ →
    (completes (.burstCompletion d c host) s fun t => t = s) ∧ completes (.burstRetry d c) s fun t => t = s) ∧
  (∀ b host, x.burst = some b → b.at_ ≤ s.now → x.aborting = false → x.hold.length + b.len ≤ 128 → completes (.burstCompletion d c host) s fun t =>
    let k := (x.written + x.hold.length + b.len) / e.dstBeat * e.dstBeat - x.written
    (t.xch d c).burst = none ∧ (t.xch d c).read = b.start + b.len ∧ (t.xch d c).written = x.written + k ∧
    (t.xch d c).hold.length = x.hold.length + b.len - k ∧
    (e.srcSp = 0 → e.dstSp = 0 → host.length = b.len →
      (t.xch d c).sent.map Prod.fst = (List.range' x.written k).map e.dstAt ∧
      (t.xch d c).sent.map (fun p => p.2.1) = (x.hold.map Prod.fst ++ host.map (fun v => v % 256)).take k)) ∧
  (∀ b host, x.burst = some b → b.at_ ≤ s.now → x.aborting = true → completes (.burstCompletion d c host) s fun t =>
    (patchCh d c = false → t.xState d c = 0) ∧ (t.xch d c).burst = none ∧ (t.xch d c).hold = [] ∧ (t.xch d c).aborting = false ∧
    (x.hold.length + b.len ≤ 128 → (t.xch d c).written = x.written + x.hold.length + b.len)) ∧
  (∀ b, x.burst = some b → b.at_ ≤ s.now → x.aborting = true → completes (.burstRetry d c) s fun t =>
    (patchCh d c = false → t.xState d c = 0) ∧ (t.xch d c).burst = none ∧ (t.xch d c).hold = [] ∧ (t.xch d c).aborting = false) ∧
  (∀ b, x.burst = some b → b.at_ ≤ s.now → x.aborting = false → completes (.burstRetry d c) s fun t =>
    (b.fails < s.rd d (F.XFR_CH_CFG_retry_max c) →
      (t.xch d c) = { x with burst := some { b with fails := b.fails + 1, at_ := s.now + 1000 * max 1 (s.rd d F.XFR_CTRL_retry_gap) } } ∧
      t.rd d (F.XFR_CH_RETRY_CNT_retry_cnt c) = satN 20 (s.rd d (F.XFR_CH_RETRY_CNT_retry_cnt c) + 1) ∧
      t.rd d (F.XFR_CH_STATUS_retry_s c) = 1 ∧ reportsOne s t d (fltPos d .xfr) .c ∧
      (s.promotes d (fltPos d .xfr) = false → t = { s with regs := t.regs, xfrs := t.xfrs, flt := t.flt } ∧
        regsKept s t d [F.XFR_CH_RETRY_CNT_retry_cnt c, F.XFR_CH_STATUS_retry_s c])) ∧
    (s.rd d (F.XFR_CH_CFG_retry_max c) ≤ b.fails →
      (patchCh d c = false → t.xState d c = 3) ∧ t.rd d (F.XFR_CH_STATUS_halt_cause c) = 1 ∧ (t.xch d c).burst = none ∧ (t.xch d c).read = (t.xch d c).written ∧
      x.written ≤ (t.xch d c).written)) ∧
  (s.xRuns d c = true → x.burst = none → x.desc ≠ [] → e.total ≤ x.written → completes (.descriptorComplete d c) s fun t =>
    t.rd d (F.XFR_CH_DONE_CNT_done_cnt c) = (s.rd d (F.XFR_CH_DONE_CNT_done_cnt c) + 1) % 0x100000 ∧
    (2 ≤ e.doneAct → t.rd d (pairBit P.XFR_DONE c) = 1) ∧
    (e.chain = false → t.xState d c = 0) ∧
    (e.chain = true → e.next < 0x80000 → t.rd d (F.XFR_CH_CUR_DESC_cur c) = e.next ∧ (t.xState d c = 1 ∨ t.xState d c = 3)))

/-- Station descriptor memory and reservations: a read shows an entry, a write stores it unless a running channel executes it; a reservation, a
request selection or a limit that breaks a bound is refused and changes nothing (R19, R147, R150, R151).
Model's own choices it touches: log entry 6. -/
def Obligations.TransferTables : Prop := ∀ s : State,
  (∀ n, s.hasStn n = true → n < s.xfrs.length →
    (completes (.sdescRead n) s fun t =>
      (∀ w, w < 16 → t.rd n (F.XFR_SDESC_W_word w) =
        ((((s.xfrs.getD n {}).sdesc.lookup (s.rd n F.XFR_SDESC_IDX_idx)).getD (List.replicate 16 0)).getD w 0) % 0x100000) ∧
      t.rd n F.XFR_SDESC_RESULT_result = 0 ∧ t.xfrs = s.xfrs) ∧
    (completes (.sdescWrite n) s fun t =>
      let i := s.rd n F.XFR_SDESC_IDX_idx
      let busy := (List.range 7).any fun c => s.xRuns n c && s.rd n (F.XFR_CH_CUR_DESC_cur c) == i
      (busy = true → t.rd n F.XFR_SDESC_RESULT_result = 1 ∧ t.rd n F.XFR_STATUS_write_reject = 1 ∧
        reportsOnly s t n 2 .c [F.XFR_SDESC_RESULT_result, F.XFR_STATUS_write_reject]) ∧
      (busy = false → t.rd n F.XFR_SDESC_RESULT_result = 0 ∧
        (((t.xfrs.getD n {}).sdesc.lookup i).getD (List.replicate 16 0) = (List.range 16).map fun w => s.rd n (F.XFR_SDESC_W_word w)) ∧
        (∀ k, k ≠ i → (t.xfrs.getD n {}).sdesc.lookup k = (s.xfrs.getD n {}).sdesc.lookup k) ∧
        t = { s with regs := t.regs, mems := t.mems, xfrs := t.xfrs } ∧
        regsKept s t n [F.XFR_SDESC_RESULT_result, F.MEM_STATUS_armed, F.MEM_STATUS_flip_done_s]))) ∧
  (∀ c v, c < 32 → v < 16384 → v ≠ s.rd 0 (F.XFR_CH_RES_res_mbps c) → completes (.resMbpsWrite c v) s fun t =>
    let r := s.rd 0 (F.XFR_CH_CFG_req_sel c)
    let bad := s.xRuns 0 c || decide (s.rd 0 F.XFR_RES_LIMIT_res_limit < s.resSum c (fun _ => true) + v)
      || (r != 0 && decide (7000 < s.stnResSum c r + v))
    (bad = true → t.rd 0 (F.XFR_CH_STATUS_write_reject c) = 1 ∧ reportsOnly s t 0 7 .c [F.XFR_CH_STATUS_write_reject c]) ∧
    (bad = false → t.rd 0 (F.XFR_CH_RES_res_mbps c) = v ∧ t.rd 0 F.XFR_RES_SUM_res_sum = s.resSum c (fun _ => true) + v ∧
      (c < (s.xfrs.getD 0 {}).chans.length → t.xch 0 c = { s.xch 0 c with credit := s.xCredit 0 c, creditAt := s.now }) ∧ t = { s with regs := t.regs, xfrs := t.xfrs } ∧
      regsKept s t 0 [F.XFR_CH_RES_res_mbps c, F.XFR_RES_SUM_res_sum])) ∧
  (∀ c v, c < 32 → v < 64 → v ≠ s.rd 0 (F.XFR_CH_CFG_req_sel c) → completes (.reqSelWrite c v) s fun t =>
    let res := s.rd 0 (F.XFR_CH_RES_res_mbps c)
    let bad := s.xRuns 0 c || decide (57 ≤ v) || (v != 0 && decide (0 < res ∧ 7000 < s.stnResSum c v + res))
    (bad = true → t.rd 0 (F.XFR_CH_STATUS_write_reject c) = 1 ∧ reportsOnly s t 0 7 .c [F.XFR_CH_STATUS_write_reject c]) ∧
    (bad = false → t.rd 0 (F.XFR_CH_CFG_req_sel c) = v ∧ onlyRegs s t ∧ regsKept s t 0 [F.XFR_CH_CFG_req_sel c])) ∧
  (∀ v, v < 16384 → v ≠ s.rd 0 F.XFR_RES_LIMIT_res_limit → completes (.resLimitWrite v) s fun t =>
    let bad := ((List.range 32).any fun c => s.xRuns 0 c) || decide (v < s.rd 0 F.XFR_RES_SUM_res_sum)
    (bad = true → t.rd 0 F.XFR_STATUS_write_reject = 1 ∧ reportsOnly s t 0 7 .c [F.XFR_STATUS_write_reject]) ∧
    (bad = false → t.rd 0 F.XFR_RES_LIMIT_res_limit = v ∧ onlyRegs s t ∧ regsKept s t 0 [F.XFR_RES_LIMIT_res_limit]))

/-- The commands of a scanner: start takes an idle scanner with a drive to SPINUP with the addressability of the active bank and no grid, stop is
refused while FRM runs and else takes it to OFF, HALT is left by clear alone, and a scanner of a station that is not powered takes no command;
a SPINUP or SEARCH that lasts longer than spin_tmo halts with a U report; a ramp step moves the speed command, trim included, by at most the ramp
rate and never out of a mirror's pull, writes it to the polygon's channel, ends SPINUP of a polygon at rpm_min, and cuts a sweep that is written
where scan_ok falls (R156 to R158, R163, R170, R173, R404).
Model's own choices it touches: log entries 66, 67, 75, 76, 208, 209, 210, 211. -/
def Obligations.ScannerCommands : Prop := ∀ (s : State) (n : Nat), s.hasStn n = true → n < s.scns.length →
  (s.stnPowered n = false → ∀ o, ∀ c ∈ [Instr.scnStart n o, .scnStop n, .scnClear n], completes c s fun t => t = s) ∧
  (s.stnPowered n = true → ∀ o, completes (.scnStart n o) s fun t =>
    ((s.isPolygon n || s.isResonant n) = true → s.scState n = scOff →
      t.scState n = scSpinup ∧ t.rd n F.SCN_STATUS_cur_addr = s.rd n F.SCN_JOB_addr ∧ (t.scn n).grid = none ∧
      t.rd n F.SCN_STATUS_running = 0) ∧
    (((s.isPolygon n || s.isResonant n) = false ∨ s.scState n ≠ scOff) →
      t.rd n F.SCN_EVENT_write_reject = 1 ∧ reportsOnly s t n 3 .c [F.SCN_EVENT_write_reject])) ∧
  (s.stnPowered n = true → completes (.scnStop n) s fun t =>
    (s.frmRuns = true → t.rd n F.SCN_EVENT_write_reject = 1 ∧ reportsOnly s t n 3 .c [F.SCN_EVENT_write_reject]) ∧
    (s.frmRuns = false → s.scState n = scHalt → t = s) ∧
    (s.frmRuns = false → s.scState n ≠ scHalt → t.scState n = scOff ∧ (t.scn n).grid = none ∧ t.rd n F.SCN_STATUS_lock_ok = 0)) ∧
  (s.stnPowered n = true → completes (.scnClear n) s fun t =>
    (s.scState n = scHalt → t.scState n = scOff ∧ t = { s with regs := t.regs, scns := t.scns, ckss := t.ckss } ∧
      regsKept s t n [F.SCN_STATUS_state, F.SCN_STATUS_running, F.SCN_STATUS_lock_ok, F.CKS_PX_STATUS_locked, F.CKS_PX_STATUS_bypass,
        F.CKS_PX_STATUS_ramp]) ∧
    (s.scState n ≠ scHalt → t = s)) ∧
  (let late := (s.scState n = scSpinup ∨ s.scState n = scSearch) ∧ (s.scn n).spinAt + 1000000 * s.rd n F.SCN_SPIN_TMO_spin_tmo < s.now
   (¬late → completes (.spinTmo n) s fun t => t = s) ∧
   (late → completes (.spinTmo n) s fun t =>
     t.scState n = scHalt ∧ t.rd n F.SCN_EVENT_tmo_s = 1 ∧ t.frm = s.frm ∧
     ∃ r ∈ t.flt.inbox, r.die = n ∧ r.pos = 3 ∧ r.src = 2 ∧ r.cls = (if s.promotes n 3 then .f else .u) ∧
       (s.promotes n 3 = false → r.frames = []))) ∧
  ((s.cue n).swPend = none → completes (.polyRampStep n) s fun t =>
    (s.speedLimit n (s.scn n).cmd = (s.scn n).cmd → ((t.scn n).cmd - (s.scn n).cmd).natAbs ≤ s.rampStep10 n) ∧
    (scSpinup ≤ s.scState n → s.scState n ≤ scRelock → s.pull n ≤ 1000 → s.speedLimit n (t.scn n).cmd = (t.scn n).cmd) ∧
    (s.isPolygon n = true → (s.scn n).inSweep = true → s.rd n F.LSR_STATUS_scan_ok = 1 → (s.sweep n).blank = false →
      t.rd n F.SCN_STATUS_scan_ok = 0 → n < s.sweeps.length → (t.sweep n).cut = true ∧
        ∀ i ∈ (s.sweep n).owners, ∀ f ∈ t.frm.frames, f.id = i → f.flagged = true) ∧
    (s.isPolygon n = true →
      (8 * s.rpmMin n ≤ (s.rdS n (F.MDR_CH_SPEED_speed 4)).natAbs → t.rd n F.SCN_STATUS_scan_ok = 1) ∧
      ((s.rdS n (F.MDR_CH_SPEED_speed 4)).natAbs < 8 * s.rpmMin n → (s.scn n).intervals = [] → t.rd n F.SCN_STATUS_scan_ok = 0) ∧
      (s.scState n = scSpinup → t.scState n = if t.rd n F.SCN_STATUS_scan_ok = 1 then scSearch else scSpinup)) ∧
    (s.isPolygon n = true → scSpinup ≤ s.scState n → s.scState n ≤ scRelock →
      t.rd n (F.MDR_CH_REF_ref 4) = unsgn 20 (satS 20 (rdiv ((t.scn n).cmd * 8) 1000000))) ∧
    (s.scState n = scOff → (t.scn n).cmd = (s.scn n).cmd) ∧
    ((s.scn n).inSweep = false → t = { s with regs := t.regs, scns := t.scns, lsrs := t.lsrs }))

/-- Beam detect and mirror: an edge of BD0 in its window is the reference of the coming sweep, which starts sos_dly later; a missed one is counted
and flown over, up to bd_miss_n in a row, which lose the lock; BD1 gives the end-of-scan time or the index mark; a crossing of the mirror gives its
half-period, direction, speed and amplitude (R153, R157, R160 to R162, R164, R166, R198).
Model's own choices it touches: log entries 55, 68, 69, 71, 223, 224. -/
def Obligations.BeamDetect : Prop := ∀ (s : State) (n τ : Nat), s.hasStn n = true → n < s.scns.length →
  (s.isPolygon n = true → scSearch ≤ s.scState n → s.scState n < scHalt → (s.scn n).refAt = none → s.inWindow n τ = true →
    completes (.bd0Detection n τ) s fun t =>
      (t.scn n).bd0 = some τ ∧ (t.scn n).missRun = 0 ∧
      (scAcquire ≤ s.scState n → s.fidSignature n = false → s.fidIndex n = false →
        (t.scn n).refAt = some τ ∧ (t.scn n).startAt = τ + s.sosDelay n ∧ (t.scn n).facet = 0 ∧ t.rd n F.SCN_STATUS_fly = 0)) ∧
  (s.isPolygon n = true → scSearch ≤ s.scState n → s.scState n < scHalt → ((s.scn n).refAt.isSome = true ∨ s.inWindow n τ = false) →
    completes (.bd0Detection n τ) s fun t => t = s) ∧
  (s.isResonant n = true → scSearch ≤ s.scState n → s.scState n < scHalt → completes (.bd0Detection n τ) s fun t =>
    t = s.modScn n fun x => { x with bd0 := some τ }) ∧
  (∀ p, s.nextBd0 n = some p → s.isPolygon n = true → scSearch ≤ s.scState n → s.scState n < scHalt → (s.scn n).refAt = none →
    completes (.bdWindowClose n) s fun t =>
      (t.scn n).bd0 = some p ∧ t.rd n F.SCN_EVENT_bd_miss_s = 1 ∧ t.rd n F.SCN_BD_MISS_CNT_bd_miss = satN 20 (s.rd n F.SCN_BD_MISS_CNT_bd_miss + 1) ∧
      t.rd n F.SCN_FLY_CNT_fly = satN 20 (s.rd n F.SCN_FLY_CNT_fly + 1) ∧
      (s.scState n = scSearch → t.scState n = scSearch ∧ (t.scn n).intervals = []) ∧
      (scAcquire ≤ s.scState n →
        ((s.scn n).missRun + 1 < max 1 (s.rd n F.SCN_BD_bd_miss_n) → (t.scn n).missRun = (s.scn n).missRun + 1) ∧
        (max 1 (s.rd n F.SCN_BD_bd_miss_n) ≤ (s.scn n).missRun + 1 → t.scState n = scSearch ∧ (t.scn n).refAt = none))) ∧
  (s.isPolygon n = true → scSearch ≤ s.scState n → s.scState n < scHalt → (s.scn n).refAt.isSome = true →
    completes (.bdWindowClose n) s fun t => t = s) ∧
  (scSearch ≤ s.scState n → s.scState n < scHalt →
    (∀ b, (s.scn n).bd0 = some b → s.rd n F.SCN_CFG_bd1_use = 1 → s.isResonant n = false → (s.scn n).bd1At = none →
      completes (.bd1Detection n τ) s fun t => (t.scn n).bd1At = some τ ∧
        ((s.scn n).facetKnown = true → (t.scn n).bdToBd1.head? = some ((s.scn n).facet, τ - b)) ∧
        ((s.scn n).facetKnown = false → (t.scn n).bdToBd1 = (s.scn n).bdToBd1) ∧ t = { s with scns := t.scns }) ∧
    (s.rd n F.SCN_CFG_bd1_use = 2 → s.isPolygon n = true → completes (.bd1Detection n τ) s fun t =>
      t = s.modScn n fun x => { x with bd1Mark := true }) ∧
    (s.rd n F.SCN_CFG_bd1_use ≠ 1 → s.rd n F.SCN_CFG_bd1_use ≠ 2 → completes (.bd1Detection n τ) s fun t => t = s)) ∧
  (∀ rising amp, s.isResonant n = true → s.scState n ≠ scOff → s.scState n ≠ scHalt →
    completes (.pickupZeroCrossing n τ rising amp) s fun t =>
      (t.scn n).crossAt = some τ ∧ (t.scn n).halfPeriod = (match (s.scn n).crossAt with
        | some c => τ - c
        | none => 0) ∧
      t.rd n F.SCN_STATUS_dir = b2n (!rising) ∧ t.rd n F.SCN_AMP_amp = satN 20 amp ∧ t.rd n F.SCN_STATUS_scan_ok = b2n (decide (500 ≤ amp)) ∧
      (s.scState n = scSpinup → 500 ≤ amp → scSearch ≤ t.scState n) ∧ (s.scState n = scSpinup → amp < 500 → t.scState n = scSpinup))

/-- A sweep start, with no action of the cue engine due and no switch at its boundary: the sweep is in progress, the mean velocity is that since the last start,
a lock is lost where it leaves the range, is kept within the window, and begins after the run of acquisition; a sweep without lock is blank and flags the
frames it carries; the grid moves on by the lines of a sweep. A sweep end closes it, releases the lines behind it and lets frames go (R83, R125, R154,
R158, R165, R166, R186).
Model's own choices it touches: log entries 69, 70, 74, 76, 78, 79, 163, 211, 212, 225, 240. -/
def Obligations.Sweeps : Prop := ∀ (s : State) (n : Nat), s.hasStn n = true → n < s.scns.length → n < s.sweeps.length →
  (∀ g, (s.scn n).grid = some g → s.scRuns n = true → (s.scn n).refAt.isSome = true → (s.scn n).inSweep = false → (s.cue n).issued = [] →
    (s.cue n).swPend = none → completes (.sweepStart n) s fun t =>
      let inside := (s.sweepSpeed n).vInside n (s.curAddr n)
      let near := withinLine ((s.scn n).err.getD 0) (64 * s.lockWin n) (s.curAddr n)
      (t.scn n).inSweep = true ∧ (t.scn n).refAt = none ∧
      (∀ t₀ p₀, (s.scn n).lastStart = some (t₀, p₀) → (t.scn n).meanVel =
        (rdiv (replicaDiff (s.tbAt n (s.scn n).startAt) p₀) (max 1 ((s.scn n).startAt - t₀))).toNat) ∧
      (s.scState n = scLocked → inside = false → t.scState n = scAcquire ∧
        t.rd n F.SCN_LOCK_LOST_CNT_lost = satN 20 (s.rd n F.SCN_LOCK_LOST_CNT_lost + 1)) ∧
      (t.scState n ≠ scLocked → (t.sweep n).blank = true ∧ ∀ f ∈ t.frm.frames, f.id ∈ t.carriedFrames n → f.flagged = true) ∧
      (s.waitingFrames n = [] →
        (t.sweep n).base = g.target ∧ (t.sweep n).lines = g.lines ∧ (t.sweep n).addr = g.addr ∧
        (s.scState n = scLocked → inside = true → near = true → t.scState n = scLocked) ∧
        (s.scState n = scAcquire → (s.scn n).lockNext = true → inside = true → near = true → t.scState n = scLocked) ∧
        ((s.scn n).shift = 0 → (t.scn n).grid = some { g with target := gridAdd g.target ((g.lines * pitchOf g.addr : Nat) : Int) }))) ∧
  ((s.scRuns n = false ∨ (s.scn n).refAt = none ∨ (s.scn n).inSweep = true) → completes (.sweepStart n) s fun t => t = s) ∧
  ((s.scn n).inSweep = false → completes (.sweepEnd n) s fun t => t = s) ∧
  ((s.scn n).inSweep = true → (s.cue n).swPend = none → completes (.sweepEnd n) s fun t =>
    let w := s.sweep n
    let last := gridAdd w.base (((w.lines - 1) * pitchOf w.addr : Nat) : Int)
    (t.scn n).inSweep = false ∧
    (∀ f ∈ (s.rin n).frames, f.started = true → f.addr = w.addr → (f.lines : Int) ≤ f.lineAt w.base + w.lines →
      ∀ g ∈ t.frm.frames, g.id = f.id → g.offStn.testBit (n - 1) = true) ∧
    (∀ f, (s.rin n).frames = [f] → f.mode = 0 → f.addr = w.addr → f.ctx < 8 → 0 < f.lineAt last →
      let q := (f.seq0 + min f.lines (f.lineAt last - 1).toNat) % 0x100000
      t.rd n (F.RIN_CTX_REL_release f.ctx) =
        if 0 < seqDiff q (s.rd n (F.RIN_CTX_REL_release f.ctx)) then q else s.rd n (F.RIN_CTX_REL_release f.ctx)))

/-- Placement corrections: apply copies the shadow of the tables into use, at once where the scanner does not run and at a sweep start else, and is
refused where it would leave no steering; a correction is held to its limit with a report, and a limit that would leave no steering is refused.
The block of a station that is not powered takes no command (R179, R184, R185, R404).
Model's own choices it touches: log entry 46. -/
def Obligations.PlacementCorrections : Prop := ∀ (s : State) (n : Nat), s.hasStn n = true →
  (s.stnPowered n = false → ∀ v b, ∀ c ∈ [Instr.lplApply n, .regWebWrite n b v, .regLimWrite n v], completes c s fun t => t = s) ∧
  (s.stnPowered n = true → completes (.lplApply n) s fun t =>
    (s.steerBad n (s.limWeb n) (s.trimShadow n) = true →
      t.rd n F.LPL_STATUS_write_reject = 1 ∧ reportsOnly s t n 4 .c [F.LPL_STATUS_write_reject]) ∧
    (s.steerBad n (s.limWeb n) (s.trimShadow n) = false → s.rd n F.SCN_STATUS_running = 1 →
      t.rd n F.LPL_STATUS_apply_pend = 1 ∧ onlyRegs s t ∧ regsKept s t n [F.LPL_STATUS_apply_pend]) ∧
    (s.steerBad n (s.limWeb n) (s.trimShadow n) = false → s.rd n F.SCN_STATUS_running = 0 →
      t.rd n F.LPL_STATUS_apply_pend = 0 ∧
      (∀ f : Fld, 0xB0020 ≤ f.off ∧ f.off < 0xB0024 ∨ 0xB0080 ≤ f.off ∧ f.off < 0xB0200 ∨ 0xB0400 ≤ f.off ∧ f.off < 0xB1000 →
        t.rdUse n f = s.rd n f) ∧
      (∀ (e : Nat) (f : Fld), f.off < 0x100000 → e ≠ n → t.rdUse e f = s.rdUse e f) ∧
      (s.memClean n 5 → t = { s with regs := t.regs, inUse := t.inUse }))) ∧
  (s.stnPowered n = true → ∀ v, v < 0x100000 →
    (∀ scan, completes (.regWebWrite n scan v) s fun t =>
      let f := if scan then F.LPL_REG_SCAN_reg_scan else F.LPL_REG_WEB_reg_web
      let lim := if scan then s.rd n F.LPL_REG_LIM_lim_scan else s.limWeb n
      t.rdS n f = clampI (-(lim : Int)) lim (sgn 20 v) ∧
      (lim < (sgn 20 v).natAbs → t.rd n F.LPL_STATUS_reg_clamp_s = 1 ∧ reportsOnly s t n 4 .c [f, F.LPL_STATUS_reg_clamp_s]) ∧
      ((sgn 20 v).natAbs ≤ lim → onlyRegs s t ∧ regsKept s t n [f])) ∧
    (completes (.regLimWrite n v) s fun t =>
      t.rd n F.LPL_REG_LIM_lim_scan = v / 1024 ∧
      (s.steerBad n (256 * (v % 1024)) (s.trimUse n) = true →
        t.rd n F.LPL_REG_LIM_lim_web = s.rd n F.LPL_REG_LIM_lim_web ∧ t.rd n F.LPL_STATUS_write_reject = 1) ∧
      (s.steerBad n (256 * (v % 1024)) (s.trimUse n) = false → t.rd n F.LPL_REG_LIM_lim_web = v % 1024) ∧
      (s.rd n F.SCN_STATUS_running = 0 → (t.rdS n F.LPL_REG_WEB_reg_web).natAbs ≤ t.limWeb n ∧
        (t.rdS n F.LPL_REG_SCAN_reg_scan).natAbs ≤ t.rd n F.LPL_REG_LIM_lim_scan) ∧
      (s.rd n F.SCN_STATUS_running = 1 → t.rd n F.LPL_REG_WEB_reg_web = s.rd n F.LPL_REG_WEB_reg_web ∧
        t.rd n F.LPL_REG_SCAN_reg_scan = s.rd n F.LPL_REG_SCAN_reg_scan) ∧
      (s.promotes n 4 = false → onlyRegsAndReports s t ∧ diesKept s t n)))
/-- The pixel clock: a loss of lock puts the output on the edge generator, for the rest of the line in progress too, is counted and reported; a re-lock is
tried where the sweep carries no line, starts the dither from its seed, locks after no fewer than 256 reference cycles, leaves bypass and steps its
divider down, each step no shorter than 64 reference cycles, and fails where its end is less than 2 µs before the next sweep start; apply copies the shadow of the trims and
the linearisation table into use (R196, R204, R205, R208, R211, R214, R404).
Model's own choices it touches: log entries 50, 51, 52, 53, 214, 240. -/
def Obligations.PixelClock : Prop := ∀ (s : State) (n : Nat), s.hasStn n = true → n < s.ckss.length →
  (s.rd n F.CKS_PX_STATUS_locked = 0 → completes (.pixelPllLossOfLock n) s fun t => t = s) ∧
  (s.rd n F.CKS_PX_STATUS_locked = 1 → completes (.pixelPllLossOfLock n) s fun t =>
    t.rd n F.CKS_PX_STATUS_locked = 0 ∧ t.rd n F.CKS_PX_STATUS_bypass = 1 ∧ t.rd n F.CKS_PX_STATUS_ramp = 0 ∧
    t.rd n F.CKS_PX_STATUS_pll_lost_s = 1 ∧ t.rd n F.CKS_PX_LOST_CNT_lost_cnt = satN 20 (s.rd n F.CKS_PX_LOST_CNT_lost_cnt + 1) ∧
    (t.cks n).px = (if 2 ≤ (s.cks n).px then 1 else 0) ∧ (t.cks n).pxSince = s.now ∧ reportsOne s t n 5 .u ∧
    ((s.scn n).inSweep = true → n < s.sweeps.length → s.onBypass n = false →
      (t.sweep n).bypass = true ∧ t.rd n F.LPL_STATUS_bypass = 1) ∧
    (s.promotes n 5 = false →
      t = { s with regs := t.regs, ckss := t.ckss, sweeps := t.sweeps, lsrs := t.lsrs, flt := { s.flt with inbox := t.flt.inbox } } ∧
      ((s.scn n).inSweep = false ∨ s.onBypass n = true → t.sweeps = s.sweeps ∧ t.lsrs = s.lsrs) ∧
      regsKept s t n [F.CKS_PX_STATUS_locked, F.CKS_PX_STATUS_bypass, F.CKS_PX_STATUS_ramp, F.CKS_PX_STATUS_pll_lost_s,
        F.CKS_PX_LOST_CNT_lost_cnt, F.LPL_STATUS_bypass])) ∧
  (let free := s.rd n F.SCN_STATUS_running = 1 ∧ s.rd n F.CKS_PX_STATUS_locked = 0 ∧ (s.cks n).px = 0 ∧ (s.scn n).inSweep = true ∧ s.linesCarried n = []
   (¬free → completes (.relockAttempt n) s fun t => t = s) ∧
   (free → completes (.relockAttempt n) s fun t =>
      t.cks n = { s.cks n with px := 1, pxSince := s.now, lfsr := max 1 (s.rd n F.CKS_PX_SEED_seed), bw := 250 * 2 ^ s.rd n F.CKS_PX_CFG_bw_sel } ∧
      (s.rateOk n (s.cks n).fpx = true → t.rd n F.CKS_PX_PDIV_pdiv = lockDivider (s.cks n).fpx) ∧
      t = { s with regs := t.regs, ckss := t.ckss } ∧
      regsKept s t n [F.CKS_PX_PDIV_pdiv, F.CKS_PX_FW_HI_fw_int, F.CKS_PX_FW_LO_fw_frac])) ∧
  (completes (.lockAcquired n true) s fun t =>
    ((s.cks n).px = 1 → (s.cks n).pxSince + 10240 ≤ s.now →
      t.rd n F.CKS_PX_STATUS_locked = 1 ∧ t.rd n F.CKS_PX_STATUS_ramp = 1 ∧ t.rd n F.CKS_PX_STATUS_bypass = 0 ∧
      t.cks n = { s.cks n with px := 2, pxSince := s.now }) ∧
    ((s.cks n).px ≠ 1 ∨ s.now < (s.cks n).pxSince + 10240 → t = s) ∧ t = { s with regs := t.regs, ckss := t.ckss } ∧
    regsKept s t n [F.CKS_PX_STATUS_locked, F.CKS_PX_STATUS_ramp, F.CKS_PX_STATUS_bypass]) ∧
  (((s.cks n).px < 2 ∨ s.now < (s.cks n).pxSince + 2560) → completes (.dividerStep n true) s fun t => t = s) ∧
  (2 ≤ (s.cks n).px → (s.cks n).pxSince + 2560 ≤ s.now → completes (.dividerStep n true) s fun t =>
    let late := (s.scn n).refAt.isSome && decide ((s.scn n).startAt < 16 * s.now + 32000)
    ((s.cks n).px < 5 → t.cks n = { s.cks n with px := (s.cks n).px + 1, pxSince := s.now } ∧ t = { s with ckss := t.ckss }) ∧
    (5 ≤ (s.cks n).px → (t.cks n).px = 0 ∧ t.rd n F.CKS_PX_STATUS_ramp = 0) ∧
    (5 ≤ (s.cks n).px → late = false → onlyRegs { s with ckss := t.ckss } t ∧
      t.rd n F.CKS_PX_RELOCK_CNT_relock_cnt = satN 10 (s.rd n F.CKS_PX_RELOCK_CNT_relock_cnt + 1) ∧
      regsKept s t n [F.CKS_PX_STATUS_ramp, F.CKS_PX_RELOCK_CNT_relock_cnt]) ∧
    (5 ≤ (s.cks n).px → late = true → t.rd n F.CKS_PX_STATUS_bypass = 1 ∧ t.rd n F.CKS_PX_STATUS_locked = 0 ∧ reportsOne s t n 5 .c ∧
      t.rd n F.CKS_PX_RELOCK_CNT_fail_cnt = satN 10 (s.rd n F.CKS_PX_RELOCK_CNT_fail_cnt + 1) ∧
      (s.promotes n 5 = false → regsKept s t n [F.CKS_PX_STATUS_locked, F.CKS_PX_STATUS_bypass, F.CKS_PX_STATUS_ramp,
        F.CKS_PX_RELOCK_CNT_fail_cnt]))) ∧
  (s.stnPowered n = false → completes (.pxApply n) s fun t => t = s) ∧
  (s.stnPowered n = true → completes (.pxApply n) s fun t =>
    (s.rd n F.SCN_STATUS_running = 1 → (t.cks n) = { s.cks n with applyPend := true } ∧ t = { s with ckss := t.ckss }) ∧
    (s.rd n F.SCN_STATUS_running = 0 →
      (∀ f : Fld, 0x90140 ≤ f.off ∧ f.off < 0x90180 ∨ 0x90400 ≤ f.off ∧ f.off < 0x90800 → t.rdUse n f = s.rd n f) ∧
      t.rd40 n P.CKS_PX_LIN_SUM = t.linSum n % 1099511627776 ∧ (s.memClean n 5 → t = { s with regs := t.regs, inUse := t.inUse })))

/-- The fabric clocks: a loss on the hub, of lock or of the reference, puts it on bypass, marks it degraded, raises an F-class fault and makes every
station safe, at the end of its line where a sweep is in progress; a loss on a station cuts its sweep, makes it safe at once and takes its links with it;
a loss during a re-lock, or of the reference with no lock, sends the sequence back; a re-lock is tried 1 ms after the loss or the last one, leaves bypass at
16 times the final divider and steps down, and full rate ends the degraded state (R194, R208 to R210).
Model's own choices it touches: log entries 54, 56. -/
def Obligations.FabricClocks : Prop := ∀ s : State, 0 < s.ckss.length →
  (∀ c ∈ [Instr.systemPllLossOfLock, .refclkLoss 0], (c = .systemPllLossOfLock → (s.cks 0).sys < 2) → s.rd 0 F.CKS_SYS_STATUS_locked = 1 →
    completes c s fun t =>
      t.rd 0 F.CKS_SYS_STATUS_locked = 0 ∧ t.rd 0 F.CKS_SYS_STATUS_bypass = 1 ∧ t.rd 0 F.CUE_STATUS_degraded = 1 ∧
      (t.cks 0).stopPend = true ∧ (t.cks 0).since = s.now ∧ t.rd 0 ⟨F.FLT_F_ACTIVE_f_active.off, 18, 18⟩ = 1 ∧
      (∃ r ∈ t.flt.inbox, r.die = 0 ∧ r.pos = 18 ∧ r.cls = .f) ∧
      (c = .systemPllLossOfLock → t.rd 0 F.CKS_SYS_STATUS_lost_s = 1) ∧
      (c = .refclkLoss 0 → t.rd 0 F.CKS_SYS_STATUS_ref_lost_s = 1 ∧ (t.cks 0).osc = some (20000 + Config.free s.freeCtr % 10001)) ∧
      ∀ n ∈ s.stns, ((s.scn n).inSweep = false → t.rd n F.LSR_STATUS_lso = 1) ∧
        ((s.scn n).inSweep = true → (t.cks 0).lineEnd.contains n = true)) ∧
  (2 ≤ (s.cks 0).sys → completes .systemPllLossOfLock s fun t =>
    (t.cks 0).sys = 1 ∧ (t.cks 0).since = s.now ∧ t.rd 0 F.CKS_SYS_STATUS_locked = 0 ∧ t.rd 0 F.CKS_SYS_STATUS_bypass = 1 ∧
    t.rd 0 F.CKS_SYS_STATUS_lost_s = 1 ∧ t = { s with regs := t.regs, ckss := t.ckss }) ∧
  ((s.cks 0).sys < 2 → s.rd 0 F.CKS_SYS_STATUS_locked = 0 → completes .systemPllLossOfLock s fun t => t = s) ∧
  (∀ d, s.hasDie d = true → d < s.ckss.length → s.rd d F.CKS_SYS_STATUS_locked = 0 → completes (.refclkLoss d) s fun t =>
    t.rd d F.CKS_SYS_STATUS_ref_lost_s = 1 ∧ t.rd d F.CKS_SYS_STATUS_bypass = 1 ∧
    t.cks d = { s.cks d with sys := min 1 (s.cks d).sys, since := s.now, osc := some (20000 + Config.free s.freeCtr % 10001) } ∧
    t = { s with regs := t.regs, ckss := t.ckss, freeCtr := s.freeCtr + 1 } ∧
    regsKept s t d [F.CKS_SYS_STATUS_ref_lost_s, F.CKS_SYS_STATUS_locked, F.CKS_SYS_STATUS_bypass, F.CKS_SYS_STATUS_ramp]) ∧
  (∀ n ∈ s.stns, n < s.ckss.length → n < s.links.length → n < s.sweeps.length → s.rd n F.CKS_SYS_STATUS_locked = 1 →
    ∀ c ∈ [Instr.stationFabricPllLoss n, .refclkLoss n], (c = .stationFabricPllLoss n → (s.cks n).sys < 2) → completes c s fun t =>
      t.rd n F.CKS_SYS_STATUS_locked = 0 ∧ t.rd n F.CKS_SYS_STATUS_bypass = 1 ∧ (t.cks n).sys = 1 ∧ (t.cks n).since = s.now ∧
      (t.link n).lost = true ∧ (t.link n).hubLost = true ∧ t.rd n ⟨F.FLT_F_ACTIVE_f_active.off, 5, 5⟩ = 1 ∧
      t.rd n F.LSR_STATUS_lso = 1 ∧ t.rd n F.LSR_STATUS_link_up = 0 ∧
      (∃ r ∈ t.flt.inbox, r.die = n ∧ r.cls = .f) ∧ ((s.scn n).inSweep = true → (t.sweep n).cut = true)) ∧
  (∀ n ∈ s.stns, n < s.ckss.length →
    (2 ≤ (s.cks n).sys → completes (.stationFabricPllLoss n) s fun t => (t.cks n).sys = 1 ∧ t.rd n F.CKS_SYS_STATUS_lost_s = 1 ∧
      t.rd n F.CKS_SYS_STATUS_bypass = 1 ∧ t = { s with regs := t.regs, ckss := t.ckss }) ∧
    ((s.cks n).sys < 2 → s.rd n F.CKS_SYS_STATUS_locked = 0 → completes (.stationFabricPllLoss n) s fun t => t = s)) ∧
  (completes .systemPllRetry s fun t =>
    let due := s.rd 0 F.CKS_SYS_STATUS_locked = 0 ∧ (s.cks 0).since + 1000000 ≤ s.now
    (due → t.cks 0 = { s.cks 0 with sys := 1, since := s.now } ∧ t = { s with ckss := t.ckss }) ∧ (¬due → t = s)) ∧
  (∀ d, s.hasDie d = true → d < s.ckss.length →
    ((s.cks d).sys ≠ 1 ∨ s.now < (s.cks d).since + 10240 → completes (.lockAcquired d false) s fun t => t = s) ∧
    ((s.cks d).sys = 1 → (s.cks d).since + 10240 ≤ s.now → completes (.lockAcquired d false) s fun t =>
      t.rd d F.CKS_SYS_STATUS_locked = 1 ∧ t.rd d F.CKS_SYS_STATUS_ramp = 1 ∧ t.rd d F.CKS_SYS_STATUS_bypass = 0 ∧
      t.cks d = { s.cks d with sys := 2, since := s.now } ∧ t = { s with regs := t.regs, ckss := t.ckss } ∧
      regsKept s t d [F.CKS_SYS_STATUS_locked, F.CKS_SYS_STATUS_ramp, F.CKS_SYS_STATUS_bypass]) ∧
    (((s.cks d).sys < 2 ∨ s.now < (s.cks d).since + 2560) → completes (.dividerStep d false) s fun t => t = s) ∧
    (2 ≤ (s.cks d).sys → (s.cks d).since + 2560 ≤ s.now →
      ((s.cks d).sys < 5 → completes (.dividerStep d false) s fun t =>
        t.cks d = { s.cks d with sys := (s.cks d).sys + 1, since := s.now } ∧ t = { s with ckss := t.ckss }) ∧
      (5 ≤ (s.cks d).sys → completes (.dividerStep d false) s fun t =>
        t.cks d = { s.cks d with sys := 0, osc := none, since := s.now } ∧ t.rd d F.CKS_SYS_STATUS_ramp = 0 ∧
        t.rd d ⟨F.FLT_F_ACTIVE_f_active.off, fltPos d .cks, fltPos d .cks⟩ = 0 ∧ (d = 0 → t.rd 0 F.CUE_STATUS_degraded = 0) ∧
        t = { s with regs := t.regs, ckss := t.ckss } ∧
        regsKept s t d [F.CKS_SYS_STATUS_ramp, F.CUE_STATUS_degraded, ⟨F.FLT_F_ACTIVE_f_active.off, fltPos d .cks, fltPos d .cks⟩])))
/-- Training of a laser link: train clears link_up, holds the line low and waits for the far end; 20 µs later the ordered sets run while no other cause
holds the line; the far end's release, 1 µs of a high line and the far end's answer follow in order, and train_tmo of sets without a release ends the
attempt; a test stops the link, and a page is sent between sweeps for an armed bank. The channel of a station that is not powered takes no command
(R219, R220, R226, R227, R233, R238, R240, R404).
Model's own choices it touches: log entries 60, 215. -/
def Obligations.LaserLink : Prop := ∀ (s : State) (n : Nat), s.hasStn n = true → n < s.lsrs.length → n < s.stations.length →
  (s.stnPowered n = false → ∀ k v, ∀ c ∈ [Instr.train n, .test n, .testStop n, .lsrDrvWrite n k v], completes c s fun t => t = s) ∧
  (s.stnPowered n = true → completes (.train n) s fun t =>
    (s.frmRuns = true → s.rd n F.LSR_STATUS_link_up = 1 → t.rd n F.LSR_STATUS_write_reject = 1 ∧ reportsOnly s t n 6 .c [F.LSR_STATUS_write_reject]) ∧
    ((s.frmRuns = false ∨ s.rd n F.LSR_STATUS_link_up = 0) → t.rd n F.LSR_STATUS_link_up = 0 ∧ t.rd n F.LSR_STATUS_lso = 1 ∧
      (t.lsr n).train = 1 ∧ (t.lsr n).trainAt = s.now ∧ (t.lsr n).tmo = max 1 (s.rd n F.LSR_TRAIN_TMO_train_tmo) ∧
      (t.lsr n).tx = [LinkCtl.idle.word] ∧ (t.lsr n).test = none ∧ (t.stn n).line.contains .farEnd = true)) ∧
  (s.setsSent n = decide ((s.lsr n).train = 2 ∨ (s.lsr n).train = 1 ∧ s.ownCauses n = [] ∧ (s.lsr n).trainAt + 20000 ≤ s.now)) ∧
  (s.setsSent n = false → completes (.farEndRelease n) s fun t => t = s) ∧
  (s.setsSent n = true → completes (.farEndRelease n) s fun t =>
    (t.lsr n).train = 3 ∧ (t.lsr n).tx = s.trainingSet n ∧ (t.stn n).line = s.ownCauses n ∧
    (s.ownCauses n = [] → (t.lsr n).highAt = s.now ∧ t.rd n F.LSR_STATUS_lso = 0)) ∧
  ((s.setsSent n = false ∨ s.now < (s.lsr n).trainAt + 20000 + 1000000 * (s.lsr n).tmo) → completes (.trainTmo n) s fun t => t = s) ∧
  (s.setsSent n = true → (s.lsr n).trainAt + 20000 + 1000000 * (s.lsr n).tmo ≤ s.now → completes (.trainTmo n) s fun t =>
    (t.lsr n).train = 0 ∧ (t.lsr n).tx = s.trainingSet n ∧ t.rd n F.LSR_STATUS_train_tmo_s = 1 ∧
    t.rd n F.LSR_TRAIN_CNT_fail_cnt = satN 10 (s.rd n F.LSR_TRAIN_CNT_fail_cnt + 1) ∧ reportsOne s t n 6 .u ∧
    (s.promotes n 6 = false → regsKept s t n [F.LSR_STATUS_train_tmo_s, F.LSR_TRAIN_CNT_fail_cnt])) ∧
  (((s.lsr n).train ≠ 3 ∨ s.rd n F.LSR_STATUS_lso = 1 ∨ s.now < (s.lsr n).highAt + 1000) → completes (.lsoHigh1us n) s fun t => t = s) ∧
  ((s.lsr n).train = 3 → s.rd n F.LSR_STATUS_lso = 0 → (s.lsr n).highAt + 1000 ≤ s.now → s.memClean n 5 → completes (.lsoHigh1us n) s fun t =>
    (t.lsr n).train = 4 ∧ t = { s with lsrs := t.lsrs } ∧
    (t.lsr n).control = (s.lsr n).control ++ [ctlFrame 1 (s.configPayload n), ctlFrame 2 (s.levelsPayload n),
      ctlFrame 3 (pagePayload (s.lsr n).page fun f => s.rd n f), ctlFrame 4 (s.drivePayload n)]) ∧
  ((s.lsr n).train ≠ 4 → completes (.linkUp n) s fun t => t = s) ∧
  ((s.lsr n).train = 4 → completes (.linkUp n) s fun t =>
    t.rd n F.LSR_STATUS_link_up = 1 ∧ (t.lsr n).train = 0 ∧ t.rd n F.LSR_TRAIN_CNT_ok_cnt = satN 10 (s.rd n F.LSR_TRAIN_CNT_ok_cnt + 1) ∧
    t = { s with regs := t.regs, lsrs := t.lsrs } ∧ regsKept s t n [F.LSR_STATUS_link_up, F.LSR_TRAIN_CNT_ok_cnt]) ∧
  (s.stnPowered n = true → completes (.test n) s fun t =>
    ((s.rd n F.SCN_STATUS_running = 1 ∨ s.frmRuns = true) → t.rd n F.LSR_STATUS_write_reject = 1 ∧ reportsOnly s t n 6 .c [F.LSR_STATUS_write_reject]) ∧
    (s.rd n F.SCN_STATUS_running = 0 → s.frmRuns = false → t.rd n F.LSR_STATUS_link_up = 0 ∧
      (t.lsr n).test = some (s.rd n F.LSR_TEST_pattern) ∧ (t.lsr n).tx.getLast? = some (testWord (s.rd n F.LSR_TEST_pattern) 0) ∧
      (t.lsr n).control = (s.lsr n).control ++ [ctlFrame 0x0F [s.rd n F.LSR_TEST_pattern]] ∧
      t = { s with regs := t.regs, lsrs := t.lsrs } ∧ regsKept s t n [F.LSR_STATUS_link_up])) ∧
  (s.stnPowered n = true → completes (.testStop n) s fun t =>
    t = (if (s.lsr n).test = none then s else s.modLsr n fun x => { x with test := none, tx := [LinkCtl.idle.word] })) ∧
  ((s.rd n F.LSR_STATUS_link_up = 0 ∨ (s.scn n).inSweep = true) → completes (.pageSend n) s fun t => t = s) ∧
  (s.rd n F.LSR_STATUS_link_up = 1 → (s.scn n).inSweep = false → s.memClean n 5 → completes (.pageSend n) s fun t =>
    (s.rd n F.CUE_BANK_STATUS_armed = 1 → (s.lsr n).pageSent = false →
      (t.lsr n).pageSent = true ∧ (t.lsr n).pageOwed = false ∧
      (t.lsr n).control = (s.lsr n).control ++ [ctlFrame 3 (pagePayload (1 - (s.lsr n).page) fun f => s.rdArmed n f)]) ∧
    ((s.rd n F.CUE_BANK_STATUS_armed = 0 ∨ (s.lsr n).pageSent = true) → (s.lsr n).pageOwed = true →
      (t.lsr n).pageSent = (s.lsr n).pageSent ∧ (t.lsr n).pageOwed = false ∧
      (t.lsr n).control = (s.lsr n).control ++ [ctlFrame 3 (pagePayload (s.lsr n).page fun f => s.rd n f)]) ∧
    ((s.rd n F.CUE_BANK_STATUS_armed = 0 ∨ (s.lsr n).pageSent = true) → (s.lsr n).pageOwed = false → t = s) ∧
    t = { s with lsrs := t.lsrs })

/-- Sweep frames and power control: each sweep launches one frame with the next sequence number, blank where the sweep is blank, the line low or scan_ok 0, with one
column for each pixel clock else; a pulse pair is sent where power control may, its measurement is shown, triggers the slot of its parity with the beam's
own set power and error, or takes the slot's safe output where the slot does not run, and raises APC_LIMIT after lim_n low ones at the limit of the
drive; a host write of a drive code stands (R157, R217, R221, R222, R230 to R232, R259, R274).
Model's own choices it touches: log entries 57, 61, 64, 189. -/
def Obligations.SweepFramesAndPower : Prop := ∀ (s : State) (n : Nat), s.hasStn n = true → n < s.lsrs.length →
  (s.rd n F.LSR_STATUS_link_up = 1 → (s.scn n).inSweep = true → (s.lsr n).launched = false → completes (.sweepFrameLaunch n) s fun t =>
    let blank := (s.sweep n).blank || s.on n F.LSR_STATUS_lso || !s.on n F.LSR_STATUS_scan_ok
    t.rd n F.LSR_SWEEP_SEQ_seq = (s.rd n F.LSR_SWEEP_SEQ_seq + 1) % 256 ∧ (t.lsr n).launched = true ∧ (t.lsr n).control = [] ∧
    (t.lsr n).header.head? = some (t.rd n F.LSR_SWEEP_SEQ_seq) ∧ (t.lsr n).header.length % 8 = 0 ∧
    (t.lsr n).launchAt = (s.sweep n).firstAt - 40960 ∧ (t.lsr n).tx.head? = some LinkCtl.sweep.word ∧ (t.lsr n).tx.getLast? = some LinkCtl.final.word ∧
    (blank = true → (t.lsr n).columns = []) ∧
    (blank = false → (t.lsr n).columns.length = s.activePx n ∧ ∀ c ∈ (t.lsr n).columns,
      c.length = 2 + b2n (s.sweep n).straddle + (s.nBeams n + 1) / 2) ∧
    t = { s with regs := t.regs, lsrs := t.lsrs } ∧ regsKept s t n [F.LSR_SWEEP_SEQ_seq]) ∧
  ((s.rd n F.LSR_STATUS_link_up = 0 ∨ (s.scn n).inSweep = false ∨ (s.lsr n).launched = true) → completes (.sweepFrameLaunch n) s fun t =>
    t = s) ∧
  (s.apcMay n = false → completes (.apcPulsePair n) s fun t => t = s) ∧
  (s.apcMay n = true → completes (.apcPulsePair n) s fun t =>
    let ks := if (s.lsr n).apcOdd < s.nBeams n then [(s.lsr n).apcEven, (s.lsr n).apcOdd] else [(s.lsr n).apcEven]
    (t.lsr n).apcSent = (s.lsr n).apcSent + 1 ∧ (t.lsr n).apcWait = (s.lsr n).apcWait ++ ks ∧
    (t.lsr n).control.length = (s.lsr n).control.length + ks.length ∧
    (t.lsr n).apcEven = (if (s.lsr n).apcEven + 2 < s.nBeams n then (s.lsr n).apcEven + 2 else 0) ∧
    (t.lsr n).apcOdd = (if (s.lsr n).apcOdd + 2 < s.nBeams n then (s.lsr n).apcOdd + 2 else 1) ∧ t = { s with lsrs := t.lsrs }) ∧
  (∀ k meas, k < 40 → (s.lsr n).apcWait.contains k = true → completes (.apcMeasurement n k meas) s fun t =>
    t.rdS n (F.LSR_APC_MEAS_meas k) = satS 20 meas ∧ (t.lsr n).apcWait = (s.lsr n).apcWait.erase k ∧
    (∀ j, j < 40 → j ≠ k → t.rd n (F.LSR_DRV_drv j) = s.rd n (F.LSR_DRV_drv j)) ∧
    (let i := if k % 2 = 0 then s.rd n F.LSR_APC_CFG_slot0 else s.rd n F.LSR_APC_CFG_slot1
     let safe := i < 24 ∧ s.rd n (F.LPE_SLOT_CFG_ctx i) = 1 ∧ s.rd n (F.LPE_SLOT_CFG_trig i) = 2 ∧ s.slotLive n i = false ∧ s.laserBlocked n = false
     (safe → t.rd n (F.LSR_DRV_drv k) = s.driveCode n (s.slotSafe n i) ∧ (t.lsr n).drvPend = true) ∧
     (¬safe → t.rd n (F.LSR_DRV_drv k) = s.rd n (F.LSR_DRV_drv k))) ∧
    (let i := if k % 2 = 0 then s.rd n F.LSR_APC_CFG_slot0 else s.rd n F.LSR_APC_CFG_slot1
     let own := ((s.lsr n).beams.lookup k).getD (0, 0)
     i < 24 → n < s.lpes.length → s.memClean n 5 → s.promotes n 6 = false →
       s.rd n (F.LPE_SLOT_CFG_ctx i) = 1 → s.rd n (F.LPE_SLOT_CFG_trig i) = 2 → s.slotLive n i = true →
       (s.slot n i).held = none → (s.slot n i).ready = none → (s.slot n i).lastTrig = none →
       (t.slot n i).ready = some s.now ∧ (t.slot n i).chan = some k ∧
       (t.slot n i).own = { y := satS 20 meas, valid := true, r := s.rdS n (F.LSR_APC_SET_set k), u := own.1, e := own.2 }) ∧
    (let low := t.rd n (F.LSR_DRV_drv k) = s.rd n F.LSR_DRV_MAX_drv_max ∧ 16 * satS 20 meas < 15 * s.rdS n (F.LSR_APC_SET_set k)
     let run := ((s.lsr n).limRun.lookup k).getD 0 + 1
     let due := max 1 (s.rd n F.LSR_APC_LVL_lim_n) ≤ run
     (low → due → t.rd n F.LSR_STATUS_apc_lim_s = 1 ∧ (t.lsr n).limRun.lookup k = some 0) ∧
     (low → ¬due → (t.lsr n).limRun.lookup k = some run) ∧ (¬low → (t.lsr n).limRun.lookup k = some 0))) ∧
  (∀ k meas, (s.lsr n).apcWait.contains k = false → completes (.apcMeasurement n k meas) s fun t => t = s) ∧
  (s.stnPowered n = true → ∀ k v, k < 40 → completes (.lsrDrvWrite n k v) s fun t =>
    t.rd n (F.LSR_DRV_drv k) = v % 4096 ∧ (t.lsr n).drvPend = true ∧
    (((t.lsr n).beams.lookup k).map Prod.fst = some (((v % 4096 * 128 : Nat) : Int) * 1048576)) ∧
    (s.memClean n 5 → t = { s with regs := t.regs, lsrs := t.lsrs, mems := t.mems } ∧ regsKept s t n [F.LSR_DRV_drv k]))

/-- The safe-off line and the write window: the far end's safe-off starts training again; the watchdog, where a beam's on-time passes the bound of the
sweep, and stray light above its threshold for 100 ns between sweeps and outside the pulses pull the line low; each is counted, blanks the sweeps after it
and is reported, but under a shadow not reported; a write-forbid ends when the re-entry time has passed with write_ok at 1 (R233 to R237, R354).
Model's own choices it touches: log entries 59, 62, 63, 65, 241, 242. -/
def Obligations.LaserSafety : Prop := ∀ (s : State) (n : Nat), s.hasStn n = true → n < s.lsrs.length → n < s.stations.length →
  n < s.sweeps.length →
  (s.rd n F.LSR_STATUS_lso = 0 → completes (.drvSafeoff n) s fun t =>
    t.rd n F.LSR_STATUS_lso = 1 ∧ t.rd n F.LSR_STATUS_link_up = 0 ∧ t.rd n F.LSR_STATUS_drv_s = 1 ∧ (t.lsr n).train = 1 ∧
    t.rd n F.LSR_DRV_SAFEOFF_CNT_drv_cnt = satN 20 (s.rd n F.LSR_DRV_SAFEOFF_CNT_drv_cnt + 1) ∧
    (t.stn n).blanks.contains .farEnd = true ∧ ((s.scn n).inSweep = true → (t.sweep n).cut = true) ∧
    reportsOne s t n 6 .u) ∧
  (s.rd n F.LSR_STATUS_lso = 1 → completes (.drvSafeoff n) s fun t => t = s) ∧
  ((s.scn n).inSweep = true → s.beamOver n = true → completes (.beamWatchdog n) s fun t =>
    t.rd n F.LSR_STATUS_lso = 1 ∧ t.rd n F.LSR_STATUS_wd_s = 1 ∧ t.rd n F.LSR_WD_CNT_wd_cnt = satN 20 (s.rd n F.LSR_WD_CNT_wd_cnt + 1) ∧
    (t.sweep n).cut = true ∧ (t.stn n).blanks.contains .beam = true ∧ (t.stn n).line.contains .beam = true ∧ reportsOne s t n 6 .u) ∧
  (((s.scn n).inSweep = false ∨ s.beamOver n = false) → completes (.beamWatchdog n) s fun t => t = s) ∧
  (∀ x ns,
    let seen := (s.scn n).inSweep = false ∧ (∀ p ∈ (s.lsr n).pulses, s.now < p.1 ∨ p.2 + 1000 ≤ s.now) ∧ 100 ≤ ns ∧
      (s.lsr n).strayThr.getD (s.rd n F.LSR_WD_stray_thr) < x
    (¬seen → completes (.strayLight n x ns) s fun t => t = s) ∧
    (seen → completes (.strayLight n x ns) s fun t =>
      t.rd n F.LSR_STATUS_lso = 1 ∧ t.rd n F.LSR_STATUS_stray_s = 1 ∧
      t.rd n F.LSR_WD_CNT_wd_cnt = satN 20 (s.rd n F.LSR_WD_CNT_wd_cnt + 1) ∧ (t.stn n).blanks.contains .beam = true ∧
      (t.stn n).line.contains .beam = true ∧
      (s.shadowed (.strayLight n) = false → reportsOne s t n 6 .u) ∧
      (s.shadowed (.strayLight n) = true → t.rd n (F.FLT_SHADOWED_shadowed 6) = satN 20 (s.rd n (F.FLT_SHADOWED_shadowed 6) + 1) ∧
        t.flt.inbox = s.flt.inbox))) ∧
  (completes (.reentryComplete n) s fun t =>
    let due := s.rd n F.LSR_STATUS_reentry = 1 ∧ ∃ a, (s.lsr n).okSince = some a ∧ a + 1000000 * (s.lsr n).reentry ≤ s.now
    (due → t.rd n F.LSR_STATUS_reentry = 0 ∧ t.rd n F.LSR_STATUS_forbid = 0 ∧ t.flt = s.flt) ∧ (¬due → t = s))

/-- Registration control: an edge whose level stands for glitch_ns joins the windows that are open on its sensor, with its sense and the place of the web
at that time; at the end of str_period the stretch terms of the owned stations, but those in mark loss and but in an F-class stop, follow their slot and
rewrite a correction only where its value changes; a host's correction goes to the station at once and empties the block;
reset_est empties every block, pop_raw drops the oldest record (R241, R245, R248, R250 to R254, R256).
Model's own choices it touches: log entries 80, 81, 82, 84, 85, 86, 186. -/
def Obligations.Registration : Prop := ∀ s : State,
  (∀ sensor rising τ hold, sensor < 8 → completes (.markEdge sensor rising τ hold) s fun t =>
    let seen := s.rd 0 (F.RGC_SENS_CFG_en sensor) = 1 ∧ s.rd 0 (F.RGC_SENS_CFG_glitch_ns sensor) ≤ hold ∧ s.rgc.levels.getD sensor none ≠ some rising
    let levels := s.rgc.levels.modify sensor fun l =>
      if hold < s.rd 0 (F.RGC_SENS_CFG_glitch_ns sensor) then some (l.getD !rising) else some rising
    (¬seen → t = { s with rgc := { s.rgc with levels := levels } }) ∧
    (seen → t = { s with rgc := t.rgc } ∧ t.rgc = { s.rgc with wins := t.rgc.wins, levels := levels } ∧
      t.rgc.wins.length = s.rgc.wins.length ∧ ∀ (k : Nat) (w : MarkWin), s.rgc.wins[k]? = some w →
        ∃ w', t.rgc.wins[k]? = some w' ∧ (w.sensor ≠ sensor → w' = w) ∧
          (w.sensor = sensor → w'.geo = w.geo ∧ w'.sensor = w.sensor ∧
            w'.edges = w.edges ++ [(rising != s.on 0 (F.RGC_SENS_CFG_polarity sensor),
              ((((s.pos * 16 : Nat) : Int) + rdivUp ((s.vel : Int) * ((τ : Int) - s.rd 0 (F.RGC_SENS_CFG_lat sensor) - s.now)) 16000) %
                ((two40 * 16 : Nat) : Int)).toNat)] ∧
            w'.bad = (w.bad || decide (s.vel = 0 ∨ s.rd 0 F.WTB_STATUS_tb_ok = 0))))) ∧
  (s.now < s.rgc.strNext → completes .stretchPeriod s fun t => t = s) ∧
  (s.rgc.strNext ≤ s.now → completes .stretchPeriod s fun t =>
    t.rgc.strNext = s.now + 1000000 * max 1 (s.rd 0 F.RGC_STR_CFG_str_period) ∧ t.rgc.strOn = s.on 0 F.RGC_CTRL_stretch_en ∧
    (s.memClean 0 6 → (∀ n ∈ s.stns, s.promotes n 4 = false) → t = { s with regs := t.regs, flt := { s.flt with inbox := t.flt.inbox }, rgc := t.rgc }) ∧
    ∀ n ∈ s.stns, n < s.rgc.stns.length →
      let acts := s.rgcOwned n = true ∧ s.rd 0 F.FRM_STATUS_stopping = 0 ∧ s.rd 0 (F.RGC_STATE_loss n) = 0
      (¬acts → t.rgcStn n = s.rgcStn n) ∧
      (acts → t.rgcStn n = { s.rgcStn n with stretch := t.stretchOf n }) ∧
      (t.webValue n = s.webValue n → t.rd n F.LPL_REG_WEB_reg_web = s.rd n F.LPL_REG_WEB_reg_web) ∧
      (acts → t.webValue n ≠ s.webValue n → t.rdS n F.LPL_REG_WEB_reg_web =
        clampI (-(s.limWeb n : Int)) (s.limWeb n) (satS 20 (t.webValue n)))) ∧
  (∀ n v, 1 ≤ n → n ≤ 7 → n < s.rgc.stns.length → v < 0x100000 →
    (completes (.corrWrite n false v) s fun t =>
      t.rdS 0 (F.RGC_CORR_WEB_corr_w n) = sgn 20 v ∧ t.rd 0 (F.RGC_STATE_fill n) = 0 ∧ (t.rgcStn n).fill = 0 ∧
      (t.rgcStn n).corrX = (s.rgcStn n).corrX ∧ (∀ m, m ≠ n → t.rgcStn m = s.rgcStn m) ∧
      (s.hasStn n = true → (t.rgcStn n).effect.isSome = true ∧ t.rdS n F.LPL_REG_WEB_reg_web =
        clampI (-(s.limWeb n : Int)) (s.limWeb n) (satS 20 (t.webValue n)))) ∧
    (completes (.corrWrite n true v) s fun t =>
      t.rdS 0 (F.RGC_CORR_SCAN_corr_x n) = sgn 20 v ∧ t.rd 0 (F.RGC_STATE_fill n) = 0 ∧ (t.rgcStn n).fill = 0 ∧
      (t.rgcStn n).corrW = (s.rgcStn n).corrW ∧ (∀ m, m ≠ n → t.rgcStn m = s.rgcStn m) ∧
      (s.hasStn n = true → t.rdS n F.LPL_REG_SCAN_reg_scan =
        clampI (-(s.rd n F.LPL_REG_LIM_lim_scan : Int)) (s.rd n F.LPL_REG_LIM_lim_scan) (satS 20 (t.scanValue n))))) ∧
  (completes .resetEst s fun t =>
    (∀ n, 1 ≤ n → n ≤ 7 → n < s.rgc.stns.length → t.rd 0 (F.RGC_STATE_fill n) = 0 ∧
      t.rgcStn n = { s.rgcStn n with sumW := 0, sumX := 0, fill := 0 }) ∧
    t = { s with regs := t.regs, rgc := t.rgc } ∧ regsKept s t 0 ((List.range' 1 7).map F.RGC_STATE_fill)) ∧
  (completes .popRaw s fun t =>
    t.rgc = { s.rgc with raw := s.rgc.raw.drop 1 } ∧ (s.rgc.raw.length ≤ 256 → t.rd 0 F.RGC_RAW_LEVEL_level = s.rgc.raw.length - 1) ∧
    (∀ a r l, s.rgc.raw = a :: r :: l → t.rd 0 F.RGC_RAW_W0_serial = r.getD 0 0 % 0x100000 ∧ t.rd 0 F.RGC_RAW_W2_e_w = r.getD 2 0 % 0x100000) ∧
    t = { s with regs := t.regs, rgc := t.rgc } ∧
    regsKept s t 0 [F.RGC_RAW_W0_serial, ⟨F.RGC_RAW_W1_stn.off, 19, 0⟩, F.RGC_RAW_W2_e_w, F.RGC_RAW_W3_e_x, F.RGC_RAW_W4_width_dev,
      F.RGC_RAW_LEVEL_level])

/-- Triggers of a slot: a timer's trigger falls when its period is over and makes the slot ready; an owner's makes it ready, but one less than 10 µs after the
last is held and then released, and it has no effect in a state without samples; the trigger brings the owner's sample (R259, R274). Overruns states
what a trigger does that finds one waiting.
Model's own choices it touches: log entries 2, 227. -/
def Obligations.SlotTriggers : Prop := ∀ (s : State) (d i : Nat), s.hasSlot d i = true → d < s.lpes.length →
  ((s.rd d (F.LPE_SLOT_CFG_trig i) ≠ 1 ∨ s.slotSampling d i = false ∨ s.now < s.slotDue d i) →
    completes (.slotTimerTrigger d i) s fun t => t = s) ∧
  (s.rd d (F.LPE_SLOT_CFG_trig i) = 1 → s.slotSampling d i = true → s.slotDue d i ≤ s.now → (s.slot d i).ready = none →
    completes (.slotTimerTrigger d i) s fun t => t = { s with lpes := t.lpes } ∧
      t.slot d i = { s.slot d i with ready := some (s.slotDue d i), lastTrig := some (s.slotDue d i) } ∧
      ∀ e j, (e ≠ d ∨ j ≠ i) → t.slot e j = s.slot e j) ∧
  (∀ own, completes (.ownerEventTrigger d i own) s fun t =>
    let live := s.rd d (F.LPE_SLOT_CFG_trig i) = 2 ∧ (s.slotState d i = slotRamp ∨ s.slotState d i = slotRun)
    let early := match (s.slot d i).lastTrig with
      | some τ => decide (s.now < τ + 10000)
      | none => false
    (¬live → t = s) ∧
    (live → (s.slot d i).held = none → (s.slot d i).ready = none →
      t.slot d i = { s.slot d i with
        own := own, chan := none, held := if early then some s.now else none, ready := if early then none else some s.now,
        lastTrig := if early then (s.slot d i).lastTrig else some s.now } ∧
      t = { s with lpes := t.lpes } ∧ ∀ e j, (e ≠ d ∨ j ≠ i) → t.slot e j = s.slot e j)) ∧
  (((s.slot d i).held = none ∨ s.now < (s.slot d i).lastTrig.getD 0 + 10000) → completes (.heldTriggerRelease d i) s fun t => t = s) ∧
  ((s.slot d i).held.isSome = true → (s.slot d i).lastTrig.getD 0 + 10000 ≤ s.now → (s.slot d i).ready = none → s.slotSampling d i = true →
    completes (.heldTriggerRelease d i) s fun t =>
      t.slot d i = { s.slot d i with held := none, ready := some s.now, lastTrig := some s.now } ∧ t = { s with lpes := t.lpes })

/-- An overrun: a trigger of a slot that is still ready, or that holds a held trigger, drops the older one, is counted, sets ovr_s and is a C-class event; the
output holds until the next update; overruns in a row are counted until an update ends the row, and the fourth is a slot fault (R261). -/
def Obligations.Overruns : Prop := ∀ (s : State) (d i : Nat), s.hasSlot d i = true → d < s.lpes.length →
  (∀ (own : OwnerSample) (byOwner : Bool),
    let early := byOwner && match (s.slot d i).lastTrig with
      | some τ => decide (s.now < τ + 10000)
      | none => false
    let p := fltPos d .lpe
    (byOwner = false → s.rd d (F.LPE_SLOT_CFG_trig i) = 1 ∧ s.slotSampling d i = true ∧ s.slotDue d i ≤ s.now ∧ (s.slot d i).ready.isSome = true) →
    (byOwner = true → s.rd d (F.LPE_SLOT_CFG_trig i) = 2 ∧ (s.slotState d i = slotRamp ∨ s.slotState d i = slotRun) ∧
      ((s.slot d i).held.isSome = true ∨ (s.slot d i).ready.isSome = true)) →
    completes (if byOwner then .ownerEventTrigger d i own else .slotTimerTrigger d i) s fun t =>
      t.rd d (F.LPE_SLOT_OVR_CNT_ovr_cnt i) = satN 20 (s.rd d (F.LPE_SLOT_OVR_CNT_ovr_cnt i) + 1) ∧ t.rd d (F.LPE_SLOT_STATUS_ovr_s i) = 1 ∧
      (d ≠ 0 ∨ s.shadowed .lpeOverrun = false →
        (t.flt.inbox.drop s.flt.inbox.length).head?.map (fun r => (r.die, r.pos, r.cls)) = some (d, p, if s.promotes d p then .f else .c)) ∧
      (s.promotes d p = false → (s.slot d i).ovrRun < 3 ∨ s.slotClass d i = .c →
        (early = true → (t.slot d i).held = some s.now ∧ (t.slot d i).ready = none) ∧
        (early = false → (t.slot d i).ready = some (if byOwner then s.now else s.slotDue d i) ∧ (byOwner = true → (t.slot d i).held = none)) ∧
        (byOwner = true → (t.slot d i).own = own)) ∧
      (s.promotes d p = false → (s.slot d i).ovrRun < 3 → (t.slot d i).ovrRun = (s.slot d i).ovrRun + 1 ∧ (t.slot d i).out = (s.slot d i).out ∧
        t = { s with regs := t.regs, lpes := t.lpes, flt := t.flt } ∧
        regsKept s t d [F.LPE_SLOT_OVR_CNT_ovr_cnt i, F.LPE_SLOT_STATUS_ovr_s i, F.FLT_SHADOWED_shadowed p]) ∧
      (3 ≤ (s.slot d i).ovrRun → t.rd d (F.LPE_SLOT_FLT_CNT_flt_cnt i) = satN 20 (s.rd d (F.LPE_SLOT_FLT_CNT_flt_cnt i) + 1) ∧
        t.rd d (F.LPE_SLOT_STATUS_flt_s i) = 1 ∧ (t.slot d i).ovrRun = 0 ∧
        (s.promotes d p = false → s.slotClass d i ≠ .c → s.slotState d i ≠ slotForced → t.slotState d i = slotFaulted))) ∧
  ∀ adc valid, s.nextSlot d = some i → (s.lpeRecent d).length < lpeCapacity d → completes (.slotUpdate d adc valid) s fun t =>
    (t.slot d i).ovrRun = 0

/-- A slot update takes the ready slot of highest rank: by priority, then by the earlier trigger; the sequencer takes no more than its rate allows in 10 µs,
and LPE_LOAD keeps the most that it took. A computed sample is counted; a running slot with valid feedback
keeps its output inside its limits and moves its set-point toward the goal by no more than its slope allows; a first valid sample seeds it on the measured value, an
invalid one before that holds the safe output and counts toward plaus_hold; the output of a slot that serves a beam is that beam's drive code
(R231, R258, R260, R263, R265, R266, R276).
Model's own choices it touches: log entries 61, 172, 175, 189, 226. -/
def Obligations.SlotUpdates : Prop := ∀ (s : State) (d : Nat) (adc : Int) (valid : Bool), d < s.lpes.length →
  ((s.nextSlot d = none ∨ lpeCapacity d ≤ (s.lpeRecent d).length) → completes (.slotUpdate d adc valid) s fun t => t = s) ∧
  (∀ i, s.nextSlot d = some i → d ≤ 7 → (s.lpeRecent d).length < lpeCapacity d → s.memClean d 4 → completes (.slotUpdate d adc valid) s fun t =>
    let st := s.slotState d i
    let ok := (s.slotFeedback d i adc valid).2
    (∀ j, j < slotCount d → ∀ τ, (s.slot d j).ready = some τ → s.rd d (F.LPE_SLOT_CFG_prio j) ≤ s.rd d (F.LPE_SLOT_CFG_prio i) ∧
      (s.rd d (F.LPE_SLOT_CFG_prio j) = s.rd d (F.LPE_SLOT_CFG_prio i) → (s.slot d i).ready.getD 0 ≤ τ)) ∧
    (t.slot d i).ready = none ∧ (t.slot d i).lastSample = some s.now ∧ (t.lpe d).updates = s.now :: s.lpeRecent d ∧
    t.rd d F.LPE_LOAD_load_max = max (s.rd d F.LPE_LOAD_load_max) ((s.lpeRecent d).length + 1) ∧
    (∀ k, (s.slot d i).chan = some k → st = slotRun → s.rd d (F.LPE_SLOT_CFG_ctx i) = 1 → 1 ≤ d → k < 40 → d < s.lsrs.length →
      t.rd d (F.LSR_DRV_drv k) = min (s.rd d F.LSR_DRV_MAX_drv_max) ((t.slot d i).out / 128).toNat ∧ (t.lsr d).drvPend = true ∧
      (t.lsr d).beams.lookup k = some ((t.slot d i).u, (t.slot d i).ePrev)) ∧
    t.rd d (F.LPE_SLOT_SMP_CNT_smp_cnt i) =
      (if (st = slotRamp ∨ st = slotRun) ∧ ok = true then (s.rd d (F.LPE_SLOT_SMP_CNT_smp_cnt i) + 1) % 1048576
        else s.rd d (F.LPE_SLOT_SMP_CNT_smp_cnt i)) ∧
    ((st = slotRamp ∨ st = slotRun) → s.rd d (F.LPE_SLOT_CFG_ctx i) = 0 → ok = true → (s.slot d i).seeded = true →
      (t.slot d i).count = (s.slot d i).count + 1 ∧
      (q39 (s.slotLimits d i).1 ≤ (t.slot d i).u ∧ ((s.slotLimits d i).1 ≤ (s.slotLimits d i).2 → (t.slot d i).u ≤ q39 (s.slotLimits d i).2)) ∧
      (s.rd d (F.LPE_SLOT_SLOPE_slope i) ≠ 0 → (((t.slot d i).r - (s.slot d i).r).natAbs : Int) ≤
        rdiv (((s.rd d (F.LPE_SLOT_SLOPE_slope i) : Nat) : Int) * 1048576 * ((s.slotInterval d i : Nat) : Int)) 1000)) ∧
    ((st = slotRamp ∨ st = slotRun) → s.rd d (F.LPE_SLOT_CFG_ctx i) = 0 → ok = true → (s.slot d i).seeded = false →
      (t.slot d i).seeded = true ∧ (t.slot d i).count = (s.slot d i).count + 1 ∧ (t.slot d i).ePrev = 0 ∧
      (s.rd d (F.LPE_SLOT_SLOPE_slope i) ≠ 0 → (t.slot d i).r = q39 (s.slotFeedback d i adc valid).1)) ∧
    ((st = slotRamp ∨ st = slotRun) → s.rd d (F.LPE_SLOT_CFG_ctx i) = 0 → ok = false → (s.slot d i).seeded = false →
      (t.slot d i).out = s.slotSafe d i ∧ t.rd d (F.LPE_SLOT_STATUS_fb_invalid i) = 1 ∧ (t.slot d i).count = (s.slot d i).count + 1))

/-- The slot commands: a start that a slot may take puts it in RAMP, in RUN for a context slot, or in FORCED where hardware holds its stage off; a stop takes
it to OFF with the safe output, a clear takes FAULT to OFF; a limit is clamped to the hard limits and refused where the two would cross
(R262, R265, R266, R269 to R271, R273, R274).
Model's own choices it touches: log entries 139, 174, 189. -/
def Obligations.SlotCommands : Prop := ∀ (s : State) (d i : Nat), s.hasSlot d i = true → d < s.lpes.length →
  (completes (.slotStart d i) s fun t =>
    (s.slotMayStart d i = false → t.rd d (F.LPE_SLOT_STATUS_write_reject i) = 1 ∧
      reportsOnly s t d (fltPos d .lpe) .c [F.LPE_SLOT_STATUS_write_reject i]) ∧
    (s.slotMayStart d i = true →
      t.slotState d i = (if s.stageBlocked d (s.rd d (F.LPE_SLOT_SRC_out_dst i)) || s.apcBlocked d i then slotForced
        else if s.on d (F.LPE_SLOT_CFG_ctx i) then slotRun else slotRamp) ∧
      (t.slot d i).seeded = false ∧ (t.slot d i).count = 0 ∧
      (t.slot d i).ready = (if s.rd d (F.LPE_SLOT_CFG_trig i) = 1 then some s.now else none) ∧
      t = { s with regs := t.regs, lpes := t.lpes, flt := t.flt } ∧ t.flt.inbox = s.flt.inbox ∧ diesKept s t d ∧
      (t.slotState d i = slotForced → (t.slot d i).out = s.slotSafe d i ∧ t.rdS d (F.LPE_SLOT_OUT_out i) = s.slotSafe d i) ∧
      (t.slotState d i ≠ slotForced → (t.slot d i).lastTrig = (s.slot d i).lastTrig ∨ s.rd d (F.LPE_SLOT_CFG_trig i) = 1) ∧
      (t.slotState d i ≠ slotForced → regsKept s t d [F.LPE_SLOT_STATUS_state i, F.LPE_SLOT_STATUS_src_hold i]))) ∧
  (completes (.slotStop d i) s fun t =>
    (s.slotState d i = slotFaulted → t = s) ∧
    (s.slotState d i ≠ slotFaulted → t.slotState d i = slotOff ∧ (t.slot d i).out = s.slotSafe d i ∧
      t.rdS d (F.LPE_SLOT_OUT_out i) = s.slotSafe d i ∧ (t.slot d i).ready = none ∧ (t.slot d i).held = none ∧
      t = { s with regs := t.regs, lpes := t.lpes } ∧ diesKept s t d)) ∧
  (completes (.slotClear d i) s fun t =>
    (s.slotState d i ≠ slotFaulted → t = s) ∧
    (s.slotState d i = slotFaulted → t.slotState d i = slotOff ∧ t.rd d (slotFaultBit i) = 0 ∧
      t = { s with regs := t.regs, lpes := t.lpes } ∧ regsKept s t d [F.LPE_SLOT_STATUS_state i, slotFaultBit i])) ∧
  (∀ high v, v < 0x100000 → completes (.limWrite d i high v) s fun t =>
    let x := clampI (s.slotHard d i).1 (s.slotHard d i).2 (sgn 20 v)
    let bad := if high then x < s.rdS d (F.LPE_SLOT_LIM_LO_lim_lo i) else s.rdS d (F.LPE_SLOT_LIM_HI_lim_hi i) < x
    let f := if high then F.LPE_SLOT_LIM_HI_lim_hi i else F.LPE_SLOT_LIM_LO_lim_lo i
    (bad → t.rd d (F.LPE_SLOT_STATUS_write_reject i) = 1 ∧ reportsOnly s t d (fltPos d .lpe) .c [F.LPE_SLOT_STATUS_write_reject i]) ∧
    (¬bad → t.rdS d f = x ∧ (s.memClean d 4 → t = { s with regs := t.regs, mems := t.mems } ∧ regsKept s t d [f])))

/-- High voltage: dis_ms after a safe-off a watched channel that still reads dis_thr or more of its full scale is reported, one below it is not; a charge
forbid ends once charge_ok is back, every gated slot runs, and the web has advanced by chg_arc (R281, R282).
Model's own choices it touches: log entries 168, 170, 189. -/
def Obligations.HighVoltage : Prop := ∀ s : State,
  (∀ d c fb, d < s.hvcs.length → c < 8 → completes (.hvDischarge d ⟨c, fb⟩) s fun t =>
    let watched := (s.hvc d).watch.any fun w => w.1 == c && decide (w.2 + 1000000 * (s.hvc d).disMs ≤ s.now)
    let high := (s.hvc d).disThr * 524288 ≤ (satS 20 fb).natAbs * 1000
    let calm := s.promotes d (fltPos d .hvc) = false ∧ (d = 0 ∨ s.memClean d 6)
    (watched = false → t = s) ∧
    (watched = true → calm → t.hvc d = { s.hvc d with watch := (s.hvc d).watch.filter fun w => decide (w.1 ≠ c) } ∧
      t.rdS d (F.HVC_CH_FB_fb c) = satS 20 (rdiv (satS 20 fb * s.rd d (F.HVC_CH_CFG_fs c) * 10) 524288)) ∧
    (watched = true → high → t.rd d F.HVC_STATUS_dis_s = 1 ∧ t.rd d F.HVC_STATUS_dis_ch = c) ∧
    (watched = true → high → d = 0 ∨ s.memClean d 6 → reportsOne s t d (fltPos d .hvc) .u) ∧
    (watched = true → ¬high → calm → t = { s with regs := t.regs, hvcs := t.hvcs } ∧ regsKept s t d [F.HVC_CH_FB_fb c]) ∧
    (calm → t = { s with regs := t.regs, hvcs := t.hvcs, flt := { s.flt with inbox := t.flt.inbox } } ∧
      regsKept s t d [F.HVC_STATUS_dis_s, F.HVC_STATUS_dis_ch, F.HVC_CH_FB_fb c])) ∧
  (∀ n p, s.hasStn n = true → n < s.hvcs.length → (s.hvc n).rerun = some p → completes (.chgForbidClear n) s fun t =>
    let ends := s.rd n F.HVC_STATUS_chg_forbid = 1 ∧ s.rd n F.HVC_STATUS_charge_ok = 1 ∧
      (∀ i ∈ s.gatedSlots n, s.slotState n i = slotRun) ∧ (((s.hvc n).arc * 64 : Nat) : Int) ≤ posDiff (s.tbTick n) p
    (ends → t.rd n F.HVC_STATUS_chg_forbid = 0 ∧ t.hvc n = { s.hvc n with rerun := none } ∧ t = { s with regs := t.regs, hvcs := t.hvcs } ∧
      regsKept s t n [F.HVC_STATUS_chg_forbid]) ∧
    (¬ends → t = s))

/-- The fuser's states: warmup from OFF or STANDBY, READY when every zone has been in its band for ready_ms and back when one has been outside its band for
100 ms, standby by command or after idle_s without a frame, off, and TRIP until it is cleared cool; leaving READY with frames in progress is reported; OFF
deasserts every heater (R285 to R287, R290).
Heaters and temperature inputs: a phase heater fires at its delay into the half-cycle, only with mains, unheld and decided at the crossing, and the guard
before the next crossing deasserts burst and phase outputs; a sample shows since when the zones are in their bands; an input outside its range switches its heaters off and is reported once; a reading above t_max trips the fuser with every heater off and an F-class fault
(R283, R284, R287).
Model's own choices it touches: log entries 169, 189, 216. -/
def Obligations.Fuser : Prop := ∀ s : State, s.fsr.out.length = 4 →
  (completes .warmup s fun t =>
    ((s.fsrState = fsrOff ∨ s.fsrState = fsrStandby) → t.fsrState = fsrWarmup ∧ t.fsr.idleAt = s.now ∧ t.fsr.inAt = none ∧ t.flt.inbox = s.flt.inbox) ∧
    (s.fsrState ≠ fsrOff → s.fsrState ≠ fsrStandby → t = s)) ∧
  (completes .fsrStandby s fun t =>
    (s.fsrState ≠ fsrOff → s.fsrState ≠ fsrTrip → t.fsrState = fsrStandby) ∧ ((s.fsrState = fsrOff ∨ s.fsrState = fsrTrip) → t = s)) ∧
  (completes .fsrOff s fun t =>
    (s.fsrState ≠ fsrTrip → t.fsrState = fsrOff ∧ ∀ h, h < 4 → t.fsr.out[h]? = some false) ∧ (s.fsrState = fsrTrip → t = s)) ∧
  (completes .fsrClear s fun t =>
    (s.fsrState ≠ fsrTrip → t = s) ∧
    (s.fsrState = fsrTrip → s.fsrAnyHot = false → t.fsrState = fsrOff) ∧
    (s.fsrState = fsrTrip → s.fsrAnyHot = true → t.fsrState = fsrTrip ∧ t.rd 0 F.FSR_STATUS_write_reject = 1 ∧ reportsOnly s t 0 11 .c [F.FSR_STATUS_write_reject])) ∧
  (completes .readyTimer s fun t =>
    let due := s.fsrState = fsrWarmup ∧ s.zonesInBand = true ∧ ∃ a, s.fsr.inAt = some a ∧ a + 1000000 * s.fsr.readyMs ≤ s.now
    (due → t.fsrState = fsrReady ∧ t.flt.inbox = s.flt.inbox) ∧ (¬due → t = s)) ∧
  (completes .bandExit s fun t =>
    let due := s.fsrState = fsrReady ∧ s.zonesInBand = false ∧ ∃ o ∈ s.fsr.outAt, ∃ a, o = some a ∧ a + 100000000 ≤ s.now
    (due → t.fsrState = fsrWarmup ∧ (s.framesInProgress ≠ [] → t.rd 0 F.FSR_STATUS_band_s = 1 ∧ reportsOne s t 0 11 .u)) ∧
    (¬due → t = s)) ∧
  (completes .autoStandby s fun t =>
    let due := s.fsr.autoStby = true ∧ s.framesInProgress = [] ∧ (s.fsrState = fsrWarmup ∨ s.fsrState = fsrReady) ∧
      s.fsr.idleAt + 1000000000 * max 1 s.fsr.idleS ≤ s.now
    (due → t.fsrState = fsrStandby) ∧ (¬due → t = s)) ∧
  (∀ h, h < 4 → completes (.heaterFire h) s fun t =>
    let may := s.heaterMode h = 2 ∧ s.rd 0 F.FSR_STATUS_mains_ok = 1 ∧ s.heaterHeld h = false ∧
      s.fsr.phase.getD h false = true ∧ s.fsr.halfAt * 1048576 + s.fsr.delay.getD h 0 * s.wtb.mainsPeriod ≤ s.now * 1048576
    (may → t = { s with fsr := { s.fsr with out := s.fsr.out.set h true } }) ∧ (¬may → t = s)) ∧
  (2 * (s.now + 1000 * s.fsr.guard) < 2 * s.fsr.halfAt + s.wtb.mainsPeriod → completes .endGuard s fun t => t = s) ∧
  (2 * s.fsr.halfAt + s.wtb.mainsPeriod ≤ 2 * (s.now + 1000 * s.fsr.guard) → completes .endGuard s fun t =>
    (∀ h, h < 4 → (s.heaterMode h = 1 ∨ s.heaterMode h = 2) → t.fsr.out[h]? = some false) ∧
    (∀ h, h < 4 → s.heaterMode h ≠ 1 → s.heaterMode h ≠ 2 → t.fsr.out[h]? = s.fsr.out[h]?) ∧
    t = { s with fsr := { s.fsr with out := t.fsr.out, phase := [false, false, false, false] } }) ∧
  (∀ j τ, j < 6 → completes (.fuserTempSample j τ false) s fun t =>
    t.fsr.readyMs = s.rd 0 F.FSR_READY_ready_ms ∧
    (s.fsr.bad.contains j = true → t.fsr.inAt = (if s.zonesInBand then some (s.fsr.inAt.getD s.now) else none) ∧
      (s.memSound 0 6 → t = { s with fsr := { s.fsr with inAt := t.fsr.inAt, outAt := t.fsr.outAt, readyMs := t.fsr.readyMs } })) ∧
    (s.fsr.bad.contains j = false → t.fsr.bad = s.fsr.bad ++ [j] ∧ t.rd 0 F.FSR_STATUS_sens_s = 1 ∧ (s.memSound 0 6 → reportsOne s t 0 11 .u) ∧
      (∀ h, h < 4 → s.rd 0 (F.FSR_HTR_CFG_temp_in h) = j → t.fsr.out[h]? = some false) ∧
      (∀ h, h < 4 → s.rd 0 (F.FSR_HTR_CFG_temp_in h) ≠ j → t.fsr.out[h]? = s.fsr.out[h]?) ∧
      (s.memSound 0 6 → s.promotes 0 11 = false → regsKept s t 0 [F.FSR_STATUS_sens_s]))) ∧
  (∀ j τ, j < 6 → completes (.fuserTempSample j τ true) s fun t =>
    t.rdS 0 (F.FSR_TEMP_temp j) = satS 20 τ ∧ t.fsr.bad = s.fsr.bad.filter (fun k => decide (k ≠ j)) ∧
    (t.fsrTooHot = true → t.fsrState = fsrTrip) ∧
    (t.fsrTooHot = true → s.fsrState ≠ fsrTrip → t.rd 0 F.FSR_STATUS_ovt_s = 1 ∧
      t.rd 0 ⟨F.FLT_F_ACTIVE_f_active.off, 11, 11⟩ = 1 ∧ (∀ h, h < 4 → t.fsr.out[h]? = some false) ∧
      ∃ r ∈ t.flt.inbox, r.die = 0 ∧ r.pos = 11 ∧ r.cls = .f) ∧
    (t.fsrTooHot = false → t.fsrState = s.fsrState ∧ t.fsr.readyMs = s.rd 0 F.FSR_READY_ready_ms ∧
      t.fsr.inAt = (if t.zonesInBand then some (s.fsr.inAt.getD s.now) else none) ∧
      (∀ h, h < 4 → ∀ o, s.fsr.outAt[h]? = some o →
        t.fsr.outAt[h]? = some (if s.on 0 (F.FSR_HTR_CFG_zone h) && !t.zoneInBand h then some (o.getD s.now) else none)) ∧
      t.rd 0 ⟨F.FLT_F_ACTIVE_f_active.off, 11, 11⟩ = 0))
/-- The life of a motor channel: start is refused unless the channel is OFF, its role takes the reference mode and the trip latch is clear, else it leads to
CATCH, to RUN or to ALIGN; a catch, when four estimates agree or catch_ms has passed, enters RUN, or BRAKE where the motor turns too fast against its
reference; an alignment ends after 100 ms; a stop, a hold and a clear follow in order; a clear is refused while the bus, the inverter, the feedback or the
trip latch holds the channel; the polygon channel of a station that is not powered takes no command (R57, R291, R303, R304, R308 to R310, R313, R339, R404).
Model's own choices it touches: log entries 9, 190, 191, 228, 229, 230, 233. -/
def Obligations.MotorChannels : Prop := ∀ (s : State) (d k : Nat),
  (s.hasChan d k = false → ∀ o, ∀ c ∈ [Instr.mdrChStart d k o, .mdrChStop d k, .mdrChClear d k, .catchEnd d k, .alignEnd d k, .holdEnd d k],
    completes c s fun t => t = s) ∧
  (s.hasChan d k = true → k < (s.chans.getD d []).length →
   let st := s.chState d k
   let stopRegs := [F.MDR_CH_STATUS_state k, F.MDR_CH_STATUS_running k, F.MDR_CH_STATUS_rev_hold k, F.MDR_CH_STATUS_fw k, F.MDR_CH_STATUS_sat k,
     F.MDR_CH_STATUS_clamp k, F.MDR_BUS_P_p, F.MDR_STATUS_clamp, F.MDR_CLAMP_CNT_clamp_cnt]
   let standstill : State → Prop := fun t =>
     t.chState d k = if k = 4 ∨ s.rd d (F.MDR_CH_CFG_fb_kind k) = 0 ∨ s.rd d (F.MDR_CH_CFG_fb_kind k) = 3 then chRun else chAlign
   (∀ o, completes (.mdrChStart d k o) s fun t =>
     let may := st = chOff ∧ roleMode (s.role d k) (s.rd d (F.MDR_CH_CFG_ref_mode k)) = true ∧ s.rd 0 F.BAY_STATUS_trip = 0
     (¬may → t.rd d (F.MDR_CH_EVENT_write_reject k) = 1 ∧ reportsOnly s t d (fltPos d (chBlock k)) .c [F.MDR_CH_EVENT_write_reject k]) ∧
     (may → (t.chan d k).offset = shuntOffset (s.chan d k).offs o ∧ (t.chan d k).theta0 = (s.chan d k).turned ∧ (t.chan d k).p0 = s.tbTick d ∧
       (t.chan d k).bemfMin = s.rd d (F.MDR_CH_CATCH_bemf_min k) ∧ (t.chan d k).catchAt = s.now ∧
       (t.chan d k).catchMs = min 20 (s.rd d (F.MDR_CH_CATCH_catch_ms k)) ∧ (t.chan d k).ests = [] ∧ (t.chan d k).shaftSet = false ∧
       t.rd d (F.MDR_CH_STATUS_running k) = 1 ∧ t.flt.inbox = s.flt.inbox) ∧
     (may → s.rd d (F.MDR_CH_CFG_catch_en k) = 1 → t.chState d k = chCatch) ∧
     (may → s.rd d (F.MDR_CH_CFG_catch_en k) = 0 → standstill t)) ∧
   (completes (.mdrChStop d k) s fun t =>
     ((st = chCatch ∨ st = chAlign) → t.chState d k = chOff) ∧
     ((st = chRun ∨ st = chBrake) → t.chState d k = chStopping ∧ (t.chan d k).holdMs = s.rd d (F.MDR_CH_HOLD_hold_ms k)) ∧
     (st ≠ chCatch → st ≠ chAlign → st ≠ chRun → st ≠ chBrake → t = s)) ∧
   (completes (.mdrChClear d k) s fun t =>
     let held := (s.bus d).sampled = true ∧ s.rd d F.MDR_STATUS_bus_ok = 0 ∨ (s.chan d k).gateLow = true ∨ (s.chan d k).fbBad = true ∨
       s.rd 0 F.BAY_STATUS_trip = 1
     (st ≠ chCoast → t = s) ∧
     (st = chCoast → held → t.rd d (F.MDR_CH_EVENT_write_reject k) = 1 ∧
       reportsOnly s t d (fltPos d (chBlock k)) .c [F.MDR_CH_EVENT_write_reject k]) ∧
     (st = chCoast → ¬held → t.chState d k = chOff ∧ (t.chan d k).faulted = false ∧ (t.chan d k).fStop = false ∧
       t = { s with regs := t.regs, chans := t.chans } ∧
       regsKept s t d (⟨F.FLT_F_ACTIVE_f_active.off, fltPos d .mdr, fltPos d .mdr⟩ :: stopRegs))) ∧
   (let x := (s.chan d k).ests.headD (0, 0, 0)
    let agreed := estsAgree (s.chan d k).ests
    let due := st = chCatch ∧ (agreed = true ∨ (s.chan d k).catchAt + 100000 * (s.chan d k).catchMs ≤ s.now)
    completes (.catchEnd d k) s fun t =>
      let ref := s.chDirection d k
      let against := ref < 0 ∧ 0 < x.2.1 ∨ 0 < ref ∧ x.2.1 < 0
      let slow := x.2.1.natAbs ≤ 8 * s.rd d (F.MDR_CH_REV_MAX_rev_max k)
      (¬due → t = s) ∧
      (due → agreed = false → (s.chan d k).bemfMin ≤ x.1 → t.chState d k = chCoast ∧ t.rd d (F.MDR_CH_EVENT_catch_fail_s k) = 1 ∧
        t.rd d (F.MDR_CH_FLT_CNT_flt k) = satN 20 (s.rd d (F.MDR_CH_FLT_CNT_flt k) + 1) ∧ (t.chan d k).faulted = true) ∧
      (due → x.1 < (s.chan d k).bemfMin → t.rd d (F.MDR_CH_STATUS_catch_result k) = 0 ∧ standstill t) ∧
      (due → agreed = true → (s.chan d k).bemfMin ≤ x.1 → t.rdS d (F.MDR_CH_SPEED_speed k) = satS 20 x.2.1 ∧
        (t.chan d k).angle = x.2.2 % 0x100000 / (s.rd d (F.MDR_CH_CFG_pole_pairs k) + 1) ∧
        (t.rd d (F.MDR_CH_STATUS_catch_result k) = if against then (if slow then 2 else 3) else 1) ∧
        (t.chState d k = if against ∧ ¬slow then chBrake else chRun) ∧
        (against ∧ ¬slow → t.rd d (F.MDR_CH_STATUS_rev_hold k) = 1))) ∧
   (completes (.alignEnd d k) s fun t =>
     let due := st = chAlign ∧ 100000000 ≤ (s.chan d k).periods * s.pwmPeriod d k
     (¬due → t = s) ∧
     (due → t.chState d k = chRun ∧ (t.chan d k).zero = ((s.chan d k).zero + (s.chan d k).angle) % 0x100000 ∧ (t.chan d k).angle = 0)) ∧
   (completes (.holdEnd d k) s fun t =>
     let due := ∃ a, (s.chan d k).holdAt = some a ∧ a + 1000000 * (s.chan d k).holdMs ≤ s.now
     (¬due → t = s) ∧
     (due → st = chHold → t.chState d k = chCoast ∧ t = { s with regs := t.regs, chans := t.chans } ∧ regsKept s t d stopRegs) ∧
     (due → st ≠ chHold → s.tensionRests d k = false → t = s) ∧
     (due → st ≠ chHold → s.tensionRests d k = true → t.flt.shadows.contains (.motorStop d k) = true ∧
       t = { s with chans := t.chans, flt := { s.flt with shadows := t.flt.shadows, shadowT := t.flt.shadowT } } ∧
       t.chan d k = { s.chan d k with unload := some (s.now, (s.chan d k).iqDemand) })))

/-- A PWM period takes the feedback in every state, runs the current loop of a driven channel with duties inside the period, keeps an estimate in CATCH, and
coasts a channel whose feedback is lost; a speed sample, after spd_div periods, shows the mean of two angle differences, moves the reference no faster than
the channel's limits, keeps the demand inside its current limit, and ends a controlled stop in HOLD; the faults of a channel stop it and take the class of its
role (R291, R293, R299, R300, R303, R308, R310).
Model's own choices it touches: log entries 9, 187, 188, 228. -/
def Obligations.MotorLoops : Prop := ∀ (s : State) (d k : Nat), s.hasChan d k = true → k < (s.chans.getD d []).length →
  let st := s.chState d k
  (∀ m : PwmSample, s.memClean d 6 →
    let x := s.fbTake d k m
    let c := (x.chAngle d k m).chan d k
    (s.rd d (F.MDR_CH_CFG_fb_kind k) = 0 →
      c.fbBad = decide (((x.chan d k).hall = 0 ∨ (x.chan d k).hall = 7) ∧ (s.chan d k).hallBad = true)) ∧
    ((st = chOff ∨ st = chCoast ∨ st = chCatch ∧ c.fbBad = false) → completes (.pwmPeriod d k m) s fun t =>
      let u := t.chan d k
      u.angle < 0x100000 ∧ u.turned = (s.chan d k).turned + sgn 20 (u.angle + 0x100000 - (s.chan d k).angle) ∧ u.since = (s.chan d k).since + 1 ∧
      u.fbq = m.fb.map (fun e => (s.tbNow d + e.1, e.2)) ∧ u.hall = (x.chan d k).hall ∧ u.gateLow = m.gflt ∧ u.fbBad = c.fbBad ∧
      t.rd d (F.MDR_CH_EANGLE_angle k) = u.angle * (s.rd d (F.MDR_CH_CFG_pole_pairs k) + 1) % 0x100000 ∧
      (st = chCatch → u.ests = (m.amp, m.speed, m.eangle) :: (s.chan d k).ests.take 3) ∧ (st ≠ chCatch → u.ests = (s.chan d k).ests) ∧
      (st = chOff → u.offs = (m.i1 :: (s.chan d k).offs).take 256) ∧ (st ≠ chOff → u.offs = (s.chan d k).offs) ∧
      u = { s.chan d k with angle := u.angle, turned := u.turned, enc := u.enc, mech := u.mech, hall := u.hall, hallBad := u.hallBad, zBad := u.zBad,
                            fbq := u.fbq, fbBad := u.fbBad, gateLow := u.gateLow, since := u.since, shaftZero := u.shaftZero,
                            shaftSet := u.shaftSet, zRef := u.zRef, ests := u.ests, periods := u.periods, offs := u.offs } ∧
      t = { s with regs := t.regs, chans := t.chans } ∧
      regsKept s t d (F.MDR_CH_EANGLE_angle k :: if d = 0 then [⟨F.FLT_F_ACTIVE_f_active.off, 12, 12⟩] else [])) ∧
    (st ≠ chOff → st ≠ chCoast → c.fbBad = true → completes (.pwmPeriod d k m) s fun t =>
      t.chState d k = chCoast ∧ t.rd d (F.MDR_CH_EVENT_fb_s k) = 1 ∧ (t.chan d k).faulted = true) ∧
    (st ≠ chOff → st ≠ chCoast → st ≠ chCatch → c.fbBad = false → completes (.pwmPeriod d k m) s fun t =>
      t.chState d k = st ∧ (t.chan d k).periods = (s.chan d k).periods + 1 ∧ (t.chan d k).duty.length = 3 ∧
      (∀ x ∈ (t.chan d k).duty, 0 ≤ x ∧ x ≤ 0x100000) ∧ t = { s with regs := t.regs, chans := t.chans } ∧ diesKept s t d)) ∧
  ((s.chan d k).since < max 1 (s.rd d (F.MDR_CH_SPD_DIV_spd_div k)) → completes (.speedSample d k) s fun t => t = s) ∧
  (max 1 (s.rd d (F.MDR_CH_SPD_DIV_spd_div k)) ≤ (s.chan d k).since → s.memClean d 6 → completes (.speedSample d k) s fun t =>
    let raw := rdiv (((s.chan d k).turned - (s.chan d k).turnedAt) * 480000000000) (1048576 * s.speedInterval d k)
    t.rdS d (F.MDR_CH_SPEED_speed k) = satS 20 (rdiv (raw + (s.chan d k).rawSpeed) 2) ∧ (t.chan d k).rawSpeed = raw ∧ (t.chan d k).since = 0 ∧
    (st < chRun ∨ st = chCoast → t.chState d k = st ∧ (t.chan d k).lim = (s.chan d k).lim) ∧
    (st = chRun → s.rd d F.MDR_STATUS_clamp = 0 → s.rd d (F.MDR_CH_CFG_ref_mode k) ≠ 2 → ((t.chan d k).lim - (s.chan d k).lim).natAbs ≤
      8 * s.speedInterval d k * max (s.rd d (F.MDR_CH_ACC_MAX_acc_max k)) (s.rd d (F.MDR_CH_DEC_MAX_dec_max k))) ∧
    (st = chRun → s.rd d (F.MDR_CH_CFG_ref_mode k) ≠ 2 → (t.chan d k).iqDemand.natAbs ≤ s.rd d (F.MDR_CH_ILIM_i_lim k)) ∧
    (st = chStopping → (s.chan d k).unload = none → (t.chan d k).lim = 0 → t.chState d k = chHold ∧ (t.chan d k).holdAt = some s.now) ∧
    ((s.chan d k).fStop = false → t.flt = s.flt ∨ k = 4 ∧ (s.scn d).inSweep = true) ∧
    ((k = 4 → (s.scn d).inSweep = false) → diesKept s t d ∧
      t = { s with regs := t.regs, chans := t.chans, flt := { s.flt with shadows := t.flt.shadows, shadowT := t.flt.shadowT } })) ∧
  (completes (.follow d k) s fun t =>
    let follows := chRun ≤ st ∧ st ≤ chHold ∧ (st ≤ chBrake ∨ (s.chan d k).faulted = false)
    (follows → s.chFollowing d k = true → t.chState d k = (if st = chHold then chHold else chStopping) ∧ t.rd d (F.MDR_CH_EVENT_fol_s k) = 1 ∧
      t.rd d (F.MDR_CH_FLT_CNT_flt k) = satN 20 (s.rd d (F.MDR_CH_FLT_CNT_flt k) + 1)) ∧
    ((¬follows ∨ s.chFollowing d k = false) → t = s)) ∧
  (∀ x ∈ [(Instr.overcurrent d k, F.MDR_CH_EVENT_oc_s k), (.gateFault d k, F.MDR_CH_EVENT_gate_s k)], completes x.1 s fun t =>
    ((st = chOff ∨ st = chCoast ∧ x.1 = .gateFault d k) → t = s) ∧
    (st = chCoast → x.1 = .overcurrent d k → t.rd d x.2 = 1 ∧ onlyRegs s t ∧ regsKept s t d [x.2]) ∧
    (st ≠ chOff → st ≠ chCoast → t.chState d k = chCoast ∧ t.rd d x.2 = 1 ∧ (t.chan d k).faulted = true ∧
      t.rd d (F.MDR_CH_FLT_CNT_flt k) = satN 20 (s.rd d (F.MDR_CH_FLT_CNT_flt k) + 1) ∧
      (d = 0 → x.1 = .overcurrent d k → ∃ r ∈ t.flt.inbox, r.die = 0 ∧ r.pos = 12 ∧ r.src = k ∧ r.cls = .f) ∧
      (d = 0 → t.rd 0 F.HVC_STATUS_safeoff = 1 ∨ (s.hvc 0).causes ≠ []) ∧
      (d ≠ 0 → k = 4 → t.rd d F.SCN_STATUS_state = 7 ∧ t.rd d F.SCN_EVENT_motor_s = 1) ∧
      (d ≠ 0 → k ≠ 4 → d < s.stations.length → (t.stn d).blanks.contains (.motor (s.role d k)) = true ∧ t.rd d F.LSR_STATUS_lso = 1)))

/-- The motor bus: a sample shows the bus and whether it is in range, drives the hub's chopper between its thresholds, and trips every channel with an F-class fault
above the trip level; an undervoltage of 1 ms coasts every channel; a chopper condition that has held for chop_det is a fault that holds the chopper off, and
a shorted one is an F-class fault; the bus is cleared below chop_on only (R305 to R307, R312). -/
def Obligations.MotorBus : Prop := ∀ (s : State) (d : Nat), s.hasDie d = true → d < s.buses.length →
  (∀ v i, v < 0x100000 → completes (.busSample d v i) s fun t =>
    let trip := s.rd d F.MDR_BUS_TRIP_trip
    let act : Fld := ⟨F.FLT_F_ACTIVE_f_active.off, fltPos d .mdr, fltPos d .mdr⟩
    let free := (s.bus 0).lastSwitch = 0 ∨ (s.bus 0).lastSwitch + 10000 ≤ s.now
    let on := s.rd d F.MDR_STATUS_chop_on = 1
    let imin := s.rd d F.MDR_CHOP_IMIN_chop_imin
    t.rd d F.MDR_BUS_V_v = v ∧ (t.bus d).hist = (v :: (s.bus d).hist).take 101 ∧ (t.bus d).sampled = true ∧
    (t.bus d).uvRun = (if v < s.rd d F.MDR_BUS_UV_uv then (s.bus d).uvRun + 1 else 0) ∧
    (t.bus d).openRun = (if on ∧ i < imin then (s.bus d).openRun + 1 else 0) ∧ (t.bus d).shortRun = (if ¬on ∧ imin < i then (s.bus d).shortRun + 1 else 0) ∧
    t.rd d F.MDR_STATUS_bus_ok = b2n (decide (s.rd d F.MDR_BUS_UV_uv ≤ v ∧ v ≤ trip)) ∧
    (d = 0 → (s.bus 0).chopFault = false → ¬on → s.rd 0 F.MDR_CHOP_ON_chop_on < v → free →
      t.rd 0 F.MDR_STATUS_chop_on = 1) ∧
    (d = 0 → (s.bus 0).chopFault = false → on →
      v < min (s.rd 0 F.MDR_CHOP_ON_chop_on) (s.rd 0 F.MDR_CHOP_OFF_chop_off) → free → t.rd 0 F.MDR_STATUS_chop_on = 0) ∧
    (d = 0 → ¬free → (s.bus 0).chopFault = false → t.rd 0 F.MDR_STATUS_chop_on = s.rd 0 F.MDR_STATUS_chop_on) ∧
    (d = 0 → (s.bus 0).chopFault = true → t.rd 0 F.MDR_STATUS_chop_on = 0) ∧
    (trip < v → s.rd d F.MDR_BUS_V_v ≤ trip → t.rd d F.MDR_STATUS_trip_s = 1 ∧ t.rd d act = 1 ∧
      (∀ k ∈ chanList d, t.chState d k = chOff ∨ t.chState d k = chCoast) ∧
      ∃ r ∈ t.flt.inbox, r.die = d ∧ r.pos = fltPos d .mdr ∧ r.cls = .f) ∧
    (v ≤ trip → t.chans = s.chans ∧ t.flt = s.flt ∧
      let persists := ∃ k ∈ chanList 0, (s.chan 0 k).faulted = true ∧
        ((s.chan 0 k).gateLow = true ∨ (s.chan 0 k).fbBad = true ∨ 1000 ≤ (t.bus 0).uvRun)
      t.rd d act = if d = 0 ∧ (s.rd 0 F.MDR_STATUS_chop_short = 1 ∨ persists) then 1 else 0)) ∧
  (completes (.busUndervoltage d) s fun t =>
    ((s.bus d).uvRun < 1000 → t = s) ∧
    (1000 ≤ (s.bus d).uvRun → t.rd d F.MDR_STATUS_uv_s = 1 ∧
      (∀ k ∈ chanList d, t.chState d k = chOff ∨ t.chState d k = chCoast) ∧
      ∀ k ∈ chanList d, s.chState d k ≠ chOff → s.chState d k ≠ chCoast → t.rd d (F.MDR_CH_EVENT_uv_s k) = 1)) ∧
  (∀ kind, completes (.chopperFault kind) s fun t =>
    let b := s.bus 0
    let holds := (kind = .openCircuit ∧ b.chopFault = false ∧ b.det ≤ b.openRun) ∨ (kind = .slope ∧ b.chopFault = false ∧ b.det ≤ b.slopeRun) ∨
      (kind = .shorted ∧ s.rd 0 F.MDR_STATUS_chop_short = 0 ∧ b.det ≤ b.shortRun)
    (¬holds → t = s) ∧
    (holds → 0 < s.buses.length → t.rd 0 F.MDR_STATUS_chop_flt_s = 1 ∧ (t.bus 0).chopFault = true ∧
      (kind = .shorted → t.rd 0 F.MDR_STATUS_chop_short = 1 ∧ ∃ r ∈ t.flt.inbox, r.die = 0 ∧ r.pos = 12 ∧ r.cls = .f) ∧
      (kind = .openCircuit → reportsOne s t 0 12 .u) ∧
      (kind ≠ .shorted → t.rd 0 F.MDR_STATUS_chop_on = 0))) ∧
  (completes (.mdrClear d) s fun t =>
    (d = 0 → s.rd 0 F.MDR_CHOP_ON_chop_on < s.rd 0 F.MDR_BUS_V_v → t.rd 0 F.MDR_STATUS_write_reject = 1 ∧
      reportsOnly s t 0 12 .c [F.MDR_STATUS_write_reject]) ∧
    (d ≠ 0 ∨ s.rd 0 F.MDR_BUS_V_v ≤ s.rd 0 F.MDR_CHOP_ON_chop_on → (t.bus d).chopFault = false ∧ t.rd d F.MDR_STATUS_chop_short = 0 ∧
      t = { s with regs := t.regs, buses := t.buses } ∧
      regsKept s t d [F.MDR_STATUS_chop_short, F.MDR_STATUS_clamp, ⟨F.FLT_F_ACTIVE_f_active.off, fltPos d .mdr, fltPos d .mdr⟩]))
/-- A profile step runs from boot step 6 only. The web profile never passes its target under the rate limits alone; an axis that is not moving keeps its
position; with bus_en a frame of ten elements is sent whose header carries the sequence number, and each bad reply is counted; without it nothing but the
profiles' own state and the hub's registers changes (R315, R316, R320, R326, R327).
Model's own choices it touches: log entries 101, 102, 136, 238. -/
def Obligations.ProfileStep : Prop := ∀ (s : State) (replies : List Nat),
  (s.boot.phase ≠ .released → completes (.profileStep replies) s fun t => t = s) ∧
  (s.boot.phase = .released → completes (.profileStep replies) s fun t =>
    (s.rd 0 F.AXS_WEB_JERK_web_jerk = 0 → s.clampOn 0 = false →
      t.prof.v ≤ max (max s.prof.v (s.vel * profUnit)) (s.profTarget * profUnit)) ∧
    (∀ x, x < 8 → s.axState x ≠ axMove → s.axState x ≠ axBrake → (s.axState x = axHold → (s.axis x).newTgt = false) →
      (t.axis x).pos = (s.axis x).pos) ∧
    (s.rd 0 F.AXS_CTRL_bus_en = 0 → t.prof.seq = s.prof.seq ∧ t.prof.frame = s.prof.frame ∧
      (s.memClean 0 6 → t = { s with regs := t.regs, axes := t.axes, prof := t.prof })) ∧
    (s.rd 0 F.AXS_CTRL_bus_en = 1 → t.prof.seq = (s.prof.seq + 1) % 16 ∧ t.prof.frame.length = 10 ∧
      t.prof.frame.headD 0 = s.prof.seq % 16 * 16 + 0xA ∧
      t.rd 0 F.AXS_BUS_BAD_CNT_bad = satN 20 (s.rd 0 F.AXS_BUS_BAD_CNT_bad +
        ((List.range 8).filter fun x => let w := replies.getD x 0 % 65536
          !w.testBit 15 || ones w % 2 == 0).length)) ∧
    diesKept s t 0)

/-- The commands of an axis: a target is written whole; enable is taken in OFF only, disable takes the axis to OFF at rest and is refused in FAULT, preset loads the
target into the position with the table address unchanged and is refused from MOVE on, clear leads from FAULT to OFF; a refused command sets write_reject and
reports a C-class event (R320, R323, R328, R329).
Model's own choices it touches: log entries 101, 238. -/
def Obligations.AxisCommands : Prop := ∀ (s : State) (x : Nat), x < 8 → x < s.axes.length →
  let st := s.axState x
  let refused : State → Prop := fun t => t.rd 0 (F.AXS_AX_STATUS_write_reject x) = 1 ∧
    reportsOnly s t 0 (fltPos 0 .axs) .c [F.AXS_AX_STATUS_write_reject x]
  let stateFields := [F.AXS_AX_STATUS_state x, F.AXS_AX_STATUS_rev_hold x, F.AXS_AX_STATUS_cur x]
  (∀ v, completes (.axisTgtWrite x v) s fun t => t.rd40 0 (P.AXS_AX_TGT x) = v % 2 ^ 40 ∧ (t.axis x).newTgt = true ∧
    (t.axis x).pos = (s.axis x).pos ∧ t = { s with regs := t.regs, axes := t.axes } ∧
    regsKept s t 0 [⟨P.AXS_AX_TGT x, 19, 0⟩, ⟨P.AXS_AX_TGT x + 4, 19, 0⟩]) ∧
  (completes (.axisEnable x) s fun t => (st ≠ axOff → refused t) ∧
    (st = axOff → t.axState x = axHold ∧ (t.axis x).v = 0 ∧ (t.axis x).pos = (s.axis x).pos ∧ t.rd 0 (F.AXS_AX_STATUS_cur x) = 1 ∧
      t.rd 0 (F.AXS_AX_VEL_vel x) = 0 ∧ t = { s with regs := t.regs, axes := t.axes } ∧
      regsKept s t 0 (F.AXS_AX_VEL_vel x :: ⟨P.AXS_AX_POS x, 19, 0⟩ :: ⟨P.AXS_AX_POS x + 4, 19, 0⟩ :: stateFields))) ∧
  (completes (.axisDisable x) s fun t => (st = axFault → refused t) ∧
    (st = axHold → t.axState x = axOff ∧ t.rd 0 (F.AXS_AX_STATUS_cur x) = 0 ∧ onlyRegs s t ∧ regsKept s t 0 stateFields) ∧
    (st = axMove ∨ st = axBrake → (t.axis x).toRest = some axOff ∧ t = { s with axes := t.axes }) ∧
    (st = axOff → t = s)) ∧
  (completes (.axisPreset x) s fun t => (axMove ≤ st → refused t) ∧
    (st < axMove → (t.axis x).pos = s.rdS40 0 (P.AXS_AX_TGT x) * 65536 ∧ t.axAddr x = s.axAddr x ∧ (t.axis x).backlog = 0 ∧
      t.rdS40 0 (P.AXS_AX_ENC_POS x) = s.rdS40 0 (P.AXS_AX_TGT x) ∧ t.axState x = st ∧ t = { s with regs := t.regs, axes := t.axes })) ∧
  (completes (.axisClear x) s fun t => (st ≠ axFault → t = s) ∧
    (st = axFault → t.axState x = axOff ∧ t.axis x = { s.axis x with stallOn := false, lostOn := false, fltOn := false } ∧
      t = { s with regs := t.regs, axes := t.axes } ∧ regsKept s t 0 stateFields))

/-- The temperatures: a conversion shows all eight readings of a die and fails or keeps its sensors, and the die's and the package's maxima are those of their hottest
live sensor and die; a station sample shows its thermistors and lets a gate fall at once; a gate rises only after n_conf good samples (R332 to R335).
Model's own choices it touches: log entries 104, 105, 106. -/
def Obligations.Temperatures : Prop := ∀ (s : State) (d : Nat),
  (s.hasDie d = true → d < s.thms.length → s.variantOk = true → ∀ temps : List Int, completes (.thmConversion d temps) s fun t =>
    (∀ i, i < 8 → t.rdS d (F.THM_SENS_temp i) = satS 12 (temps.getD i 0) ∧
      (thmValid (temps.getD i 0) = false → t.rd d (F.THM_SENS_fail i) = 1) ∧
      (thmValid (temps.getD i 0) = true → s.rd d (F.THM_SENS_fail i) = 0 → t.rd d (F.THM_SENS_fail i) = 0)) ∧
    (t.thmLive d ≠ [] → let h := t.rd d F.THM_DIE_hottest
      t.rd d (F.THM_SENS_fail h) = 0 ∧ t.rd d F.THM_DIE_max = t.rd d (F.THM_SENS_temp h) ∧
      ∀ i ∈ t.thmLive d, t.rdS d (F.THM_SENS_temp i) ≤ t.rdS d F.THM_DIE_max) ∧
    t.rd 0 F.THM_PKG_max = t.rd (t.rd 0 F.THM_PKG_die) F.THM_DIE_max ∧
    (∀ e ∈ t.dies, t.rdS e F.THM_DIE_max ≤ t.rdS 0 F.THM_PKG_max) ∧
    t.rd d F.THM_STATUS_warn = b2n (t.thmAt d (t.rdS 0 F.THM_WARN_warn)) ∧ t.rd d F.THM_STATUS_crit = b2n (t.thmAt d (t.rdS 0 F.THM_CRIT_crit)) ∧
    (t.thmDie d).warnRun = runOn (t.thmAt d (t.rdS 0 F.THM_WARN_warn)) (s.thmDie d).warnRun ∧
    t.rd 0 ⟨F.FLT_F_ACTIVE_f_active.off, fltPos 0 .thm, fltPos 0 .thm⟩ =
      b2n (s.on 0 F.THM_PSTATUS_crit && !s.dies.all fun e => t.thmCool e (t.rdS 0 F.THM_CRIT_crit)) ∧
    (s.promotes d (fltPos d .thm) = false → s.memClean d 6 →
      t = { s with regs := t.regs, thms := t.thms, flt := { s.flt with inbox := t.flt.inbox } }) ∧
    ∀ (e : Nat) (g : Fld), g.off < 0x100000 → e ≠ d → e ≠ 0 → t.rd e g = s.rd e g) ∧
  (s.hasStn d = true → d < s.thms.length → ∀ fracs : List Nat, completes (.thmExtSample d fracs) s fun t =>
    (∀ j, j < 4 →
      t.rdS d (F.THM_EXT_TEMP_temp j) = satS 12 (s.thmLin d (fracs.getD j 0)) ∧
      (fracValid (fracs.getD j 0) = false → t.rd d (F.THM_EXT_TEMP_fail j) = 1)) ∧
    t.rd d F.THM_STATUS_write_ok = b2n (s.on d F.THM_STATUS_write_ok && t.writeInside d 0) ∧
    t.rd d F.THM_STATUS_charge_ok = b2n (s.on d F.THM_STATUS_charge_ok && t.chargeInside d 0) ∧
    (s.rd d F.THM_STATUS_write_ok = 1 → t.writeInside d 0 = false → t.rd d F.LSR_STATUS_write_ok = 0) ∧
    (s.rd d F.THM_STATUS_charge_ok = 1 → t.chargeInside d 0 = false → t.rd d F.HVC_STATUS_charge_ok = 0 ∧
      t.rd d F.HVC_STATUS_chg_forbid = 1) ∧
    (t.thmDie d).wrGood = runOn (t.writeInside d 5) (s.thmDie d).wrGood ∧ diesKept s t d) ∧
  (s.hasStn d = true →
    (completes (.gateRise d false) s fun t =>
      let due := s.rd d F.THM_STATUS_write_ok = 0 ∧ s.thmConf ≤ (s.thmDie d).wrGood
      (¬due → t = s) ∧ (due → t.rd d F.THM_STATUS_write_ok = 1 ∧ t.rd d F.LSR_STATUS_write_ok = 1 ∧
        (d < s.lsrs.length → (t.lsr d).okSince = some s.now ∧ (t.lsr d).reentry = s.rd d F.LSR_WRITE_REENTRY_TIME_reentry) ∧
        (s.rd d F.LSR_STATUS_forbid = 1 → t.rd d F.LSR_STATUS_reentry = 1) ∧ t = { s with regs := t.regs, lsrs := t.lsrs } ∧
        regsKept s t d [F.THM_STATUS_write_ok, F.LSR_STATUS_write_ok, F.LSR_STATUS_reentry])) ∧
    (completes (.gateRise d true) s fun t =>
      let due := s.rd d F.THM_STATUS_charge_ok = 0 ∧ s.thmConf ≤ (s.thmDie d).chgGood
      (¬due → t = s) ∧ (due → t.rd d F.THM_STATUS_charge_ok = 1 ∧ t.rd d F.HVC_STATUS_charge_ok = 1 ∧
        (d < s.hvcs.length → (t.hvc d).arc = s.rd d F.HVC_CHG_ARC_chg_arc) ∧
        t = { s with regs := t.regs, lpes := t.lpes, hvcs := t.hvcs } ∧ diesKept s t d)))

/-- Thermal protection of the package: WARN asks the press to slow, the time of grace ends in a bound on the web, and a release after its own time, or a clear, takes both back;
CRIT finishes the frames in progress where they fit its budget and else blanks them, then stops the web and makes every die safe once it has rested; a trip coasts every motor and makes every die safe at
once (R336 to R340).
Model's own choices it touches: log entries 107, 108, 109, 111. -/
def Obligations.ThermalPhases : Prop := ∀ s : State,
  (completes .warnEntry s fun t =>
    let due := s.rd 0 F.THM_PSTATUS_warn = 0 ∧ ∃ d ∈ s.dies, s.thmConf ≤ (s.thmDie d).warnRun
    (¬due → t = s) ∧
    (due → t.rd 0 F.THM_PSTATUS_warn = 1 ∧ t.rd 0 F.THM_PSTATUS_warn_s = 1 ∧ t.rd 0 F.THM_PSTATUS_slow_request = 1 ∧
      t.rd 0 ⟨0xE0020, 4, 4⟩ = 1 ∧ reportsOne s t 0 (fltPos 0 .thm) .c ∧
      (let waits := s.thm.bound || s.critDue || s.on 0 F.THM_PSTATUS_crit
       t.rd 0 F.THM_PSTATUS_grace_run = (if waits then s.rd 0 F.THM_PSTATUS_grace_run else 1) ∧
       t.thm = { s.thm with releasing := false, graceAt := if waits then s.thm.graceAt
         else s.now + 100000000 * max 5 (min 600 (s.rd 0 F.THM_GRACE_grace)) }) ∧
      (s.promotes 0 (fltPos 0 .thm) = false → t = { s with regs := t.regs, flt := { s.flt with inbox := t.flt.inbox }, hif := t.hif, thm := t.thm, plk := t.plk }))) ∧
  (let cleared : State → Prop := fun t => t.rd 0 F.THM_PSTATUS_warn = 0 ∧ t.thm.bound = s.thm.bound ∧
      (s.rd 0 F.THM_PSTATUS_grace_run = 1 → t.rd 0 F.THM_PSTATUS_grace_run = 0 ∧ t.rd 0 F.THM_PSTATUS_slow_request = 0 ∧ t.thm = s.thm) ∧
      (s.rd 0 F.THM_PSTATUS_grace_run = 0 →
        t.thm = { s.thm with releasing := true, releaseAt := s.now + 1000000000 * s.rd 0 F.THM_RELEASE_release } ∧ t.rd 0 F.THM_PSTATUS_slow_request = s.rd 0 F.THM_PSTATUS_slow_request) ∧
      t = { s with regs := t.regs, thm := t.thm, plk := t.plk }
   (completes .warnClear s fun t => let due := s.rd 0 F.THM_PSTATUS_warn = 1 ∧ s.warnOver = true
      (¬due → t = s) ∧ (due → cleared t)) ∧
   (completes .graceExpiry s fun t => let due := s.rd 0 F.THM_PSTATUS_grace_run = 1 ∧ s.rd 0 F.THM_PSTATUS_warn = 1 ∧ s.thm.graceAt ≤ s.now
      (¬due → t = s) ∧ (due → s.warnOver = true → cleared t) ∧
      (due → s.warnOver = false → t.thm.bound = true ∧ t.rd 0 F.THM_PSTATUS_grace_run = 0 ∧ t.rd 0 F.THM_PSTATUS_warn = 1 ∧
        (s.rd 0 F.THM_SLOW_V_slow_v < s.vel → t.rd 0 F.THM_PSTATUS_enforced = 1 ∧ t.rd 0 F.THM_PSTATUS_enf_s = 1 ∧
          t.rd 0 F.THM_ENF_CNT_enf_cnt = satN 20 (s.rd 0 F.THM_ENF_CNT_enf_cnt + 1)) ∧
        (s.vel ≤ s.rd 0 F.THM_SLOW_V_slow_v → t = { s with regs := t.regs, thm := t.thm } ∧ regsKept s t 0 [F.THM_PSTATUS_grace_run])))) ∧
  (completes .releaseExpiry s fun t => let due := s.thm.releasing = true ∧ s.rd 0 F.THM_PSTATUS_warn = 0 ∧ s.thm.releaseAt ≤ s.now
    (¬due → t = s) ∧ (due → t.thm = { s.thm with bound := false, releasing := false } ∧ t.rd 0 F.THM_PSTATUS_slow_request = 0 ∧
      t.rd 0 F.THM_PSTATUS_enforced = 0 ∧ t = { s with regs := t.regs, hif := t.hif, thm := t.thm, plk := t.plk })) ∧
  (completes .critEntry s fun t => let due := s.rd 0 F.THM_PSTATUS_crit = 0 ∧ s.critDue = true
    let fresh := s.rd 0 F.FLT_PKG_state = 0 ∧ s.rd 0 F.THM_PSTATUS_phase = 0
    let fits := s.finishFits s.finishPoint = true
    (¬due → t = s) ∧
    (due → t.rd 0 F.THM_PSTATUS_crit = 1 ∧ t.rd 0 F.THM_PSTATUS_crit_s = 1 ∧ reportsOne s t 0 (fltPos 0 .thm) .f ∧
      (¬fresh → t.rd 0 F.THM_PSTATUS_phase = s.rd 0 F.THM_PSTATUS_phase) ∧
      (fresh → s.framesInProgress = [] → t.rd 0 F.THM_PSTATUS_phase = 2 ∧ t.prof.stop = true) ∧
      (fresh → s.framesInProgress ≠ [] → fits → 0 < s.finishPoint → t.rd 0 F.THM_PSTATUS_phase = 1 ∧ t.prof = s.prof ∧
        t.thm.pfin = posAdd s.pos s.finishPoint) ∧
      (fresh → s.framesInProgress ≠ [] → fits → s.finishPoint ≤ 0 → t.rd 0 F.THM_PSTATUS_phase = 2 ∧ t.prof.stop = true ∧
        t.stations = s.stations) ∧
      (fresh → s.framesInProgress ≠ [] → ¬fits → t.rd 0 F.THM_PSTATUS_phase = 2 ∧ t.prof.stop = true ∧
        ∀ n ∈ s.stns, n < s.stations.length → (t.stn n).blanks.contains .crit = true))) ∧
  (completes .finishPoint s fun t => let due := s.rd 0 F.THM_PSTATUS_phase = 1 ∧ (s.webDue 0 s.thm.pfin).isSome = true
    (¬due → t = s) ∧ (due → t.rd 0 F.THM_PSTATUS_phase = 2 ∧ t.prof = { s.prof with stop := true })) ∧
  (completes .phaseSafe s fun t => let due := s.rd 0 F.THM_PSTATUS_phase = 2 ∧ s.webRested = true
    (¬due → t = s) ∧ (due → t.rd 0 F.THM_PSTATUS_phase = 3 ∧ t.rd 0 F.FLT_PKG_state = 2 ∧ t.rd 0 F.HIF_ILK_STATUS_so_lsr = 1 ∧
      t.rd 0 F.HIF_ILK_STATUS_so_hv = 1 ∧ (∀ d ∈ s.dies, (s.hvc d).causes = [] → t.rd d F.HVC_STATUS_safeoff = 1) ∧
      ∀ n ∈ s.stns, t.rd n F.LSR_STATUS_lso = 1)) ∧
  (∀ d, completes (.thmTrip d) s fun t => let due := s.hasDie d = true ∧ s.rd d F.THM_STATUS_trip = 1 ∧ s.rd 0 F.BAY_STATUS_trip = 0
    (¬due → t = s) ∧ (due → t.rd 0 F.BAY_STATUS_trip = 1 ∧ t.rd 0 F.FLT_PKG_trip = 1 ∧ t.rd 0 F.THM_PSTATUS_trip_s = 1 ∧
      t.rd 0 F.HIF_ILK_STATUS_so_lsr = 1 ∧ t.rd 0 F.HIF_ILK_STATUS_so_hv = 1 ∧ t.rd 0 F.HIF_ILK_STATUS_so_mot = 1 ∧
      reportsOne s t 0 (fltPos 0 .dlk) .f ∧ (∀ n ∈ s.stns, t.rd n F.LSR_STATUS_lso = 1) ∧
      ∀ e ∈ s.dies, ∀ k ∈ chanList e, t.chState e k = chOff ∨ t.chState e k = chCoast))

/-- The fault collector: it takes the report that comes first, counts it, and reacts by its class: a C report sets its bits only, a U or F report flags its frames and
records, an F report also stops the package and cancels what has not started; a report to a position in reaction is latched, and reacted to once the reaction
ends (R346 to R352).
Model's own choices it touches: log entries 96, 97, 177, 178, 236, 237, 244. -/
def Obligations.FaultCollection : Prop := ∀ s : State,
  (s.flt.inbox = [] → completes .faultReport s fun t => t = s) ∧
  (∀ r0, s.firstReport s.flt.inbox = some r0 → r0.die < 8 → r0.pos < 20 → s.memClean 0 6 → s.memClean r0.die 6 → completes .faultReport s fun t =>
    let r := s.fltClass r0
    let busy := (s.oldReactions s.now).busyClass r
    let reacts := r.cls = .u ∧ busy = none ∨ r.cls = .f ∧ busy ≠ some .f
    let latches := r.cls = .u ∧ busy ≠ none ∨ r.cls = .f ∧ busy = some .f
    t.flt.inbox = s.flt.inbox.erase r0 ∧
    (r.esc = true → t.rd 0 F.FLT_STAT2_esc_s = 1 ∧ t.rd 0 F.FLT_ESC_CNT_esc = satN 20 (s.rd 0 F.FLT_ESC_CNT_esc + 1)) ∧
    (r0.cls = .u → (r.die, r.pos, r.src, r0.time) ∈ t.flt.lastU) ∧
    (reacts → (r.die, r.pos, r.cls, s.now) ∈ t.flt.busy) ∧
    t.rd r.die (F.FLT_RPT_CNT_rpt r.pos) = satN 20 (s.rd r.die (F.FLT_RPT_CNT_rpt r.pos) + 1) ∧
    t.rd r.die F.FLT_LAST_pos = r.pos ∧ t.rd r.die F.FLT_LAST_cls = r.cls.code ∧
    (r.cls = .c ∨ reacts → t.rd r.die (posBit F.FLT_STATUS_any r.pos) = 1) ∧
    (r.cls = .c → t.frm = s.frm ∧ t.evr = s.evr ∧ ∀ e, t.rd e F.FLT_STATUS_U_u = s.rd e F.FLT_STATUS_U_u ∧
      t.rd e F.FLT_STATUS_F_f = s.rd e F.FLT_STATUS_F_f) ∧
    (reacts → r.cls = .u → t.rd r.die (posBit F.FLT_STATUS_U_u r.pos) = 1 ∧ t.rd 0 F.FLT_PKG_state = s.rd 0 F.FLT_PKG_state ∧
      t.frm.fHeld = s.frm.fHeld) ∧
    (reacts → r.cls = .f → t.rd r.die (posBit F.FLT_STATUS_F_f r.pos) = 1 ∧ t.frm.fHeld = true ∧ (∀ f ∈ t.frm.frames, f.started = true) ∧
      t.rd 0 F.FLT_DIE_SUM_f_die % 2 ^ (r.die + 1) / 2 ^ r.die = 1 ∧
      (s.flt.firstTaken = false → t.rd 0 F.FLT_FIRST_F_die = r.die ∧ t.rd 0 F.FLT_FIRST_F_pos = r.pos) ∧
      (r.orderly = false → t.rd 0 F.FLT_PKG_state = (if s.rd 0 F.FLT_PKG_state = 2 then 2 else 1))) ∧
    (latches → t.rd r.die (posBit F.FLT_PEND_pend r.pos) = 1 ∧
      t.rd r.die (F.FLT_LATCH_CNT_latch r.pos) = satN 20 (s.rd r.die (F.FLT_LATCH_CNT_latch r.pos) + 1) ∧
      (∃ x ∈ t.flt.latched, x.die = r.die ∧ x.pos = r.pos) ∧ t.frm = s.frm ∧ t.evr = s.evr ∧
      ∀ e, t.rd e F.FLT_STATUS_any = s.rd e F.FLT_STATUS_any)) ∧
  (∀ d p, d < 8 → p < 20 → completes (.latchedReaction d p) s fun t =>
    let found := s.flt.latched.find? fun r => r.die == d && r.pos == p
    t.flt.inbox = s.flt.inbox ∧
    (found = none → t = { s with flt := { s.flt with busy := t.flt.busy } } ∧ ∀ b ∈ t.flt.busy, b.1 ≠ d ∨ b.2.1 ≠ p) ∧
    (∀ r, found = some r → s.memClean 0 6 → s.memClean d 6 → t.rd d (posBit F.FLT_PEND_pend p) = 0 ∧ t.flt.latched = s.flt.latched.erase r ∧
      t.rd d (posBit F.FLT_STATUS_any p) = 1 ∧ (r.cls = .u → t.rd d (posBit F.FLT_STATUS_U_u p) = 1) ∧
      (r.cls = .f → t.rd d (posBit F.FLT_STATUS_F_f p) = 1 ∧ t.frm.fHeld = true)))

/-- Safe-off, standstill, shadows, the FAULT_N pulse and clear_f: a safe-off reaches a die once; the package is STOPPED at standstill; a shadow's end reports what is
still asserted; clear_f is refused outside STOPPED and IDLE and while an F source is active, and else clears the F bits, the safe-offs and the stop (R352, R354,
R356, R358, R427).
Model's own choices it touches: log entries 98, 108, 230. -/
def Obligations.StopAndClear : Prop := ∀ s : State,
  (∀ d, completes (.safeOffCommand d) s fun t =>
    (d ∉ s.flt.safeOffQ → t = s) ∧
    (d ∈ s.flt.safeOffQ → d ∉ t.flt.safeOffQ ∧ t.flt.inbox = s.flt.inbox ∧ diesKept s t d ∧
      ((s.hvc d).causes = [] → t.rd d F.HVC_STATUS_safeoff = 1) ∧ (d ≠ 0 → t.rd d F.LSR_STATUS_lso = 1))) ∧
  (completes .stopped s fun t =>
    let due := s.rd 0 F.FLT_PKG_state = 1 ∧ s.webRested = true ∧ s.webHeld = false
    (¬due → t = s) ∧
    (due → t.rd 0 F.FLT_PKG_state = 2 ∧ t.rd 0 F.FRM_STATUS_stopping = 0 ∧ t.ports.motDly = false ∧
      (s.ports.motDly = true → t.rd 0 F.HIF_ILK_STATUS_so_mot = 1) ∧
      (s.fsrState ≠ fsrOff → s.fsrState ≠ fsrTrip → t.fsrState = fsrStandby))) ∧
  (∀ sh still, completes (.shadowEnd sh still) s fun t =>
    let lasts := s.flt.shadows.contains sh = true ∧ s.shadowOver sh = false
    (lasts → t = s) ∧
    (¬lasts → t.flt.shadows = s.flt.shadows.filter (· ≠ sh) ∧ (t.flt.held = s.flt.held.filter fun h => t.shadowed h.1) ∧
      (∀ h ∈ s.flt.held, t.shadowed h.1 = false → h.1 ∈ still → ∃ r ∈ t.flt.inbox, r.die = h.2.die ∧ r.pos = h.2.pos ∧ r.src = h.2.src ∧
        r.at40 = s.pos ∧ r.time = s.now ∧ r.cls = (if s.promotes h.2.die h.2.pos then .f else h.2.cls)) ∧
      ((∀ h ∈ s.flt.held, h.2.cls = .f ∨ s.promotes h.2.die h.2.pos = false) →
        (t.flt.inbox = s.flt.inbox ++ (s.flt.held.filter fun h => !t.shadowed h.1 && still.contains h.1).map fun h =>
          { h.2 with frames := s.heldFrames h.1 h.2, at40 := s.pos, time := s.now }) ∧
        t = { s with flt := { s.flt with shadows := t.flt.shadows, held := t.flt.held, inbox := t.flt.inbox } }))) ∧
  (completes .faultNPulseEnd s fun t =>
    let due := s.flt.pulseAt + s.flt.pulseNs ≤ s.now
    (¬due → t = s) ∧ (due → t = { s with flt := { s.flt with pulse := false } } ∧
      (s.rd 0 F.FLT_PKG_pin_mode = 1 → s.rd 0 F.FLT_PIN_HOLD_hold = 0 → t.faultN = false))) ∧
  (completes .clearF s fun t =>
    let refused := s.rd 0 F.FLT_PKG_state = 1 ∨ ∃ d ∈ s.dies, s.rd d F.FLT_F_ACTIVE_f_active ≠ 0
    (refused → t.rd 0 F.FLT_STAT2_write_reject = 1 ∧ reportsOnly s t 0 (fltPos 0 .flt) .c [F.FLT_STAT2_write_reject]) ∧
    (¬refused → (∀ d ∈ s.dies, t.rd d F.FLT_STATUS_F_f = 0 ∧ ((s.hvc d).causes = [.fclass] → t.rd d F.HVC_STATUS_safeoff = 0)) ∧
      (∀ n ∈ s.stns, n < s.stations.length → (s.stn n).line = [.fclass] → t.rd n F.LSR_STATUS_lso = 0) ∧
      t.rd 0 F.HIF_ILK_STATUS_so_lsr = 0 ∧ t.rd 0 F.HIF_ILK_STATUS_so_hv = 0 ∧ t.rd 0 F.HIF_ILK_STATUS_so_mot = 0 ∧
      t.rd 0 F.THM_PSTATUS_crit = 0 ∧ t.flt.firstTaken = false ∧ t.flt.inbox = s.flt.inbox ∧
      (s.rd 0 F.FLT_PKG_state = 2 ∨ s.rd 0 F.THM_PSTATUS_phase = 0 ∨ s.rd 0 F.THM_PSTATUS_phase = 3 →
        t.rd 0 F.FLT_PKG_state = 0 ∧ t.rd 0 F.THM_PSTATUS_phase = 0 ∧ t.frm.fHeld = false ∧ t.prof.stop = false)))

/-- The event recorder: a record goes from the queue into the next slot of the ring, and a critical one to the archive queue; while frozen nothing is written,
and an unfreeze puts a record of the gap ahead; the window reads a latched slot word by word and a write to the cursor discards the latch (R370 to R374).
Model's own choices it touches: log entries 115, 116, 195. -/
def Obligations.Recorder : Prop := ∀ s : State,
  let refused : State → Prop := fun t => t.rd 0 F.EVR_STATUS_write_reject = 1 ∧ reportsOnly s t 0 (fltPos 0 .evr) .c [F.EVR_STATUS_write_reject]
  (completes .recordWrite s fun t =>
    (s.evr.queue = [] ∨ s.evr.frozen = true → t = s) ∧
    (∀ r q, s.evr.queue = r :: q → s.evr.frozen = false →
      t.ringSlot s.evr.next = recordWords s.evr.lap r ∧ (∀ i, i ≠ s.evr.next → t.ringSlot i = s.ringSlot i) ∧
      t.evr.next = (s.evr.next + 1) % 4096 ∧ t.rd 0 F.EVR_HEAD_next = (s.evr.next + 1) % 4096 ∧
      (∃ l, t.evr.queue = q ++ l ∧ l.length ≤ 1 ∧ (s.evr.pendLost = 0 → l = []) ∧ ∀ x ∈ l, x.kind = 2 ∧ x.ident = s.evr.pendLost) ∧
      (r.crit = false → t.evr.arcQ = s.evr.arcQ) ∧
      (r.crit = true → s.rd 0 F.EVR_CTRL_arc_en = 1 → s.evr.arcQ.length < 8 →
        ∃ w, t.evr.arcQ = s.evr.arcQ ++ [recordWords s.evr.lap r ++ w] ∧ w.length = 4) ∧
      (r.crit = true → s.rd 0 F.EVR_CTRL_arc_en = 1 → 8 ≤ s.evr.arcQ.length → t.evr.arcQ = s.evr.arcQ ∧
        t.rd 0 F.LOV_ARC_LOST_lost = satN 20 (s.rd 0 F.LOV_ARC_LOST_lost + 1)) ∧
      t = { s with regs := t.regs, evr := t.evr, mems := t.mems })) ∧
  (completes .freeze s fun t =>
    (s.evr.frozen = true → refused t) ∧
    (s.evr.frozen = false → t.rd 0 F.EVR_STATUS_frozen = 1 ∧ t = { s with regs := t.regs, evr := { s.evr with frozen := true, frzRefused := 0 } } ∧
      regsKept s t 0 [F.EVR_STATUS_frozen])) ∧
  (completes .unfreeze s fun t =>
    (s.evr.frozen = false → refused t) ∧
    (s.evr.frozen = true → t.rd 0 F.EVR_STATUS_frozen = 0 ∧ t.evr.frozen = false ∧ t.evr.ring = s.evr.ring ∧
      (s.evr.frzRefused = 0 → t.evr.queue = s.evr.queue) ∧
      (s.evr.frzRefused ≠ 0 → ∃ g, t.evr.queue = g :: s.evr.queue ∧ g.kind = 3 ∧ g.ident = s.evr.frzRefused) ∧
      t = { s with regs := t.regs, evr := t.evr } ∧ regsKept s t 0 [F.EVR_STATUS_frozen, F.EVR_STATUS_q_level])) ∧
  (∀ path, s.pathOpen path = false → completes (.evrWinRead path) s fun t => t = s) ∧
  (∀ path, s.pathOpen path = true → completes (.evrWinRead path) s fun t =>
    let slot := s.rd 0 F.EVR_CURSOR_rec
    let w := s.rd 0 F.EVR_CURSOR_word
    t.rd 0 F.EVR_CURSOR_word = (w + 1) % 8 ∧ t.evr.ring = s.evr.ring ∧
    (w < 7 → t.rd 0 F.EVR_CURSOR_rec = slot) ∧ (w = 7 → t.rd 0 F.EVR_CURSOR_rec = (slot + 1) % 4096 ∧ t.evr.latch = none) ∧
    (w = 0 → (∀ x ∈ (s.mem 0).merge, x.mem ≠ 5) → s.memErr 0 5 (2 * slot) = 0 → s.memErr 0 5 (2 * slot + 1) = 0 →
      t.evr.latch = some ((List.range 8).map fun j => (s.ringSlot slot).getD j 0) ∧ (t.path path).data = [(s.ringSlot slot).getD 0 0]) ∧
    (w ≠ 0 → ∀ ws, s.evr.latch = some ws → (t.path path).data = [ws.getD w 0] ∧ regsKept s t 0 [F.EVR_CURSOR_rec, F.EVR_CURSOR_word])) ∧
  (∀ slot w, completes (.evrCursorWrite slot w) s fun t => t.rd 0 F.EVR_CURSOR_rec = slot % 4096 ∧ t.rd 0 F.EVR_CURSOR_word = w % 8 ∧
    t = { s with regs := t.regs, evr := { s.evr with latch := none } } ∧ regsKept s t 0 [F.EVR_CURSOR_rec, F.EVR_CURSOR_word])

/-- The Lovage store: every code-word write stores its word or, after the second failed verify, spoils it and reports; an append is refused with its result code or
held until it is written, a look-up stages the live value of its key, a compaction takes its turn; the staging buffer and the read window move on by one at each
access (R372, R375 to R379, R382).
Model's own choices it touches: log entries 112, 113, 114, 119, 192, 218. -/
def Obligations.LovageStore : Prop := ∀ s : State,
  let refused : Nat → State → Prop := fun r t => t.rd 0 F.LOV_JRESULT_result = r ∧ t.rd 0 F.LOV_STATUS_write_reject = 1 ∧
    t.rd 0 ⟨0xE0020, 7, 7⟩ = 1 ∧ reportsOne s t 0 (fltPos 0 .lov) .c ∧ (s.promotes 0 (fltPos 0 .lov) = false →
      t = { s with regs := t.regs, hif := t.hif, flt := { s.flt with inbox := t.flt.inbox } } ∧
      regsKept s t 0 [F.LOV_JRESULT_result, F.LOV_STATUS_write_reject, ⟨0xE0020, 7, 7⟩])
  (completes .archiveAppend s fun t =>
    let ended := s.bay.standby = true ∧ s.bay.arcLeft = 0
    (s.evr.arcQ = [] ∨ s.lov.work ≠ [] ∨ s.rd 0 F.LOV_STATUS_ready = 0 ∨ ended → t = s) ∧
    (∀ ws q, s.evr.arcQ = ws :: q → s.lov.work = [] → s.rd 0 F.LOV_STATUS_ready = 1 → ¬ended →
      let room := ∃ h, s.curHalf 4 = some h ∧ (s.scanHalf 4 h).2 + 5 ≤ halfSize 4
      (room → t.evr.arcQ = q ∧ t.bay = { s.bay with arcLeft := s.bay.arcLeft - 1 } ∧ ∃ l, t.lov.work = [.append 4 false l] ∧ l.length = 5) ∧
      (¬room → t.evr.arcQ = s.evr.arcQ ∧ t.bay = s.bay ∧ (s.bay.standby = true → t.lov.work = []) ∧
        (s.bay.standby = false → ∃ h g, t.lov.work = [.compact 4 h g 1 0 [] 0])) ∧
      t = { s with regs := t.regs, evr := { s.evr with arcQ := t.evr.arcQ }, lov := { s.lov with work := t.lov.work }, bay := t.bay } ∧
      regsKept s t 0 [F.LOV_STATUS_busy, F.LOV_STATUS_compact])) ∧
  (∀ ok again, completes (.codeWordWrite ok again) s fun t =>
    (s.lov.work = [] ∨ s.lovCut = true → t = s) ∧
    (∀ w more, s.lov.work = w :: more → ∀ k ws, w.next = some (k, ws) → s.lovCut = false → (∀ k', k' ≠ k → t.cw k' = s.cw k' ∧ t.cwBad k' = s.cwBad k') ∧
      ((ok || again) = true → t.cw k = ws ∧ t.cwBad k = false ∧ t.flt = s.flt) ∧
      ((ok || again) = false → t.cwBad k = true ∧ t.rd 0 F.LOV_STATUS_wfail_s = 1 ∧ reportsOne s t 0 (fltPos 0 .lov) .u ∧
        (s.lov.held = none → ∀ part l, w = .append part true l → t.rd 0 F.LOV_JRESULT_result = 6)) ∧
      (∀ part host x l, w = .append part host (x :: l) → (ok || again) = true →
        (l ≠ [] → t.lov.work = .append part host l :: more) ∧ (l = [] → host = true → s.lov.held = none → t.rd 0 F.LOV_JRESULT_result = 0)) ∧
      (∀ part half lo pos, w = .zero part half lo pos → lo < pos → t.lov.work = .zero part half lo (pos - 1) :: more))) ∧
  (∀ typ len, completes (.journalAppend typ len) s fun t =>
    let bad := typ ≠ 1 ∧ typ ≠ 2 ∨ 64 < len
    let busy := s.lovHost = true ∨ s.bay.standby = true
    (busy → refused 2 t) ∧ (¬busy → bad → refused 3 t) ∧
    (¬busy → ¬bad → s.lovFull len = true → refused 4 t) ∧
    (¬busy → ¬bad → s.lovFull len = false → t.rd 0 F.LOV_JRESULT_result = 1 ∧ t.lov.cells = s.lov.cells ∧
      (s.lov.work = [] → s.rd 0 F.LOV_STATUS_ready = 1 → ∀ h, s.curHalf 3 = some h → (s.scanHalf 3 h).2 + len + 2 ≤ halfSize 3 →
        t.lov.held = none ∧ ∃ l, t.lov.work = [.append 3 true l] ∧ l.length = len + 2) ∧
      (s.lov.work ≠ [] ∨ s.rd 0 F.LOV_STATUS_ready = 0 → t.lov.work = s.lov.work ∧
        t.lov.held = some ⟨typ, s.rd40 0 P.LOV_JKEY, (List.range len).map fun i => (s.lov.stage.drop (4 * i)).take 4⟩) ∧
      t = { s with regs := t.regs, lov := { s.lov with held := t.lov.held, work := t.lov.work } } ∧
      regsKept s t 0 [F.LOV_JRESULT_result, F.LOV_STATUS_busy, F.LOV_STATUS_compact])) ∧
  (completes .lookup s fun t =>
    let found := s.liveKey 3 (s.rd40 0 P.LOV_JKEY)
    (s.lovHost = true → refused 2 t) ∧
    (s.lovHost = false → found = none → t.rd 0 F.LOV_JRESULT_result = 5 ∧ t.rd 0 ⟨0xE0020, 7, 7⟩ = 1 ∧
      t = { s with regs := t.regs, hif := t.hif } ∧ regsKept s t 0 [F.LOV_JRESULT_result, ⟨0xE0020, 7, 7⟩]) ∧
    (s.lovHost = false → ∀ p, found = some p → t.rd 0 F.LOV_JRESULT_result = 0 ∧ t.rd 0 F.LOV_JRESULT_len = p.length % 256 ∧
      t.lov.stage.take (min 256 p.flatten.length) = p.flatten.take 256 ∧ t = { s with regs := t.regs, hif := t.hif, lov := { s.lov with stage := t.lov.stage } } ∧
      regsKept s t 0 [F.LOV_JRESULT_result, F.LOV_JRESULT_len, ⟨0xE0020, 7, 7⟩])) ∧
  (∀ part c, (part = 3 ∧ c = Instr.compactJrn ∨ part = 4 ∧ c = .compactArc) → completes c s fun t =>
    let refuses := s.lovCompacts ≠ none ∨ s.bay.standby = true
    (refuses → t.rd 0 F.LOV_STATUS_write_reject = 1 ∧ reportsOnly s t 0 (fltPos 0 .lov) .c [F.LOV_STATUS_write_reject]) ∧
    (¬refuses → t.rd 0 F.LOV_STATUS_compact = part - 2 ∧ (∃ h g, t.lov.work = s.lov.work ++ [.compact part h g 1 0 [] 0]) ∧
      t = { s with regs := t.regs, lov := { s.lov with work := t.lov.work } } ∧ regsKept s t 0 [F.LOV_STATUS_busy, F.LOV_STATUS_compact])) ∧
  (∀ path value, s.pathOpen path = false → ∀ c ∈ [Instr.rdDataRead path, .stageDataAccess path value], completes c s fun t => t = s) ∧
  (∀ path value, s.pathOpen path = true → completes (.stageDataAccess path value) s fun t =>
    let i := s.rd 0 F.LOV_STAGE_IDX_idx
    t.rd 0 F.LOV_STAGE_IDX_idx = (i + 1) % 256 ∧ regsKept s t 0 [F.LOV_STAGE_IDX_idx] ∧
    (value = none → (t.path path).data = [s.lov.stage.getD i 0] ∧ t.lov = s.lov) ∧
    (∀ v, value = some v → t = { s with regs := t.regs, lov := { s.lov with stage := s.lov.stage.set i (v % 0x100000) } })) ∧
  (∀ path, s.pathOpen path = true → completes (.rdDataRead path) s fun t =>
    let part := s.rd 0 F.LOV_RD_ADDR_part
    let j := s.rd 0 F.LOV_RD_ADDR_cw
    (t.path path).data = [if j < lovSize part then (s.cw (cwKey part j)).getD s.lov.rdWord 0 else 0] ∧
    (s.lov.rdWord < 3 → t.lov.rdWord = s.lov.rdWord + 1 ∧ allRegsKept s t) ∧
    (3 ≤ s.lov.rdWord → t.lov.rdWord = 0 ∧ t.rd 0 F.LOV_RD_ADDR_cw = (j + 1) % 0x20000 ∧ regsKept s t 0 [F.LOV_RD_ADDR_cw])) ∧
  (∀ part cw, completes (.rdAddrWrite part cw) s fun t => t.rd 0 F.LOV_RD_ADDR_part = part % 8 ∧ t.rd 0 F.LOV_RD_ADDR_cw = cw % 0x20000 ∧
    t = { s with regs := t.regs, lov := { s.lov with rdWord := 0 } } ∧ regsKept s t 0 [F.LOV_RD_ADDR_part, F.LOV_RD_ADDR_cw])

/-- The start: a low of RESET_N below 500 ns is ignored and one of 1 µs or more resets everything but the Bay, the Lovage cells and the queue; a start counts itself, and
ends released, in recovery, in the window for the host's image, or failed, by the source it is given; a delivered image or a timeout ends the window (R392, R393,
R396, R398, R455, R471).
Model's own choices it touches: log entries 144, 145, 146, 147, 157, 159, 171. -/
def Obligations.Start : Prop := ∀ s : State,
  (∀ low mid, completes (.resetNAssert low mid) s fun t =>
    (low < 500 → t = s) ∧
    (1000 ≤ low → t.boot.phase = .reset ∧ t.nStn = s.nStn ∧ t.pending = s.pending ∧ t.bay = s.bay ∧
      (∀ off, 0xF8000 ≤ off → off < 0xF9000 → t.rdWord 0 off = s.rdWord 0 off) ∧ (mid = false → t.lov.cells = s.lov.cells) ∧
      t.frm = State.reset.frm ∧ t.evr = State.reset.evr)) ∧
  (∀ o : StartObs, completes (.resetNRelease o) s fun t =>
    let n := min 15 (s.rd 0 (F.BAY_RET_word 63) % 16 + 1)
    (s.boot.phase ≠ .reset → t = s) ∧
    (s.boot.phase = .reset →
      (o.cutShort = true → t.boot.phase = .reset ∧ t.rd 0 (F.BAY_RET_word 63) = n ∧ t.bay.inStart ≠ none) ∧
      (o.cutShort = false → o.pllOk = false → t.boot.phase = .failed ∧ t.rd 0 (F.BAY_RET_word 63) = n ∧
        t.rd 0 (F.BAY_RET_word 60) / 0x1000 = 0x11 ∧ t.bay.inStart = none) ∧
      (o.cutShort = false → o.pllOk = true → o.sel % 4 = 2 → n ≤ 3 → s.curHalf 5 ≠ none →
        t.boot.phase = .window ∧ t.rd 0 F.HIF_STATUS_boot_window = 1 ∧ t.rd 0 (F.BAY_RET_word 63) = n ∧
        t.rd 0 F.BOOT_CAUSE_fail_cnt = n ∧ t.bay.inStart = some 3) ∧
      (o.cutShort = false → o.pllOk = true → (3 < n ∨ o.sel % 4 = 3 ∨ s.curHalf 5 = none) → t.boot.phase = .recovery ∨ t.boot.phase = .failed) ∧
      (o.cutShort = false → o.pllOk = true → n ≤ 3 → o.sel % 4 < 2 → s.curHalf 5 ≠ none → t.boot.phase = .released ∨ t.boot.phase = .failed))) ∧
  (∀ trained cals memUe, completes (.hostImageDelivered trained cals memUe) s fun t =>
    let marker := (s.sramBytes 0x1FFFF0 4).1
    (s.boot.phase ≠ .window → t = s) ∧
    (s.boot.phase = .window → marker = some [0x52, 0x55, 0x4E, 0x21] → t.boot.phase = .released ∨ t.boot.phase = .failed) ∧
    (s.boot.phase = .window → marker ≠ some [0x52, 0x55, 0x4E, 0x21] → t.boot = s.boot)) ∧
  (completes .hostImageTimeout s fun t =>
    (s.boot.phase ≠ .window → t = s) ∧
    (s.boot.phase = .window → t.boot.phase = .failed ∧ t.rd 0 (F.BAY_RET_word 60) = 0x12003 ∧
      t.rd 0 (F.BAY_RET_word 61) = s.rd 0 (F.BAY_RET_word 60) ∧ t.rd 0 (F.BAY_RET_word 62) = s.rd 0 (F.BAY_RET_word 61) ∧
      regsKept s t 0 [F.BAY_RET_word 60, F.BAY_RET_word 61, F.BAY_RET_word 62]))

/-- CFG at run time: a program command writes only its own partition, is refused for the selected slot and for a locked recovery partition, and takes an image only if it
verifies; a select takes a slot that verifies; a signed command is held to its form, its nonce and its signature in this order, and a new nonce follows it; each
command has its result code (R391, R396, R400, R402).
Model's own choices it touches: log entries 141, 142, 143. -/
def Obligations.Configuration : Prop := ∀ s : State,
  let result : Nat → State → Prop := fun r t => t.rd 0 F.CFG_RESULT_result = r ∧ t.rd 0 ⟨0xE0020, 7, 7⟩ = 1 ∧
    (r ≠ 0 → r ≠ 7 → t.rd 0 F.CFG_STATUS_write_reject = 1)
  let records : State → JRec → State → Prop := fun u r t => ∃ bad,
    t.lov = (u.takeFree.2.bootAppend r bad).2.lov ∧ result (if (u.takeFree.2.bootAppend r bad).1 then 0 else 7) t
  (∀ part bad c, (part = 0 ∧ c = Instr.programA bad ∨ part = 1 ∧ c = .programB bad ∨ part = 2 ∧ c = .programRecovery bad) →
    completes c s fun t =>
      let barred := part = 2 ∧ s.unlocked = false ∨ part ≠ 2 ∧ s.selSlot = part
      let r := s.sramImage s.updSrc
      let fails := r.2.verifyImage r.1 (sourceMax (if part = 2 then 4 else part)) (part == 2)
      (barred → result 6 t ∧ t.lov = s.lov) ∧
      (¬barred → ∀ f, fails = some f → result (verifyResult f) t ∧ t.lov = s.lov) ∧
      (¬barred → fails = none → ((t.lovImage part = r.1 ∧ result 0 t) ∨ (t.lovImage part ≠ r.1 ∧ result 7 t)) ∧
        ∀ p j, p ≠ part → j < 0x20000 → t.cw (cwKey p j) = s.cw (cwKey p j))) ∧
  (∀ k c, (k = 0 ∧ c = Instr.selectA ∨ k = 1 ∧ c = .selectB) → completes c s fun t =>
    (s.slotOk k = false → result 6 t ∧ t.lov = s.lov) ∧
    (s.slotOk k = true → records s (numRecord 1 k) t)) ∧
  (completes .clearFailedStartCount s fun t => result 0 t ∧ t.rd 0 (F.BAY_RET_word 63) = 0 ∧ t = { s with regs := t.regs, hif := t.hif }) ∧
  (∀ op c, (op = 1 ∧ c = Instr.writeKeySlot ∨ op = 2 ∧ c = .revokeKeySlot ∨ op = 3 ∧ c = .raiseRollbackFloor ∨ op = 4 ∧ c = .unlockRecovery ∨
      op = 5 ∧ c = .lockRecovery) → completes c s fun t =>
    let b := ((s.sramBytes s.updSrc 156).1).getD []
    let u := (s.sramBytes s.updSrc 156).2
    let x := parseSigned b
    let signed := ∃ key, s.usableKey x.key = some key ∧ signatureOk (b.take 92) key (b.drop 92) = true
    let k := x.args.getD 0 0
    (leAt b 4 1 ≠ op → t = s) ∧
    (leAt b 4 1 = op → s.freeCtr < t.freeCtr ∧
      (signedForm b = false → result 4 t ∧ t.lov = s.lov) ∧
      (signedForm b = true → x.nonce ≠ s.nonce → result 8 t ∧ t.lov = s.lov) ∧
      (signedForm b = true → x.nonce = s.nonce → ¬signed → result 3 t ∧ t.lov = s.lov) ∧
      (signedForm b = true → x.nonce = s.nonce → signed →
        (op = 1 → records u (keyRecord k ((x.args.drop 1).take 64) false) t) ∧
        (op = 2 → s.otherKey k = false → result 6 t ∧ t.lov = s.lov) ∧
        (op = 2 → s.otherKey k = true → records u (keyRecord k (((s.keySlot k).getD []).take 64) true) t) ∧
        (op = 3 → leAt x.args 0 4 < s.rollFloor → result 5 t ∧ t.lov = s.lov) ∧
        (op = 3 → s.rollFloor ≤ leAt x.args 0 4 → records u (numRecord 2 (leAt x.args 0 4)) t) ∧
        (op = 4 → records u (numRecord 3 1) t) ∧
        (op = 5 → records u (numRecord 3 0) t))))

/-- The Bay: standby needs an idle machine, makes every die safe and cuts the main rails after its delay; a wake event sets its cause and, where enabled, asserts
WAKE_N and restores power; a failure of VMAIN is an F-class fault with the rails up; the real-time clock is set in one step; the trip latch clears only below its
hysteresis (R339, R405 to R411, R413).
Model's own choices it touches: log entries 118, 120, 121, 122, 123, 231, 232. -/
def Obligations.BayPower : Prop := ∀ s : State,
  let refused : State → Prop := fun t => t.rd 0 F.BAY_STATUS_write_reject = 1 ∧ reportsOnly s t 0 (fltPos 0 .bay) .c [F.BAY_STATUS_write_reject]
  let restored : State → Prop := fun t =>
    (s.bay.down = true → t.bay.pwrEn = true ∧ t.bay.woke = true ∧ t.bay.again = false) ∧
    (s.bay.down = false → s.bay.standby = true → t.bay.again = true ∧ t.bay.pwrEn = s.bay.pwrEn)
  let causeOf : Nat → Fld := fun c => ⟨F.BAY_WAKE_CAUSE_cmp.off, c, c⟩
  (completes .bayStandby s fun t => (s.standbyOk = false → refused t) ∧
    (s.standbyOk = true → t.bay = { s.bay with standby := true, sbyAt := s.now, pdNs := 1000000 * max 1 (s.rd 0 F.BAY_PD_pd_dly), offNs := 1000000 * max 1 (s.rd 0 F.BAY_PD_min_off), arcLeft := s.evr.arcQ.length } ∧
      t.flt.inbox = s.flt.inbox ∧ (∀ d ∈ s.dies, (s.hvc d).causes = [] → t.rd d F.HVC_STATUS_safeoff = 1) ∧ ∀ n ∈ s.stns, t.rd n F.LSR_STATUS_lso = 1)) ∧
  (completes .powerDown s fun t => let due := s.bay.standby = true ∧ s.bay.sbyAt + s.bay.pdNs ≤ s.now
    (¬due → t = s) ∧
    (due → t.bay = { s.bay with standby := false, down := true, pwrEn := false, woke := false, fallAt := s.now } ∧ t.boot.phase = .reset ∧
      ∀ off, 0xF8000 ≤ off → off < 0xF9000 → t.rdWord 0 off = s.rdWord 0 off)) ∧
  (completes .pwrEnReassert s fun t => let due := s.bay.down = true ∧ s.bay.again = true ∧ s.bay.fallAt + s.bay.offNs ≤ s.now
    (due → t = { s with bay := { s.bay with pwrEn := true, woke := true, again := false } }) ∧ (¬due → t = s)) ∧
  (completes .clearTrip s fun t =>
    let cool := ∀ d ∈ s.dies, s.rdS d F.THM_DIE_max < (s.tripLevel : Int) - s.rd 0 F.THM_HYST_hyst
    (¬cool → refused t) ∧
    (cool → t.rd 0 F.BAY_STATUS_trip = 0 ∧ t.rd 0 F.FLT_PKG_trip = 0 ∧
      t.flt = { s.flt with hub19 := s.flt.hub19.filter (· ≠ 10), closedAt := s.now } ∧ diesKept s t 0)) ∧
  (completes .clearCause s fun t => t.rdWord 0 F.BAY_WAKE_CAUSE_cmp.off = 0 ∧ t = { s with regs := t.regs, bay := { s.bay with wakeN := false } } ∧
    regsKept s t 0 [⟨F.BAY_WAKE_CAUSE_cmp.off, 19, 0⟩]) ∧
  (∀ mv, completes (.vmainFail mv) s fun t =>
    let due := s.rd 0 (F.BAY_CMP_CFG_en 0) = 1 ∧ s.rd 0 F.BAY_STATUS_vmain_ok = 1 ∧ mv < 10 * s.rd 0 F.BAY_VMAIN_THR_vmain_thr
    (¬due → t = s) ∧
    (due → t.rd 0 F.BAY_STATUS_vmain_ok = 0 ∧ t.rd 0 (causeOf 0) = 1 ∧ t.bay.failAt = some s.now ∧
      (s.bay.down = true ∨ s.boot.phase = .reset → t = { s with regs := t.regs, bay := t.bay }) ∧
      (s.bay.down = false → s.boot.phase ≠ .reset → t.rd 0 F.BAY_STATUS_pf_s = 1 ∧ t.flt.hub19.contains 9 = true ∧
        reportsOne s t 0 (fltPos 0 .bay) .f ∧ t.rd 0 ⟨F.FLT_F_ACTIVE_f_active.off, fltPos 0 .dlk, fltPos 0 .dlk⟩ = 1 ∧ diesKept s t 0))) ∧
  (∀ mv, completes (.vmainRise mv) s fun t =>
    let due := s.rd 0 (F.BAY_CMP_CFG_en 0) = 1 ∧ s.rd 0 F.BAY_STATUS_vmain_ok = 0 ∧
      10 * (s.rd 0 F.BAY_VMAIN_THR_vmain_thr + s.rd 0 F.BAY_VMAIN_THR_vmain_hyst) < mv
    (¬due → t = s) ∧
    (due → t.rd 0 F.BAY_STATUS_vmain_ok = 1 ∧ t.rd 0 (causeOf 0) = 1 ∧ t.bay.failAt = none ∧
      t.flt = { s.flt with hub19 := s.flt.hub19.filter (· ≠ 9) } ∧ diesKept s t 0)) ∧
  (∀ temp : Int, ∀ high net q, ∀ x ∈ [(1, Instr.cover high), (2, .webWake q), (3, .bayTemp temp net)], completes x.2 s fun t =>
    let c := x.1
    let outside := 10 * s.rdS 0 F.BAY_TEMP_THR_temp_hi < temp ∨ temp < 10 * s.rdS 0 F.BAY_TEMP_THR_temp_lo
    let live := if c = 1 then s.rd 0 (F.BAY_CMP_CFG_en 1) = 1 ∧ s.rd 0 (F.BAY_CMP_CFG_pol 1) = b2n high
      else if c = 2 then s.rd 0 (F.BAY_CMP_CFG_en 2) = 1 ∧ ∃ p ∈ s.bay.quad.toList, p ≠ q % 4
      else net = true ∨ s.rd 0 (F.BAY_CMP_CFG_en 3) = 1 ∧ outside
    let quad := if c = 2 ∧ s.rd 0 (F.BAY_CMP_CFG_en 2) = 1 then some (q % 4) else s.bay.quad
    t.bay.quad = quad ∧ (¬live → t = { s with bay := { s.bay with quad := quad } }) ∧
    (live → t.rd 0 (causeOf c) = 1 ∧ t = { s with regs := t.regs, bay := t.bay } ∧ regsKept s t 0 [causeOf c] ∧
      (c ≠ 3 → s.bay.down = false → s.bay.standby = false → t.bay = { s.bay with quad := quad }) ∧
      (c = 3 ∨ s.bay.down = true ∨ s.bay.standby = true →
        (t.bay.wakeN = (s.bay.wakeN || s.on 0 (F.BAY_CMP_CFG_wake_en c))) ∧ (s.rd 0 (F.BAY_CMP_CFG_pwr_en c) = 1 → restored t)))) ∧
  (completes .rtcAlarm s fun t =>
    let alarm := s.rd40 0 P.BAY_ALARM % 0x100000000
    let due := s.rd 0 F.BAY_WAKE_SRC_alarm_en = 1 ∧ s.rtcSec = alarm ∧ s.bay.alarmSec ≠ some alarm
    (¬due → t = s) ∧
    (due → t.rd 0 F.BAY_WAKE_CAUSE_alarm = 1 ∧ t.bay.alarmSec = some alarm ∧
      (t.bay.wakeN = (s.bay.wakeN || s.on 0 F.BAY_WAKE_SRC_alarm_wake)) ∧ (s.rd 0 F.BAY_WAKE_SRC_alarm_pwr = 1 → restored t) ∧
      t = { s with regs := t.regs, bay := t.bay } ∧ regsKept s t 0 [F.BAY_WAKE_CAUSE_alarm])) ∧
  (completes .externalWake s fun t => t.rd 0 F.BAY_WAKE_CAUSE_ext = 1 ∧ (s.rd 0 F.BAY_WAKE_SRC_ext_pwr = 1 → restored t) ∧
    (s.rd 0 F.BAY_WAKE_SRC_ext_pwr = 0 → t.bay = s.bay) ∧ t = { s with regs := t.regs, bay := t.bay } ∧ regsKept s t 0 [F.BAY_WAKE_CAUSE_ext]) ∧
  (∀ path lo, s.pathOpen path = false → completes (.rtcSecWrite path lo) s fun t => t = s) ∧
  (∀ path lo, s.pathOpen path = true → completes (.rtcSecWrite path lo) s fun t =>
    let hi := ((s.path path).hold.getD 0 none).getD (s.rtcSec / 0x100000)
    t.rtcSec = hi % 0x1000 * 0x100000 + lo % 0x100000 ∧ t.rd 0 F.BAY_STATUS_rtc_valid = 1 ∧ t.bay.alarmSec = none ∧ (t.path path).hold.getD 0 none = none ∧
    regsKept s t 0 [F.BAY_STATUS_rtc_valid]) ∧
  (completes .vbayLoss s fun t => (s.bay.down = false → t = s) ∧
    (s.bay.down = true → t.bay = { s.bay with rtcNs := 0, wakeN := false, again := false, inStart := none, quad := none, alarmSec := none } ∧
      t = { s with regs := t.regs, bay := t.bay } ∧
      (∀ off, 0xF8000 ≤ off → off < 0xF9000 → t.rdWord 0 off = keyReset (regKey 0 off)) ∧
      ∀ e (g : Fld), g.off < 0x100000 → (e = 0 → g.off < 0xF8000 ∨ 0xF9000 ≤ g.off) → t.rd e g = s.rd e g))

/-- Register writes: a live field takes the value written, a fixed field keeps its value while its unit runs and the write is rejected, a W1C field loses the bits written
as one, and a read-only field is unchanged; the service port answers each request it is served with its status, and a broken-off request changes nothing (R18, R19,
R428, R450).
Model's own choices it touches: log entries 129, 130, 131, 155, 193, 198, 234, 245. -/
def Obligations.RegisterWrites : Prop := ∀ s : State,
  let opened : Nat → Nat → Prop := fun d off => s.hostSees = true ∧ d < 8 ∧ s.reach d off = .open
  let answered : State → Nat → Nat → Prop := fun t status v => t.svc.responding = true ∧
    t.svc.response = [status, v % 256, v / 256 % 256, v / 65536 % 256]
  let served := s.svcServed = true ∧ s.svc.responding = false
  (∀ d v, opened d 0 → completes (.registerWrite d 0 (some v)) s fun t => t.rd d F.CUE_CTRL_miss_win = v % 4096 ∧ onlyRegs s t ∧
    regsKept s t d [F.CUE_CTRL_miss_win]) ∧
  (∀ v, opened 0 0xB0044 → completes (.registerWrite 0 0xB0044 (some v)) s fun t =>
    let serial := s.rdWord 0 0xB0044
    (s.frmRuns = false ∨ v % 0x100000 = serial.toNat → (t.rdWord 0 0xB0044).toNat = v % 0x100000 ∧ onlyRegs s t ∧ regsKept s t 0 [⟨0xB0044, 19, 0⟩]) ∧
    (s.frmRuns = true → v % 0x100000 ≠ serial.toNat → t.rdWord 0 0xB0044 = serial ∧ t.rd 0 F.FRM_STATUS_write_reject = 1 ∧
      reportsOnly s t 0 (fltPos 0 .frm) .c [F.FRM_STATUS_write_reject])) ∧
  (∀ v, opened 0 0xE0004 → completes (.registerWrite 0 0xE0004 (some v)) s fun t =>
    t.rd 0 F.HIF_STATUS_down_s = (if v.testBit 9 then 0 else s.rd 0 F.HIF_STATUS_down_s) ∧
    t.rd 0 F.HIF_STATUS_bad_acc_s = (if v.testBit 8 then 0 else s.rd 0 F.HIF_STATUS_bad_acc_s) ∧
    t.rd 0 F.HIF_STATUS_absent_s = (if v.testBit 7 then 0 else s.rd 0 F.HIF_STATUS_absent_s) ∧ onlyRegs s t ∧
    regsKept s t 0 [F.HIF_STATUS_down_s, F.HIF_STATUS_bad_acc_s, F.HIF_STATUS_absent_s]) ∧
  (∀ d w late, served → completes (.serviceRead d w false late) s fun t => answered t 1 0 ∧ t.rd 0 F.SVC_STATUS_err_s = 1 ∧
    regsKept s t 0 [F.SVC_STATUS_err_s, F.SVC_ERR_CNT_err, F.SVC_REQ_CNT_req]) ∧
  (∀ d w, served → completes (.serviceRead d w true false) s fun t =>
    answered t (if s.hasDie d then 0 else 2) (s.svcRead d (4 * (w % 0x40000))).1) ∧
  (∀ d w, served → completes (.serviceRead d w true true) s fun t => answered t 3 0) ∧
  (∀ d v, served → s.reach d 0 = .open → completes (.serviceWrite d 0 v true false) s fun t => answered t 0 0 ∧
    t.rd d F.CUE_CTRL_miss_win = v % 4096) ∧
  (∀ d w v ok late, ¬served → (completes (.serviceRead d w ok late) s fun t => t = s) ∧ completes (.serviceWrite d w v ok late) s fun t => t = s) ∧
  (completes .requestAbort s fun t => t = s) ∧
  (completes .serviceResponseEnd s fun t =>
    let due := s.svc.responding = true ∧ s.svc.respAt + 70000000000 / baudRate s.svc.baud ≤ s.now
    (¬due → t = s) ∧ (due → t = { s with svc := { s.svc with responding := false, baud := if s.rd 0 F.SVC_CFG_baud = 3 then 0 else s.rd 0 F.SVC_CFG_baud } }))

/-- An access to an offset that no table lists, to a reserved slot or sub-window, reads zero and discards writes, and is neither counted nor a fault; an access to an
absent die, and one to a block held in reset, reads zero, discards writes and is counted (R447). -/
def Obligations.UnlistedOffsets : Prop := ∀ (s : State) (d off v : Nat), off % 4 = 0 → off < 0x100000 →
  (findReg d off = none → s.reach d off = .open → (∀ p, s.pathRead p d off = (0, s)) ∧
    (s.hostSees = true → d < 8 → (d = 0 → off < 0xE8000 ∨ 0xE9008 ≤ off) → completes (.registerWrite d off (some v)) s fun t => t = s) ∧
    (s.svcServed = true → s.svc.responding = false →
      (completes (.serviceRead d (off / 4) true false) s fun t => t.svc.response = [0, 0, 0, 0] ∧ regsKept s t 0 [F.SVC_REQ_CNT_req]) ∧
      completes (.serviceWrite d (off / 4) v true false) s fun t => t.svc.response = [0, 0, 0, 0] ∧ regsKept s t 0 [F.SVC_REQ_CNT_req])) ∧
  (∀ r, s.reach d off = r → (r = .absent ∨ r = .held) →
    let counted : State → List Fld → Prop := fun t fs => t.rd 0 F.HIF_ABSENT_CNT_absent = satN 20 (s.rd 0 F.HIF_ABSENT_CNT_absent + 1) ∧
      (r = .absent → t.rd 0 F.HIF_STATUS_absent_s = 1) ∧ regsKept s t 0 (F.HIF_ABSENT_CNT_absent :: F.HIF_STATUS_absent_s :: fs)
    (s.hostSees = true → d < 8 → completes (.registerWrite d off (some v)) s fun t => counted t [] ∧ onlyRegs s t) ∧
    (s.svcServed = true → s.svc.responding = false →
      (completes (.serviceRead d (off / 4) true false) s fun t => t.svc.response.drop 1 = [0, 0, 0] ∧ counted t [F.SVC_REQ_CNT_req]) ∧
      completes (.serviceWrite d (off / 4) v true false) s fun t => t.svc.response.drop 1 = [0, 0, 0] ∧ counted t [F.SVC_REQ_CNT_req]))

/-- At the change from static to pulse mode hold is 1 if any U or F bit is then set and 0 otherwise, so FAULT_N is not released between the two modes; software releases
it by writing hold = 0 (R357). -/
def Obligations.StaticToPulse : Prop := ∀ (s : State) (src : Nat) (image : List Nat), s.rd 0 F.FLT_PKG_pin_mode = 0 → s.variantOk = true →
  (∀ d, s.hasDie d = false → s.rd d F.FLT_STATUS_U_u = 0 ∧ s.rd d F.FLT_STATUS_F_f = 0) →
  let t := s.release src image
  t.rd 0 F.FLT_PKG_pin_mode = 1 ∧
  t.rd 0 F.FLT_PIN_HOLD_hold = b2n (s.dies.any fun d => s.on d F.FLT_STATUS_U_u || s.on d F.FLT_STATUS_F_f) ∧
  (s.faultN = true → t.faultN = true) ∧
  (t.flt.pulse = false → completes (.registerWrite 0 F.FLT_PIN_HOLD_hold.off (some 0)) t fun u => u.rd 0 F.FLT_PIN_HOLD_hold = 0 ∧ u.faultN = false)

/-- The host endpoint, its interrupts and the interlock: a link-down resets the function, a bad access is counted, a cleared pending bit of a level source that still holds is
pending again, an unmasked vector sends what waits; an opening of the interlock makes every die safe and is an F-class fault, a closing releases the level only; a test-mode
instruction takes the part to test mode unless it prints (R415, R417, R418, R427, R429).
Model's own choices it touches: log entries 125, 126, 127, 128, 235. -/
def Obligations.HostEndpoint : Prop := ∀ s : State,
  (∀ kind, completes (.linkDown kind) s fun t =>
    let quiet := ∀ c ∈ List.range 32, (s.xch 0 c).burst = none ∨ XDesc.srcSp (s.xch 0 c).desc ≠ 0
    t.hif.masked = List.range 64 ∧ t.hostPath = {} ∧
    (∀ c ∈ List.range 32, ∀ b, (s.xch 0 c).burst = some b → XDesc.srcSp (s.xch 0 c).desc = 0 → b.at_ ≤ s.now → (s.xch 0 c).aborting = false →
      (b.fails < s.rd 0 (F.XFR_CH_CFG_retry_max c) → t.rd 0 (F.XFR_CH_STATUS_retry_s c) = 1) ∧
      (s.rd 0 (F.XFR_CH_CFG_retry_max c) ≤ b.fails → (t.xch 0 c).burst = none)) ∧
    (quiet → (∀ w, w < 4 → t.rd 0 (F.HIF_IRQ_PEND_pend w) = 0) ∧ t.hif = { s.hif with masked := List.range 64, table := [], pba := [] }) ∧
    (quiet → kind = .d3hot → t = { s with regs := t.regs, hif := t.hif, hostPath := t.hostPath } ∧
      regsKept s t 0 ((List.range 4).map F.HIF_IRQ_PEND_pend)) ∧
    (kind ≠ .d3hot → t.rd 0 F.HIF_STATUS_down_s = 1 ∧ t.rd 0 F.HIF_DOWN_CNT_down = satN 20 (s.rd 0 F.HIF_DOWN_CNT_down + 1) ∧
      (quiet → reportsOne s t 0 (fltPos 0 .hif) .c))) ∧
  (∀ write, completes (.badBar0Access write) s fun t => t.rd 0 F.HIF_STATUS_bad_acc_s = 1 ∧
    t.rd 0 F.HIF_BAD_ACC_CNT_bad = satN 20 (s.rd 0 F.HIF_BAD_ACC_CNT_bad + 1) ∧ (write = true → onlyRegs s t) ∧
    (write = false → t.hostPath.data = []) ∧ regsKept s t 0 [F.HIF_STATUS_bad_acc_s, F.HIF_BAD_ACC_CNT_bad]) ∧
  (∀ v, completes (.vectorUnmask v) s fun t => (64 ≤ v → t = s) ∧
    (v < 64 → v ∉ t.hif.masked ∧ v ∉ t.hif.pba ∧ t = { s with hif := t.hif } ∧
      (v ∈ s.hif.pba → t.hif.lastMsg = some v ∧ t.hif.msgCount = s.hif.msgCount + 1) ∧ (v ∉ s.hif.pba → t.hif.msgCount = s.hif.msgCount))) ∧
  (∀ w mask, completes (.irqPendClear w mask) s fun t => (4 ≤ w → t = s) ∧
    (w < 4 → t = { s with regs := t.regs, hif := t.hif } ∧ regsKept s t 0 [F.HIF_IRQ_PEND_pend w] ∧ ∀ i, i < 16 →
      let bit : Fld := ⟨0xE0020 + 4 * w, i, i⟩
      t.rd 0 bit = if !mask.testBit i then s.rd 0 bit else b2n ([0, 2, 5, 43].contains (16 * w + i) && s.levelHolds (16 * w + i)))) ∧
  (∀ a b, completes (.interlockOpen a b) s fun t => ((a && b) = true → t = s) ∧
    ((a && b) = false → t.rd 0 F.HIF_ILK_STATUS_ilk_a = b2n a ∧ t.rd 0 F.HIF_ILK_STATUS_ilk_b = b2n b ∧
      (a = b → t.ports.discAt = none) ∧ (a ≠ b → t.ports.discAt = some (s.ports.discAt.getD s.now)) ∧
      (s.flt.hub19.contains 8 = true ∨ s.boot.phase = .reset → t = { s with regs := t.regs, ports := t.ports } ∧
        regsKept s t 0 [F.HIF_ILK_STATUS_ilk_a, F.HIF_ILK_STATUS_ilk_b]) ∧
      (s.flt.hub19.contains 8 = false → s.boot.phase ≠ .reset → t.flt.hub19.contains 8 = true ∧ t.flt.shadows.contains .interlock = true ∧
        t.rd 0 F.HIF_ILK_STATUS_open_s = 1 ∧ t.rd 0 F.HIF_ILK_STATUS_so_lsr = 1 ∧
        t.rd 0 F.HIF_ILK_STATUS_so_hv = 1 ∧ (∃ r ∈ t.flt.inbox, r.die = 0 ∧ r.pos = fltPos 0 .ilk ∧ r.src = 8 ∧ r.cls = .f ∧ r.cause = causeBit 7 ∧ r.time = s.now) ∧
        (s.fsrState ≠ fsrReady → reportsOne s t 0 (fltPos 0 .ilk) .f) ∧ (∀ n ∈ s.stns, t.rd n F.LSR_STATUS_lso = 1) ∧
        (∀ d ∈ s.dies, (s.hvc d).causes = [] → t.rd d F.HVC_STATUS_safeoff = 1) ∧
        (s.fsrState ≠ fsrTrip → t.fsrState = fsrOff) ∧
        (s.rd 0 F.FLT_PKG_state = 2 → t.rd 0 F.HIF_ILK_STATUS_so_mot = 1) ∧
        (s.rd 0 F.FLT_PKG_state ≠ 2 → t.ports.motDly = true ∧ t.ports.motAt = s.now + 1000000 * min 10000 (s.rd 0 F.HIF_ILK_DLY_mot_dly))))) ∧
  (completes .interlockClose s fun t => let was := s.flt.hub19.contains 8
    t.rd 0 F.HIF_ILK_STATUS_ilk_a = 1 ∧ t.rd 0 F.HIF_ILK_STATUS_ilk_b = 1 ∧
    t = { s with regs := t.regs, ports := { s.ports with discAt := none, discSaid := false },
                 flt := if was then { s.flt with hub19 := s.flt.hub19.filter (· ≠ 8), closedAt := s.now } else s.flt } ∧
    regsKept s t 0 [F.HIF_ILK_STATUS_ilk_a, F.HIF_ILK_STATUS_ilk_b, F.FLT_F_ACTIVE_f_active]) ∧
  (completes .motDlyExpiry s fun t => let due := s.ports.motDly = true ∧ s.ports.motAt ≤ s.now
    (¬due → t = s) ∧
    (due → t.rd 0 F.HIF_ILK_STATUS_so_mot = 1 ∧ t = { s with regs := t.regs, ports := { s.ports with motDly := false } } ∧
      regsKept s t 0 [F.HIF_ILK_STATUS_so_mot])) ∧
  (completes .interlockDiscrepancy s fun t =>
    let due := sinceBy s.ports.discAt (1000000 * max 1 (s.rd 0 F.HIF_ILK_DISC_disc_ms)) s.now = true ∧ s.ports.discSaid = false
    (¬due → t = s) ∧
    (due → t.rd 0 F.HIF_ILK_STATUS_disc_s = 1 ∧ t.ports = { s.ports with discSaid := true } ∧ reportsOne s t 0 (fltPos 0 .ilk) .c ∧
      (s.promotes 0 (fltPos 0 .ilk) = false → t = { s with regs := t.regs, ports := t.ports, flt := { s.flt with inbox := t.flt.inbox } } ∧
        regsKept s t 0 [F.HIF_ILK_STATUS_disc_s]))) ∧
  (∀ code, completes (.updateIr code) s fun t =>
    let test := 3 ≤ code ∧ code ≤ 7
    let prints := s.frmRuns = true ∨ s.rd 0 F.FLT_PKG_state = 1
    (¬test → t = { s with svc := { s.svc with ir := if code = 1 ∨ code = 2 then code else 0xFF } }) ∧
    (test → prints → t.svc.ir = 0xFF ∧ t.rd 0 F.SVC_STATUS_jtag_reject_s = 1 ∧ t = { s with regs := t.regs, svc := t.svc } ∧
      regsKept s t 0 [F.SVC_STATUS_jtag_reject_s]) ∧
    (test → ¬prints → t.svc.ir = code ∧ t.boot.phase = .test ∧ t.nStn = s.nStn ∧ t.pending = s.pending ∧
      (s.boot.phase ≠ .test → t.rd 0 F.SVC_STATUS_test_mode = 1 ∧ t.rd 0 F.FLT_PKG_pin_mode = 0 ∧ t.rd 0 F.HIF_ILK_STATUS_so_lsr = 1 ∧
        t.rd 0 F.HIF_ILK_STATUS_so_hv = 1 ∧ t.rd 0 F.HIF_ILK_STATUS_so_mot = 1))) ∧
  (completes .tapReset s fun t => t = { s with svc := { s.svc with ir := 1 } })

/-- The press link: a request is answered, a message is delivered once and acknowledged each time, an acknowledged exchange ends, one that times out is repeated and in the end
dropped, and frames leave one at a time; without enable nothing is received (R420 to R423, R433, R453).
Model's own choices it touches: log entries 99, 100, 189, 194. -/
def Obligations.PressLink : Prop := ∀ s : State,
  let off := s.rd 0 F.PLK_CTRL_en = 0
  let on := s.rd 0 F.PLK_CTRL_en = 1
  let busy := s.plk.sending ≠ none
  let statusDue : State → Prop := fun t => (t.plk.status = true ∨ ∃ f, t.plk.sending = some f ∧ f.typ = msgStatus) ∧
    (busy → t.plk = { s.plk with status := true, heardAt := t.plk.heardAt, lostNs := t.plk.lostNs, statusAt := t.plk.statusAt, statusNs := t.plk.statusNs })
  let heard : State → Prop := fun t => t.rd 0 F.PLK_STATUS_link_ok = 1 ∧ t.plk.heardAt = s.now ∧ t.plk.lostNs = 1000000 * s.rd 0 F.PLK_LOST_MS_lost_ms
  (off → ∀ seq p sound, (completes .statusReq s fun t => t = s) ∧ (completes (.ack seq) s fun t => t = s) ∧
    (completes (.mail seq p sound) s fun t => t = s) ∧ (completes .statusPeriod s fun t => t = s) ∧ completes .pressLinkLost s fun t => t = s) ∧
  (on → completes .statusReq s fun t => heard t ∧ statusDue t ∧ t = { s with regs := t.regs, plk := t.plk } ∧
    regsKept s t 0 [F.PLK_STATUS_link_ok]) ∧
  (on → ∀ seq, completes (.ack seq) s fun t =>
    let found := s.plk.waits.find? fun w => w.frame.seq == seq
    heard t ∧ t = { s with regs := t.regs, plk := t.plk } ∧
    (found = none → t.plk.waits.length = s.plk.waits.length ∧ regsKept s t 0 [F.PLK_STATUS_link_ok]) ∧
    (∀ w, found = some w → t.plk.waits.length + 1 = s.plk.waits.length ∧
      (w.frame.typ = msgMail → t.rd 0 F.PLK_STATUS_tx_busy = 0 ∧ t.rd 0 F.PLK_TX_RESULT_result = 0))) ∧
  (on → ∀ seq p sound, completes (.mail seq p sound) s fun t =>
    let whole := sound = true ∧ p.length ≤ 64
    let again := s.plk.last.lookup msgMail = some (seq % 256)
    (¬whole → t.rd 0 F.PLK_RX_ERR_CNT_rx_err = satN 20 (s.rd 0 F.PLK_RX_ERR_CNT_rx_err + 1) ∧ onlyRegs s t ∧ regsKept s t 0 [F.PLK_RX_ERR_CNT_rx_err]) ∧
    (whole → heard t ∧ t = { s with regs := t.regs, hif := t.hif, plk := t.plk } ∧
      (again → t.plk.rx = s.plk.rx ∧ (busy → t.plk.acks = s.plk.acks ++ [seq % 256])) ∧
      (¬again → 4 ≤ s.plk.rx.length → t.plk.rx = s.plk.rx ∧ (busy → t.plk.acks = s.plk.acks)) ∧
      (¬again → s.plk.rx.length < 4 → t.plk.rx = s.plk.rx ++ [p.map (· % 256)] ∧ t.rd 0 F.PLK_STATUS_rx_level = s.plk.rx.length + 1 ∧
        t.rd 0 ⟨0xE0020, 5, 5⟩ = 1 ∧ t.plk.last.lookup msgMail = some (seq % 256) ∧ (busy → t.plk.acks = s.plk.acks ++ [seq % 256])))) ∧
  (∀ typ, completes (.ackTimeout typ) s fun t =>
    let found := s.plk.waits.find? fun w => w.frame.typ == typ && !w.again && s.plk.sending != some w.frame && decide (w.at_ + w.toNs ≤ s.now)
    (found = none → t = s) ∧
    (∀ w, found = some w → w.repeats < w.retry → t = { s with plk := t.plk } ∧ t.plk.waits.length = s.plk.waits.length ∧
      ∃ x ∈ t.plk.waits, x.frame = w.frame ∧ x.repeats = w.repeats + 1) ∧
    (∀ w, found = some w → w.retry ≤ w.repeats → t.plk.waits.length + 1 = s.plk.waits.length ∧
      t.rd 0 F.PLK_STATUS_fail_s = 1 ∧ t.rd 0 F.PLK_FAIL_CNT_fail = satN 20 (s.rd 0 F.PLK_FAIL_CNT_fail + 1) ∧ t.rd 0 ⟨0xE0020, 6, 6⟩ = 1 ∧
      reportsOne s t 0 (fltPos 0 .plk) .c ∧ (typ = msgMail → t.rd 0 F.PLK_STATUS_tx_busy = 0 ∧ t.rd 0 F.PLK_TX_RESULT_result = 2))) ∧
  (on → completes .statusPeriod s fun t =>
    let ns := 1000000 * s.rd 0 F.PLK_STATUS_MS_status_ms
    let wait := if s.plk.statusNs = 0 then ns else s.plk.statusNs
    let due := 0 < wait ∧ s.plk.statusAt + wait ≤ s.now
    (¬due → t = s) ∧ (due → statusDue t ∧ t.plk.statusAt = s.now ∧ t.plk.statusNs = ns ∧ t = { s with plk := t.plk })) ∧
  (completes .frameTransmitted s fun t => (s.plk.sending = none → t = s) ∧
    (∀ f, s.plk.sending = some f → (s.now < s.plk.sendAt + 800 * (6 + f.payload.length) → t = s) ∧
      (s.plk.sendAt + 800 * (6 + f.payload.length) ≤ s.now → t = { s with plk := t.plk } ∧
        (∀ r, s.plk.fresh = some r → ∃ w ∈ t.plk.waits, w.frame = f ∧ w.retry = r.1 ∧ w.toNs = r.2 ∧ w.at_ = s.now) ∧
        (s.plk.fresh = none → t.plk.waits.length = s.plk.waits.length)))) ∧
  (on → completes .pressLinkLost s fun t =>
    let due := s.rd 0 F.PLK_STATUS_link_ok = 1 ∧ s.plk.lostNs ≠ 0 ∧ s.plk.heardAt + s.plk.lostNs ≤ s.now
    (¬due → t = s) ∧
    (due → t.rd 0 F.PLK_STATUS_link_ok = 0 ∧ t.rd 0 F.PLK_STATUS_lost_s = 1 ∧ t.rd 0 ⟨0xE0020, 6, 6⟩ = 1 ∧ reportsOne s t 0 (fltPos 0 .plk) .c)) ∧
  (∀ len, completes (.send len) s fun t =>
    let refused := s.rd 0 F.PLK_STATUS_tx_busy = 1 ∨ 64 < len
    (refused → t.rd 0 F.PLK_TX_RESULT_result = 3 ∧ t.rd 0 F.PLK_STATUS_write_reject = 1 ∧
      reportsOnly s t 0 (fltPos 0 .plk) .c [F.PLK_TX_RESULT_result, F.PLK_STATUS_write_reject]) ∧
    (¬refused → t.rd 0 F.PLK_STATUS_tx_busy = 1 ∧ t.rd 0 F.PLK_TX_RESULT_result = 1 ∧ t = { s with regs := t.regs, plk := t.plk } ∧
      (t.plk.mail = some (s.plk.txBuf.take len) ∨ ∃ f, t.plk.sending = some f ∧ f.typ = msgMail ∧ f.payload = s.plk.txBuf.take len) ∧
      regsKept s t 0 [F.PLK_STATUS_tx_busy, F.PLK_TX_RESULT_result])) ∧
  (completes .pop s fun t => t.plk = { s.plk with rx := s.plk.rx.drop 1, rxPos := 0 } ∧ t = { s with regs := t.regs, plk := t.plk } ∧
    t.rd 0 F.PLK_STATUS_rx_level = (s.plk.rx.length - 1) % 8 ∧ regsKept s t 0 [F.PLK_STATUS_rx_level, F.PLK_RX_LEN_len, F.PLK_RX_DATA_data]) ∧
  (completes .plkRxDataRead s fun t => t.hostPath.data = [s.rd 0 F.PLK_RX_DATA_data] ∧ t.plk = { s.plk with rxPos := s.plk.rxPos + 1 } ∧
    regsKept s t 0 [F.PLK_STATUS_rx_level, F.PLK_RX_LEN_len, F.PLK_RX_DATA_data])

/-- The line ports: a REJECT pulse takes the first position that is due, at its instant, merges with a pulse in progress and is counted; a line trigger pulses and moves on by its
divider, a tag leaves its queue, a pulse ends, and WEBPULSE follows a bit of the published position (R107, R424 to R426).
Model's own choices it touches: log entries 95, 180. -/
def Obligations.LinePorts : Prop := ∀ s : State, s.ports.outs.length = 6 →
  (∀ k, k < 2 → completes (.rejectPulse k) s fun t =>
    let found := (s.ports.rejects.getD k []).find? fun p => (s.webDue 0 p).isSome
    (found = none → t = s) ∧
    (∀ p, found = some p → t.ports.rejects = s.ports.rejects.modify k (fun l => l.erase p) ∧
      t.outEnd (outRej k) = some ((s.webDue 0 p).getD s.now + max 1 (s.rd 0 F.FIN_REJ_W_rej_w) * 1000000) ∧
      t.rd 0 (finCnt k) = satN (finCnt k).width (s.rd 0 (finCnt k) + 1) ∧ t.rd 0 (finRej k) = 1 ∧
      (s.outEnd (outRej k) = none → t.rd 0 F.FIN_MERGE_CNT_merge = s.rd 0 F.FIN_MERGE_CNT_merge) ∧
      ((s.outEnd (outRej k)).isSome = true → t.rd 0 F.FIN_STATUS_merge_s = 1) ∧
      t = { s with regs := t.regs, ports := t.ports, hif := t.hif })) ∧
  (completes .lineTrigger s fun t =>
    let found := s.ports.lines.find? fun x => (s.webDue 0 x.tick).isSome
    (found = none → t = s) ∧
    (∀ x, found = some x → t.outEnd outLtrig = some ((s.webDue 0 x.tick).getD s.now + max 1 (s.rd 0 F.ISP_LINE_line_w) * 10) ∧
      (x.next + x.div < x.lines → { x with next := x.next + x.div } ∈ t.ports.lines ∧ t.ports.lines.length = s.ports.lines.length) ∧
      (x.lines ≤ x.next + x.div → t.ports.lines = s.ports.lines.erase x) ∧ t = { s with ports := t.ports })) ∧
  (∀ k, completes (.pulseEnd k) s fun t => (s.outEnd k = none → t = s) ∧
    (∀ e, s.outEnd k = some e → s.now + s.tbInterval 0 ≤ e → t = s) ∧
    (∀ e, s.outEnd k = some e → e < s.now + s.tbInterval 0 → t.outEnd k = none ∧ (∀ j, j ≠ k → t.outEnd j = s.outEnd j) ∧ t = { s with regs := t.regs, ports := t.ports } ∧
      (∀ i, i < 2 → k = outRej i → t.rd 0 (finRej i) = 0 ∧ regsKept s t 0 [finRej i]) ∧ (k < 4 → allRegsKept s t))) ∧
  (completes .webpulseEdge s fun t => t = { s with ports := { s.ports with webPulse := t.ports.webPulse } } ∧
    (s.rd 0 F.FIN_CFG_wp_en = 0 → t.ports.webPulse = false) ∧
    (s.rd 0 F.FIN_CFG_wp_en = 1 → ∀ k ∈ List.range' 8 23, s.rd 0 F.FIN_CFG_wp_log2 = k →
      let next := (s.pos / 2 ^ (k - 1) + 1) * 2 ^ (k - 1) % 0x10000000000
      (s.webDue 0 next = none → t.ports.webPulse = !s.pos.testBit (k - 1)) ∧ (s.webDue 0 next ≠ none → t.ports.webPulse = s.pos.testBit (k - 1)))) ∧
  (completes .tagSent s fun t => (s.ports.tags = [] → t = s) ∧
    (∀ x q, s.ports.tags = x :: q → s.now < s.ports.tagAt + 9600 * 2 ^ s.rd 0 F.ISP_CFG_tag_rate → t = s) ∧
    (∀ x q, s.ports.tags = x :: q → s.ports.tagAt + 9600 * 2 ^ s.rd 0 F.ISP_CFG_tag_rate ≤ s.now → t.ports = { s.ports with tags := q, tagAt := s.now } ∧ t.rd 0 F.ISP_TAG_CNT_sent = (s.rd 0 F.ISP_TAG_CNT_sent + 1) % 0x100000 ∧
      t.rd 0 F.ISP_STATUS_tag_level = q.length % 32 ∧ t = { s with regs := t.regs, ports := t.ports } ∧
      regsKept s t 0 [F.ISP_TAG_CNT_sent, F.ISP_STATUS_tag_level]))

/-- A step runs the command at the front of the queue with the rest of the queue; on an empty queue the block idles, which is the model's choice (log entry 1). -/
def Obligations.StepRunsFront : Prop :=
  (∀ (s : State) (c : Instr) (rest : List Instr), s.pending = c :: rest → step s = exec c { s with pending := rest }) ∧
  ∀ s : State, s.pending = [] → step s = .next s

/-- After reset no command waits and every register of every die reads the value of its table, the safe-off outputs are asserted and every die is in safe-off, and the
state meets both invariants of a step (R18, R427, R455).
Model's own choices it touches: log entries 5, 13. -/
def Obligations.ResetState : Prop :=
  State.reset.pending = [] ∧ (∀ d off, d < 8 → off < 0x100000 → State.reset.rdWord d off = resetWord d off) ∧
  State.reset.rd 0 F.HIF_ILK_STATUS_so_lsr = 1 ∧ State.reset.rd 0 F.HIF_ILK_STATUS_so_hv = 1 ∧ State.reset.rd 0 F.HIF_ILK_STATUS_so_mot = 1 ∧
  (∀ d, d < 8 → State.reset.rd d F.HVC_STATUS_safeoff = 1) ∧
  State.reset.storesOk = true ∧ State.reset.variantOk = true

/-- Every command completes in every state: there is a next state, in which the block has the dies it had and the queue is as it was; so whatever command a step
carries out, the block keeps its variant, loses the command from the front of its queue and no other, and is not stopped (R1, R2).
Model's own choices it touches: log entry 13. -/
def Obligations.StepKeepsVariant : Prop :=
  (∀ (c : Instr) (s : State), completes c s fun t => t.nStn = s.nStn ∧ t.pending = s.pending) ∧
  ∀ s : State, s.variantOk = true → ∃ t, step s = .next t ∧ t.variantOk = true ∧ t.nStn = s.nStn ∧ t.pending = s.pending.tail

/-- Every step keeps the register stores, the buffer memories, the cue memories and the Lovage cells in their canonical form: keys strictly rising, and no entry
listed that equals what an unlisted key reads as.
Model's own choices it touches: log entries 6, 14. -/
def Obligations.StepKeepsStores : Prop := ∀ s t : State, s.storesOk = true → step s = .next t → t.storesOk = true
end

