-- ==== Sys2Proof/Laws/State.lean ====
section
/-! SUPPORT. For each update of the state: the fields that it leaves alone, and what its own field becomes. -/

namespace Sys2Proof.Machine

set_option Elab.async false

@[simp] theorem State.modLink_links (s : State) (n : Nat) (f : Link → Link) : (s.modLink n f).links = s.links.modify n f := rfl
@[simp] theorem State.modLink_other (s : State) (n : Nat) (f : Link → Link) :
    (s.modLink n f).nStn = s.nStn ∧ (s.modLink n f).now = s.now ∧ (s.modLink n f).freeCtr = s.freeCtr ∧
    (s.modLink n f).pending = s.pending ∧ (s.modLink n f).regs = s.regs ∧ (s.modLink n f).staged = s.staged ∧
    (s.modLink n f).armed = s.armed ∧ (s.modLink n f).inUse = s.inUse ∧ (s.modLink n f).hostPath = s.hostPath ∧
    (s.modLink n f).svcPath = s.svcPath ∧ (s.modLink n f).opHold = s.opHold ∧ (s.modLink n f).wtb = s.wtb ∧
    (s.modLink n f).cues = s.cues ∧ (s.modLink n f).frm = s.frm ∧ (s.modLink n f).flt = s.flt ∧ (s.modLink n f).evr = s.evr ∧
    (s.modLink n f).hif = s.hif ∧ (s.modLink n f).lpes = s.lpes ∧ (s.modLink n f).hvcs = s.hvcs ∧ (s.modLink n f).stations = s.stations ∧
    (s.modLink n f).fsr = s.fsr ∧ (s.modLink n f).chans = s.chans ∧ (s.modLink n f).buses = s.buses ∧ (s.modLink n f).mems = s.mems ∧
    (s.modLink n f).xfrs = s.xfrs ∧ (s.modLink n f).rins = s.rins ∧ (s.modLink n f).rsets = s.rsets ∧
    (s.modLink n f).mirrors = s.mirrors ∧ (s.modLink n f).scns = s.scns ∧ (s.modLink n f).ckss = s.ckss ∧
    (s.modLink n f).sweeps = s.sweeps ∧ (s.modLink n f).lsrs = s.lsrs ∧ (s.modLink n f).rgc = s.rgc ∧ (s.modLink n f).prof = s.prof ∧
    (s.modLink n f).axes = s.axes ∧ (s.modLink n f).thms = s.thms ∧ (s.modLink n f).thm = s.thm ∧ (s.modLink n f).plk = s.plk ∧
    (s.modLink n f).ports = s.ports ∧ (s.modLink n f).svc = s.svc ∧ (s.modLink n f).boot = s.boot ∧ (s.modLink n f).lov = s.lov ∧
    (s.modLink n f).bay = s.bay := by
  and_intros <;> rfl

@[simp] theorem State.modCue_cues (s : State) (d : Nat) (f : Cue → Cue) : (s.modCue d f).cues = s.cues.modify d f := rfl
@[simp] theorem State.modCue_other (s : State) (d : Nat) (f : Cue → Cue) :
    (s.modCue d f).nStn = s.nStn ∧ (s.modCue d f).now = s.now ∧ (s.modCue d f).freeCtr = s.freeCtr ∧ (s.modCue d f).pending = s.pending ∧
    (s.modCue d f).regs = s.regs ∧ (s.modCue d f).staged = s.staged ∧ (s.modCue d f).armed = s.armed ∧ (s.modCue d f).inUse = s.inUse ∧
    (s.modCue d f).hostPath = s.hostPath ∧ (s.modCue d f).svcPath = s.svcPath ∧ (s.modCue d f).opHold = s.opHold ∧
    (s.modCue d f).wtb = s.wtb ∧ (s.modCue d f).links = s.links ∧ (s.modCue d f).frm = s.frm ∧ (s.modCue d f).flt = s.flt ∧
    (s.modCue d f).evr = s.evr ∧ (s.modCue d f).hif = s.hif ∧ (s.modCue d f).lpes = s.lpes ∧ (s.modCue d f).hvcs = s.hvcs ∧
    (s.modCue d f).stations = s.stations ∧ (s.modCue d f).fsr = s.fsr ∧ (s.modCue d f).chans = s.chans ∧ (s.modCue d f).buses = s.buses ∧
    (s.modCue d f).mems = s.mems ∧ (s.modCue d f).xfrs = s.xfrs ∧ (s.modCue d f).rins = s.rins ∧ (s.modCue d f).rsets = s.rsets ∧
    (s.modCue d f).mirrors = s.mirrors ∧ (s.modCue d f).scns = s.scns ∧ (s.modCue d f).ckss = s.ckss ∧ (s.modCue d f).sweeps = s.sweeps ∧
    (s.modCue d f).lsrs = s.lsrs ∧ (s.modCue d f).rgc = s.rgc ∧ (s.modCue d f).prof = s.prof ∧ (s.modCue d f).axes = s.axes ∧
    (s.modCue d f).thms = s.thms ∧ (s.modCue d f).thm = s.thm ∧ (s.modCue d f).plk = s.plk ∧ (s.modCue d f).ports = s.ports ∧
    (s.modCue d f).svc = s.svc ∧ (s.modCue d f).boot = s.boot ∧ (s.modCue d f).lov = s.lov ∧ (s.modCue d f).bay = s.bay := by
  and_intros <;> rfl

@[simp] theorem State.modWtb_wtb (s : State) (f : Wtb → Wtb) : (s.modWtb f).wtb = f s.wtb := rfl
@[simp] theorem State.modWtb_other (s : State) (f : Wtb → Wtb) :
    (s.modWtb f).nStn = s.nStn ∧ (s.modWtb f).now = s.now ∧ (s.modWtb f).freeCtr = s.freeCtr ∧ (s.modWtb f).pending = s.pending ∧
    (s.modWtb f).regs = s.regs ∧ (s.modWtb f).staged = s.staged ∧ (s.modWtb f).armed = s.armed ∧ (s.modWtb f).inUse = s.inUse ∧
    (s.modWtb f).hostPath = s.hostPath ∧ (s.modWtb f).svcPath = s.svcPath ∧ (s.modWtb f).opHold = s.opHold ∧
    (s.modWtb f).links = s.links ∧ (s.modWtb f).cues = s.cues ∧ (s.modWtb f).frm = s.frm ∧ (s.modWtb f).flt = s.flt ∧
    (s.modWtb f).evr = s.evr ∧ (s.modWtb f).hif = s.hif ∧ (s.modWtb f).lpes = s.lpes ∧ (s.modWtb f).hvcs = s.hvcs ∧
    (s.modWtb f).stations = s.stations ∧ (s.modWtb f).fsr = s.fsr ∧ (s.modWtb f).chans = s.chans ∧ (s.modWtb f).buses = s.buses ∧
    (s.modWtb f).mems = s.mems ∧ (s.modWtb f).xfrs = s.xfrs ∧ (s.modWtb f).rins = s.rins ∧ (s.modWtb f).rsets = s.rsets ∧
    (s.modWtb f).mirrors = s.mirrors ∧ (s.modWtb f).scns = s.scns ∧ (s.modWtb f).ckss = s.ckss ∧ (s.modWtb f).sweeps = s.sweeps ∧
    (s.modWtb f).lsrs = s.lsrs ∧ (s.modWtb f).rgc = s.rgc ∧ (s.modWtb f).prof = s.prof ∧ (s.modWtb f).axes = s.axes ∧
    (s.modWtb f).thms = s.thms ∧ (s.modWtb f).thm = s.thm ∧ (s.modWtb f).plk = s.plk ∧ (s.modWtb f).ports = s.ports ∧
    (s.modWtb f).svc = s.svc ∧ (s.modWtb f).boot = s.boot ∧ (s.modWtb f).lov = s.lov ∧ (s.modWtb f).bay = s.bay := by
  and_intros <;> rfl

@[simp] theorem State.modFrm_frm (s : State) (f : Frm → Frm) : (s.modFrm f).frm = f s.frm := rfl
@[simp] theorem State.modFrm_other (s : State) (f : Frm → Frm) :
    (s.modFrm f).nStn = s.nStn ∧ (s.modFrm f).now = s.now ∧ (s.modFrm f).freeCtr = s.freeCtr ∧ (s.modFrm f).pending = s.pending ∧
    (s.modFrm f).regs = s.regs ∧ (s.modFrm f).staged = s.staged ∧ (s.modFrm f).armed = s.armed ∧ (s.modFrm f).inUse = s.inUse ∧
    (s.modFrm f).hostPath = s.hostPath ∧ (s.modFrm f).svcPath = s.svcPath ∧ (s.modFrm f).opHold = s.opHold ∧ (s.modFrm f).wtb = s.wtb ∧
    (s.modFrm f).links = s.links ∧ (s.modFrm f).cues = s.cues ∧ (s.modFrm f).flt = s.flt ∧ (s.modFrm f).evr = s.evr ∧
    (s.modFrm f).hif = s.hif ∧ (s.modFrm f).lpes = s.lpes ∧ (s.modFrm f).hvcs = s.hvcs ∧ (s.modFrm f).stations = s.stations ∧
    (s.modFrm f).fsr = s.fsr ∧ (s.modFrm f).chans = s.chans ∧ (s.modFrm f).buses = s.buses ∧ (s.modFrm f).mems = s.mems ∧
    (s.modFrm f).xfrs = s.xfrs ∧ (s.modFrm f).rins = s.rins ∧ (s.modFrm f).rsets = s.rsets ∧ (s.modFrm f).mirrors = s.mirrors ∧
    (s.modFrm f).scns = s.scns ∧ (s.modFrm f).ckss = s.ckss ∧ (s.modFrm f).sweeps = s.sweeps ∧ (s.modFrm f).lsrs = s.lsrs ∧
    (s.modFrm f).rgc = s.rgc ∧ (s.modFrm f).prof = s.prof ∧ (s.modFrm f).axes = s.axes ∧ (s.modFrm f).thms = s.thms ∧
    (s.modFrm f).thm = s.thm ∧ (s.modFrm f).plk = s.plk ∧ (s.modFrm f).ports = s.ports ∧ (s.modFrm f).svc = s.svc ∧
    (s.modFrm f).boot = s.boot ∧ (s.modFrm f).lov = s.lov ∧ (s.modFrm f).bay = s.bay := by
  and_intros <;> rfl

@[simp] theorem State.modFlt_flt (s : State) (f : Flt → Flt) : (s.modFlt f).flt = f s.flt := rfl
@[simp] theorem State.modFlt_other (s : State) (f : Flt → Flt) :
    (s.modFlt f).nStn = s.nStn ∧ (s.modFlt f).now = s.now ∧ (s.modFlt f).freeCtr = s.freeCtr ∧ (s.modFlt f).pending = s.pending ∧
    (s.modFlt f).regs = s.regs ∧ (s.modFlt f).staged = s.staged ∧ (s.modFlt f).armed = s.armed ∧ (s.modFlt f).inUse = s.inUse ∧
    (s.modFlt f).hostPath = s.hostPath ∧ (s.modFlt f).svcPath = s.svcPath ∧ (s.modFlt f).opHold = s.opHold ∧ (s.modFlt f).wtb = s.wtb ∧
    (s.modFlt f).links = s.links ∧ (s.modFlt f).cues = s.cues ∧ (s.modFlt f).frm = s.frm ∧ (s.modFlt f).evr = s.evr ∧
    (s.modFlt f).hif = s.hif ∧ (s.modFlt f).lpes = s.lpes ∧ (s.modFlt f).hvcs = s.hvcs ∧ (s.modFlt f).stations = s.stations ∧
    (s.modFlt f).fsr = s.fsr ∧ (s.modFlt f).chans = s.chans ∧ (s.modFlt f).buses = s.buses ∧ (s.modFlt f).mems = s.mems ∧
    (s.modFlt f).xfrs = s.xfrs ∧ (s.modFlt f).rins = s.rins ∧ (s.modFlt f).rsets = s.rsets ∧ (s.modFlt f).mirrors = s.mirrors ∧
    (s.modFlt f).scns = s.scns ∧ (s.modFlt f).ckss = s.ckss ∧ (s.modFlt f).sweeps = s.sweeps ∧ (s.modFlt f).lsrs = s.lsrs ∧
    (s.modFlt f).rgc = s.rgc ∧ (s.modFlt f).prof = s.prof ∧ (s.modFlt f).axes = s.axes ∧ (s.modFlt f).thms = s.thms ∧
    (s.modFlt f).thm = s.thm ∧ (s.modFlt f).plk = s.plk ∧ (s.modFlt f).ports = s.ports ∧ (s.modFlt f).svc = s.svc ∧
    (s.modFlt f).boot = s.boot ∧ (s.modFlt f).lov = s.lov ∧ (s.modFlt f).bay = s.bay := by
  and_intros <;> rfl

@[simp] theorem State.modEvr_evr (s : State) (f : Evr → Evr) : (s.modEvr f).evr = f s.evr := rfl
@[simp] theorem State.modEvr_other (s : State) (f : Evr → Evr) :
    (s.modEvr f).nStn = s.nStn ∧ (s.modEvr f).now = s.now ∧ (s.modEvr f).freeCtr = s.freeCtr ∧ (s.modEvr f).pending = s.pending ∧
    (s.modEvr f).regs = s.regs ∧ (s.modEvr f).staged = s.staged ∧ (s.modEvr f).armed = s.armed ∧ (s.modEvr f).inUse = s.inUse ∧
    (s.modEvr f).hostPath = s.hostPath ∧ (s.modEvr f).svcPath = s.svcPath ∧ (s.modEvr f).opHold = s.opHold ∧ (s.modEvr f).wtb = s.wtb ∧
    (s.modEvr f).links = s.links ∧ (s.modEvr f).cues = s.cues ∧ (s.modEvr f).frm = s.frm ∧ (s.modEvr f).flt = s.flt ∧
    (s.modEvr f).hif = s.hif ∧ (s.modEvr f).lpes = s.lpes ∧ (s.modEvr f).hvcs = s.hvcs ∧ (s.modEvr f).stations = s.stations ∧
    (s.modEvr f).fsr = s.fsr ∧ (s.modEvr f).chans = s.chans ∧ (s.modEvr f).buses = s.buses ∧ (s.modEvr f).mems = s.mems ∧
    (s.modEvr f).xfrs = s.xfrs ∧ (s.modEvr f).rins = s.rins ∧ (s.modEvr f).rsets = s.rsets ∧ (s.modEvr f).mirrors = s.mirrors ∧
    (s.modEvr f).scns = s.scns ∧ (s.modEvr f).ckss = s.ckss ∧ (s.modEvr f).sweeps = s.sweeps ∧ (s.modEvr f).lsrs = s.lsrs ∧
    (s.modEvr f).rgc = s.rgc ∧ (s.modEvr f).prof = s.prof ∧ (s.modEvr f).axes = s.axes ∧ (s.modEvr f).thms = s.thms ∧
    (s.modEvr f).thm = s.thm ∧ (s.modEvr f).plk = s.plk ∧ (s.modEvr f).ports = s.ports ∧ (s.modEvr f).svc = s.svc ∧
    (s.modEvr f).boot = s.boot ∧ (s.modEvr f).lov = s.lov ∧ (s.modEvr f).bay = s.bay := by
  and_intros <;> rfl

@[simp] theorem State.modLpe_lpes (s : State) (d : Nat) (f : Lpe → Lpe) : (s.modLpe d f).lpes = s.lpes.modify d f := rfl
@[simp] theorem State.modLpe_other (s : State) (d : Nat) (f : Lpe → Lpe) :
    (s.modLpe d f).nStn = s.nStn ∧ (s.modLpe d f).now = s.now ∧ (s.modLpe d f).freeCtr = s.freeCtr ∧ (s.modLpe d f).pending = s.pending ∧
    (s.modLpe d f).regs = s.regs ∧ (s.modLpe d f).staged = s.staged ∧ (s.modLpe d f).armed = s.armed ∧ (s.modLpe d f).inUse = s.inUse ∧
    (s.modLpe d f).hostPath = s.hostPath ∧ (s.modLpe d f).svcPath = s.svcPath ∧ (s.modLpe d f).opHold = s.opHold ∧
    (s.modLpe d f).wtb = s.wtb ∧ (s.modLpe d f).links = s.links ∧ (s.modLpe d f).cues = s.cues ∧ (s.modLpe d f).frm = s.frm ∧
    (s.modLpe d f).flt = s.flt ∧ (s.modLpe d f).evr = s.evr ∧ (s.modLpe d f).hif = s.hif ∧ (s.modLpe d f).hvcs = s.hvcs ∧
    (s.modLpe d f).stations = s.stations ∧ (s.modLpe d f).fsr = s.fsr ∧ (s.modLpe d f).chans = s.chans ∧ (s.modLpe d f).buses = s.buses ∧
    (s.modLpe d f).mems = s.mems ∧ (s.modLpe d f).xfrs = s.xfrs ∧ (s.modLpe d f).rins = s.rins ∧ (s.modLpe d f).rsets = s.rsets ∧
    (s.modLpe d f).mirrors = s.mirrors ∧ (s.modLpe d f).scns = s.scns ∧ (s.modLpe d f).ckss = s.ckss ∧ (s.modLpe d f).sweeps = s.sweeps ∧
    (s.modLpe d f).lsrs = s.lsrs ∧ (s.modLpe d f).rgc = s.rgc ∧ (s.modLpe d f).prof = s.prof ∧ (s.modLpe d f).axes = s.axes ∧
    (s.modLpe d f).thms = s.thms ∧ (s.modLpe d f).thm = s.thm ∧ (s.modLpe d f).plk = s.plk ∧ (s.modLpe d f).ports = s.ports ∧
    (s.modLpe d f).svc = s.svc ∧ (s.modLpe d f).boot = s.boot ∧ (s.modLpe d f).lov = s.lov ∧ (s.modLpe d f).bay = s.bay := by
  and_intros <;> rfl

@[simp] theorem State.modHvc_hvcs (s : State) (d : Nat) (f : Hvc → Hvc) : (s.modHvc d f).hvcs = s.hvcs.modify d f := rfl
@[simp] theorem State.modHvc_other (s : State) (d : Nat) (f : Hvc → Hvc) :
    (s.modHvc d f).nStn = s.nStn ∧ (s.modHvc d f).now = s.now ∧ (s.modHvc d f).freeCtr = s.freeCtr ∧ (s.modHvc d f).pending = s.pending ∧
    (s.modHvc d f).regs = s.regs ∧ (s.modHvc d f).staged = s.staged ∧ (s.modHvc d f).armed = s.armed ∧ (s.modHvc d f).inUse = s.inUse ∧
    (s.modHvc d f).hostPath = s.hostPath ∧ (s.modHvc d f).svcPath = s.svcPath ∧ (s.modHvc d f).opHold = s.opHold ∧
    (s.modHvc d f).wtb = s.wtb ∧ (s.modHvc d f).links = s.links ∧ (s.modHvc d f).cues = s.cues ∧ (s.modHvc d f).frm = s.frm ∧
    (s.modHvc d f).flt = s.flt ∧ (s.modHvc d f).evr = s.evr ∧ (s.modHvc d f).hif = s.hif ∧ (s.modHvc d f).lpes = s.lpes ∧
    (s.modHvc d f).stations = s.stations ∧ (s.modHvc d f).fsr = s.fsr ∧ (s.modHvc d f).chans = s.chans ∧ (s.modHvc d f).buses = s.buses ∧
    (s.modHvc d f).mems = s.mems ∧ (s.modHvc d f).xfrs = s.xfrs ∧ (s.modHvc d f).rins = s.rins ∧ (s.modHvc d f).rsets = s.rsets ∧
    (s.modHvc d f).mirrors = s.mirrors ∧ (s.modHvc d f).scns = s.scns ∧ (s.modHvc d f).ckss = s.ckss ∧ (s.modHvc d f).sweeps = s.sweeps ∧
    (s.modHvc d f).lsrs = s.lsrs ∧ (s.modHvc d f).rgc = s.rgc ∧ (s.modHvc d f).prof = s.prof ∧ (s.modHvc d f).axes = s.axes ∧
    (s.modHvc d f).thms = s.thms ∧ (s.modHvc d f).thm = s.thm ∧ (s.modHvc d f).plk = s.plk ∧ (s.modHvc d f).ports = s.ports ∧
    (s.modHvc d f).svc = s.svc ∧ (s.modHvc d f).boot = s.boot ∧ (s.modHvc d f).lov = s.lov ∧ (s.modHvc d f).bay = s.bay := by
  and_intros <;> rfl

@[simp] theorem State.modStn_stations (s : State) (n : Nat) (f : Stn → Stn) : (s.modStn n f).stations = s.stations.modify n f := rfl
@[simp] theorem State.modStn_other (s : State) (n : Nat) (f : Stn → Stn) :
    (s.modStn n f).nStn = s.nStn ∧ (s.modStn n f).now = s.now ∧ (s.modStn n f).freeCtr = s.freeCtr ∧ (s.modStn n f).pending = s.pending ∧
    (s.modStn n f).regs = s.regs ∧ (s.modStn n f).staged = s.staged ∧ (s.modStn n f).armed = s.armed ∧ (s.modStn n f).inUse = s.inUse ∧
    (s.modStn n f).hostPath = s.hostPath ∧ (s.modStn n f).svcPath = s.svcPath ∧ (s.modStn n f).opHold = s.opHold ∧
    (s.modStn n f).wtb = s.wtb ∧ (s.modStn n f).links = s.links ∧ (s.modStn n f).cues = s.cues ∧ (s.modStn n f).frm = s.frm ∧
    (s.modStn n f).flt = s.flt ∧ (s.modStn n f).evr = s.evr ∧ (s.modStn n f).hif = s.hif ∧ (s.modStn n f).lpes = s.lpes ∧
    (s.modStn n f).hvcs = s.hvcs ∧ (s.modStn n f).fsr = s.fsr ∧ (s.modStn n f).chans = s.chans ∧ (s.modStn n f).buses = s.buses ∧
    (s.modStn n f).mems = s.mems ∧ (s.modStn n f).xfrs = s.xfrs ∧ (s.modStn n f).rins = s.rins ∧ (s.modStn n f).rsets = s.rsets ∧
    (s.modStn n f).mirrors = s.mirrors ∧ (s.modStn n f).scns = s.scns ∧ (s.modStn n f).ckss = s.ckss ∧ (s.modStn n f).sweeps = s.sweeps ∧
    (s.modStn n f).lsrs = s.lsrs ∧ (s.modStn n f).rgc = s.rgc ∧ (s.modStn n f).prof = s.prof ∧ (s.modStn n f).axes = s.axes ∧
    (s.modStn n f).thms = s.thms ∧ (s.modStn n f).thm = s.thm ∧ (s.modStn n f).plk = s.plk ∧ (s.modStn n f).ports = s.ports ∧
    (s.modStn n f).svc = s.svc ∧ (s.modStn n f).boot = s.boot ∧ (s.modStn n f).lov = s.lov ∧ (s.modStn n f).bay = s.bay := by
  and_intros <;> rfl

@[simp] theorem State.modFsr_fsr (s : State) (f : Fsr → Fsr) : (s.modFsr f).fsr = f s.fsr := rfl
@[simp] theorem State.modFsr_other (s : State) (f : Fsr → Fsr) :
    (s.modFsr f).nStn = s.nStn ∧ (s.modFsr f).now = s.now ∧ (s.modFsr f).freeCtr = s.freeCtr ∧ (s.modFsr f).pending = s.pending ∧
    (s.modFsr f).regs = s.regs ∧ (s.modFsr f).staged = s.staged ∧ (s.modFsr f).armed = s.armed ∧ (s.modFsr f).inUse = s.inUse ∧
    (s.modFsr f).hostPath = s.hostPath ∧ (s.modFsr f).svcPath = s.svcPath ∧ (s.modFsr f).opHold = s.opHold ∧ (s.modFsr f).wtb = s.wtb ∧
    (s.modFsr f).links = s.links ∧ (s.modFsr f).cues = s.cues ∧ (s.modFsr f).frm = s.frm ∧ (s.modFsr f).flt = s.flt ∧
    (s.modFsr f).evr = s.evr ∧ (s.modFsr f).hif = s.hif ∧ (s.modFsr f).lpes = s.lpes ∧ (s.modFsr f).hvcs = s.hvcs ∧
    (s.modFsr f).stations = s.stations ∧ (s.modFsr f).chans = s.chans ∧ (s.modFsr f).buses = s.buses ∧ (s.modFsr f).mems = s.mems ∧
    (s.modFsr f).xfrs = s.xfrs ∧ (s.modFsr f).rins = s.rins ∧ (s.modFsr f).rsets = s.rsets ∧ (s.modFsr f).mirrors = s.mirrors ∧
    (s.modFsr f).scns = s.scns ∧ (s.modFsr f).ckss = s.ckss ∧ (s.modFsr f).sweeps = s.sweeps ∧ (s.modFsr f).lsrs = s.lsrs ∧
    (s.modFsr f).rgc = s.rgc ∧ (s.modFsr f).prof = s.prof ∧ (s.modFsr f).axes = s.axes ∧ (s.modFsr f).thms = s.thms ∧
    (s.modFsr f).thm = s.thm ∧ (s.modFsr f).plk = s.plk ∧ (s.modFsr f).ports = s.ports ∧ (s.modFsr f).svc = s.svc ∧
    (s.modFsr f).boot = s.boot ∧ (s.modFsr f).lov = s.lov ∧ (s.modFsr f).bay = s.bay := by
  and_intros <;> rfl

@[simp] theorem State.modChan_chans (s : State) (d k : Nat) (f : Chan → Chan) : (s.modChan d k f).chans = s.chans.modify d fun l => l.modify k f := rfl
@[simp] theorem State.modChan_other (s : State) (d k : Nat) (f : Chan → Chan) :
    (s.modChan d k f).nStn = s.nStn ∧ (s.modChan d k f).now = s.now ∧ (s.modChan d k f).freeCtr = s.freeCtr ∧
    (s.modChan d k f).pending = s.pending ∧ (s.modChan d k f).regs = s.regs ∧ (s.modChan d k f).staged = s.staged ∧
    (s.modChan d k f).armed = s.armed ∧ (s.modChan d k f).inUse = s.inUse ∧ (s.modChan d k f).hostPath = s.hostPath ∧
    (s.modChan d k f).svcPath = s.svcPath ∧ (s.modChan d k f).opHold = s.opHold ∧ (s.modChan d k f).wtb = s.wtb ∧
    (s.modChan d k f).links = s.links ∧ (s.modChan d k f).cues = s.cues ∧ (s.modChan d k f).frm = s.frm ∧ (s.modChan d k f).flt = s.flt ∧
    (s.modChan d k f).evr = s.evr ∧ (s.modChan d k f).hif = s.hif ∧ (s.modChan d k f).lpes = s.lpes ∧ (s.modChan d k f).hvcs = s.hvcs ∧
    (s.modChan d k f).stations = s.stations ∧ (s.modChan d k f).fsr = s.fsr ∧ (s.modChan d k f).buses = s.buses ∧
    (s.modChan d k f).mems = s.mems ∧ (s.modChan d k f).xfrs = s.xfrs ∧ (s.modChan d k f).rins = s.rins ∧
    (s.modChan d k f).rsets = s.rsets ∧ (s.modChan d k f).mirrors = s.mirrors ∧ (s.modChan d k f).scns = s.scns ∧
    (s.modChan d k f).ckss = s.ckss ∧ (s.modChan d k f).sweeps = s.sweeps ∧ (s.modChan d k f).lsrs = s.lsrs ∧
    (s.modChan d k f).rgc = s.rgc ∧ (s.modChan d k f).prof = s.prof ∧ (s.modChan d k f).axes = s.axes ∧ (s.modChan d k f).thms = s.thms ∧
    (s.modChan d k f).thm = s.thm ∧ (s.modChan d k f).plk = s.plk ∧ (s.modChan d k f).ports = s.ports ∧ (s.modChan d k f).svc = s.svc ∧
    (s.modChan d k f).boot = s.boot ∧ (s.modChan d k f).lov = s.lov ∧ (s.modChan d k f).bay = s.bay := by
  and_intros <;> rfl

@[simp] theorem State.modBus_buses (s : State) (d : Nat) (f : Bus → Bus) : (s.modBus d f).buses = s.buses.modify d f := rfl
@[simp] theorem State.modBus_other (s : State) (d : Nat) (f : Bus → Bus) :
    (s.modBus d f).nStn = s.nStn ∧ (s.modBus d f).now = s.now ∧ (s.modBus d f).freeCtr = s.freeCtr ∧ (s.modBus d f).pending = s.pending ∧
    (s.modBus d f).regs = s.regs ∧ (s.modBus d f).staged = s.staged ∧ (s.modBus d f).armed = s.armed ∧ (s.modBus d f).inUse = s.inUse ∧
    (s.modBus d f).hostPath = s.hostPath ∧ (s.modBus d f).svcPath = s.svcPath ∧ (s.modBus d f).opHold = s.opHold ∧
    (s.modBus d f).wtb = s.wtb ∧ (s.modBus d f).links = s.links ∧ (s.modBus d f).cues = s.cues ∧ (s.modBus d f).frm = s.frm ∧
    (s.modBus d f).flt = s.flt ∧ (s.modBus d f).evr = s.evr ∧ (s.modBus d f).hif = s.hif ∧ (s.modBus d f).lpes = s.lpes ∧
    (s.modBus d f).hvcs = s.hvcs ∧ (s.modBus d f).stations = s.stations ∧ (s.modBus d f).fsr = s.fsr ∧ (s.modBus d f).chans = s.chans ∧
    (s.modBus d f).mems = s.mems ∧ (s.modBus d f).xfrs = s.xfrs ∧ (s.modBus d f).rins = s.rins ∧ (s.modBus d f).rsets = s.rsets ∧
    (s.modBus d f).mirrors = s.mirrors ∧ (s.modBus d f).scns = s.scns ∧ (s.modBus d f).ckss = s.ckss ∧ (s.modBus d f).sweeps = s.sweeps ∧
    (s.modBus d f).lsrs = s.lsrs ∧ (s.modBus d f).rgc = s.rgc ∧ (s.modBus d f).prof = s.prof ∧ (s.modBus d f).axes = s.axes ∧
    (s.modBus d f).thms = s.thms ∧ (s.modBus d f).thm = s.thm ∧ (s.modBus d f).plk = s.plk ∧ (s.modBus d f).ports = s.ports ∧
    (s.modBus d f).svc = s.svc ∧ (s.modBus d f).boot = s.boot ∧ (s.modBus d f).lov = s.lov ∧ (s.modBus d f).bay = s.bay := by
  and_intros <;> rfl

@[simp] theorem State.modMem_mems (s : State) (d : Nat) (f : Mems → Mems) : (s.modMem d f).mems = s.mems.modify d f := rfl
@[simp] theorem State.modMem_other (s : State) (d : Nat) (f : Mems → Mems) :
    (s.modMem d f).nStn = s.nStn ∧ (s.modMem d f).now = s.now ∧ (s.modMem d f).freeCtr = s.freeCtr ∧ (s.modMem d f).pending = s.pending ∧
    (s.modMem d f).regs = s.regs ∧ (s.modMem d f).staged = s.staged ∧ (s.modMem d f).armed = s.armed ∧ (s.modMem d f).inUse = s.inUse ∧
    (s.modMem d f).hostPath = s.hostPath ∧ (s.modMem d f).svcPath = s.svcPath ∧ (s.modMem d f).opHold = s.opHold ∧
    (s.modMem d f).wtb = s.wtb ∧ (s.modMem d f).links = s.links ∧ (s.modMem d f).cues = s.cues ∧ (s.modMem d f).frm = s.frm ∧
    (s.modMem d f).flt = s.flt ∧ (s.modMem d f).evr = s.evr ∧ (s.modMem d f).hif = s.hif ∧ (s.modMem d f).lpes = s.lpes ∧
    (s.modMem d f).hvcs = s.hvcs ∧ (s.modMem d f).stations = s.stations ∧ (s.modMem d f).fsr = s.fsr ∧ (s.modMem d f).chans = s.chans ∧
    (s.modMem d f).buses = s.buses ∧ (s.modMem d f).xfrs = s.xfrs ∧ (s.modMem d f).rins = s.rins ∧ (s.modMem d f).rsets = s.rsets ∧
    (s.modMem d f).mirrors = s.mirrors ∧ (s.modMem d f).scns = s.scns ∧ (s.modMem d f).ckss = s.ckss ∧ (s.modMem d f).sweeps = s.sweeps ∧
    (s.modMem d f).lsrs = s.lsrs ∧ (s.modMem d f).rgc = s.rgc ∧ (s.modMem d f).prof = s.prof ∧ (s.modMem d f).axes = s.axes ∧
    (s.modMem d f).thms = s.thms ∧ (s.modMem d f).thm = s.thm ∧ (s.modMem d f).plk = s.plk ∧ (s.modMem d f).ports = s.ports ∧
    (s.modMem d f).svc = s.svc ∧ (s.modMem d f).boot = s.boot ∧ (s.modMem d f).lov = s.lov ∧ (s.modMem d f).bay = s.bay := by
  and_intros <;> rfl

@[simp] theorem State.modXch_xfrs (s : State) (d c : Nat) (f : XCh → XCh) : (s.modXch d c f).xfrs = s.xfrs.modify d fun x => { x with chans := x.chans.modify c f } := rfl
@[simp] theorem State.modXch_other (s : State) (d c : Nat) (f : XCh → XCh) :
    (s.modXch d c f).nStn = s.nStn ∧ (s.modXch d c f).now = s.now ∧ (s.modXch d c f).freeCtr = s.freeCtr ∧
    (s.modXch d c f).pending = s.pending ∧ (s.modXch d c f).regs = s.regs ∧ (s.modXch d c f).staged = s.staged ∧
    (s.modXch d c f).armed = s.armed ∧ (s.modXch d c f).inUse = s.inUse ∧ (s.modXch d c f).hostPath = s.hostPath ∧
    (s.modXch d c f).svcPath = s.svcPath ∧ (s.modXch d c f).opHold = s.opHold ∧ (s.modXch d c f).wtb = s.wtb ∧
    (s.modXch d c f).links = s.links ∧ (s.modXch d c f).cues = s.cues ∧ (s.modXch d c f).frm = s.frm ∧ (s.modXch d c f).flt = s.flt ∧
    (s.modXch d c f).evr = s.evr ∧ (s.modXch d c f).hif = s.hif ∧ (s.modXch d c f).lpes = s.lpes ∧ (s.modXch d c f).hvcs = s.hvcs ∧
    (s.modXch d c f).stations = s.stations ∧ (s.modXch d c f).fsr = s.fsr ∧ (s.modXch d c f).chans = s.chans ∧
    (s.modXch d c f).buses = s.buses ∧ (s.modXch d c f).mems = s.mems ∧ (s.modXch d c f).rins = s.rins ∧
    (s.modXch d c f).rsets = s.rsets ∧ (s.modXch d c f).mirrors = s.mirrors ∧ (s.modXch d c f).scns = s.scns ∧
    (s.modXch d c f).ckss = s.ckss ∧ (s.modXch d c f).sweeps = s.sweeps ∧ (s.modXch d c f).lsrs = s.lsrs ∧ (s.modXch d c f).rgc = s.rgc ∧
    (s.modXch d c f).prof = s.prof ∧ (s.modXch d c f).axes = s.axes ∧ (s.modXch d c f).thms = s.thms ∧ (s.modXch d c f).thm = s.thm ∧
    (s.modXch d c f).plk = s.plk ∧ (s.modXch d c f).ports = s.ports ∧ (s.modXch d c f).svc = s.svc ∧ (s.modXch d c f).boot = s.boot ∧
    (s.modXch d c f).lov = s.lov ∧ (s.modXch d c f).bay = s.bay := by
  and_intros <;> rfl

@[simp] theorem State.modRin_rins (s : State) (n : Nat) (f : Rin → Rin) : (s.modRin n f).rins = s.rins.modify n f := rfl
@[simp] theorem State.modRin_other (s : State) (n : Nat) (f : Rin → Rin) :
    (s.modRin n f).nStn = s.nStn ∧ (s.modRin n f).now = s.now ∧ (s.modRin n f).freeCtr = s.freeCtr ∧ (s.modRin n f).pending = s.pending ∧
    (s.modRin n f).regs = s.regs ∧ (s.modRin n f).staged = s.staged ∧ (s.modRin n f).armed = s.armed ∧ (s.modRin n f).inUse = s.inUse ∧
    (s.modRin n f).hostPath = s.hostPath ∧ (s.modRin n f).svcPath = s.svcPath ∧ (s.modRin n f).opHold = s.opHold ∧
    (s.modRin n f).wtb = s.wtb ∧ (s.modRin n f).links = s.links ∧ (s.modRin n f).cues = s.cues ∧ (s.modRin n f).frm = s.frm ∧
    (s.modRin n f).flt = s.flt ∧ (s.modRin n f).evr = s.evr ∧ (s.modRin n f).hif = s.hif ∧ (s.modRin n f).lpes = s.lpes ∧
    (s.modRin n f).hvcs = s.hvcs ∧ (s.modRin n f).stations = s.stations ∧ (s.modRin n f).fsr = s.fsr ∧ (s.modRin n f).chans = s.chans ∧
    (s.modRin n f).buses = s.buses ∧ (s.modRin n f).mems = s.mems ∧ (s.modRin n f).xfrs = s.xfrs ∧ (s.modRin n f).rsets = s.rsets ∧
    (s.modRin n f).mirrors = s.mirrors ∧ (s.modRin n f).scns = s.scns ∧ (s.modRin n f).ckss = s.ckss ∧ (s.modRin n f).sweeps = s.sweeps ∧
    (s.modRin n f).lsrs = s.lsrs ∧ (s.modRin n f).rgc = s.rgc ∧ (s.modRin n f).prof = s.prof ∧ (s.modRin n f).axes = s.axes ∧
    (s.modRin n f).thms = s.thms ∧ (s.modRin n f).thm = s.thm ∧ (s.modRin n f).plk = s.plk ∧ (s.modRin n f).ports = s.ports ∧
    (s.modRin n f).svc = s.svc ∧ (s.modRin n f).boot = s.boot ∧ (s.modRin n f).lov = s.lov ∧ (s.modRin n f).bay = s.bay := by
  and_intros <;> rfl

@[simp] theorem State.modMirror_mirrors (s : State) (n : Nat) (f : Mirror → Mirror) : (s.modMirror n f).mirrors = s.mirrors.modify n f := rfl
@[simp] theorem State.modMirror_other (s : State) (n : Nat) (f : Mirror → Mirror) :
    (s.modMirror n f).nStn = s.nStn ∧ (s.modMirror n f).now = s.now ∧ (s.modMirror n f).freeCtr = s.freeCtr ∧
    (s.modMirror n f).pending = s.pending ∧ (s.modMirror n f).regs = s.regs ∧ (s.modMirror n f).staged = s.staged ∧
    (s.modMirror n f).armed = s.armed ∧ (s.modMirror n f).inUse = s.inUse ∧ (s.modMirror n f).hostPath = s.hostPath ∧
    (s.modMirror n f).svcPath = s.svcPath ∧ (s.modMirror n f).opHold = s.opHold ∧ (s.modMirror n f).wtb = s.wtb ∧
    (s.modMirror n f).links = s.links ∧ (s.modMirror n f).cues = s.cues ∧ (s.modMirror n f).frm = s.frm ∧ (s.modMirror n f).flt = s.flt ∧
    (s.modMirror n f).evr = s.evr ∧ (s.modMirror n f).hif = s.hif ∧ (s.modMirror n f).lpes = s.lpes ∧ (s.modMirror n f).hvcs = s.hvcs ∧
    (s.modMirror n f).stations = s.stations ∧ (s.modMirror n f).fsr = s.fsr ∧ (s.modMirror n f).chans = s.chans ∧
    (s.modMirror n f).buses = s.buses ∧ (s.modMirror n f).mems = s.mems ∧ (s.modMirror n f).xfrs = s.xfrs ∧
    (s.modMirror n f).rins = s.rins ∧ (s.modMirror n f).rsets = s.rsets ∧ (s.modMirror n f).scns = s.scns ∧
    (s.modMirror n f).ckss = s.ckss ∧ (s.modMirror n f).sweeps = s.sweeps ∧ (s.modMirror n f).lsrs = s.lsrs ∧
    (s.modMirror n f).rgc = s.rgc ∧ (s.modMirror n f).prof = s.prof ∧ (s.modMirror n f).axes = s.axes ∧ (s.modMirror n f).thms = s.thms ∧
    (s.modMirror n f).thm = s.thm ∧ (s.modMirror n f).plk = s.plk ∧ (s.modMirror n f).ports = s.ports ∧ (s.modMirror n f).svc = s.svc ∧
    (s.modMirror n f).boot = s.boot ∧ (s.modMirror n f).lov = s.lov ∧ (s.modMirror n f).bay = s.bay := by
  and_intros <;> rfl

@[simp] theorem State.modScn_scns (s : State) (n : Nat) (f : Scn → Scn) : (s.modScn n f).scns = s.scns.modify n f := rfl
@[simp] theorem State.modScn_other (s : State) (n : Nat) (f : Scn → Scn) :
    (s.modScn n f).nStn = s.nStn ∧ (s.modScn n f).now = s.now ∧ (s.modScn n f).freeCtr = s.freeCtr ∧ (s.modScn n f).pending = s.pending ∧
    (s.modScn n f).regs = s.regs ∧ (s.modScn n f).staged = s.staged ∧ (s.modScn n f).armed = s.armed ∧ (s.modScn n f).inUse = s.inUse ∧
    (s.modScn n f).hostPath = s.hostPath ∧ (s.modScn n f).svcPath = s.svcPath ∧ (s.modScn n f).opHold = s.opHold ∧
    (s.modScn n f).wtb = s.wtb ∧ (s.modScn n f).links = s.links ∧ (s.modScn n f).cues = s.cues ∧ (s.modScn n f).frm = s.frm ∧
    (s.modScn n f).flt = s.flt ∧ (s.modScn n f).evr = s.evr ∧ (s.modScn n f).hif = s.hif ∧ (s.modScn n f).lpes = s.lpes ∧
    (s.modScn n f).hvcs = s.hvcs ∧ (s.modScn n f).stations = s.stations ∧ (s.modScn n f).fsr = s.fsr ∧ (s.modScn n f).chans = s.chans ∧
    (s.modScn n f).buses = s.buses ∧ (s.modScn n f).mems = s.mems ∧ (s.modScn n f).xfrs = s.xfrs ∧ (s.modScn n f).rins = s.rins ∧
    (s.modScn n f).rsets = s.rsets ∧ (s.modScn n f).mirrors = s.mirrors ∧ (s.modScn n f).ckss = s.ckss ∧
    (s.modScn n f).sweeps = s.sweeps ∧ (s.modScn n f).lsrs = s.lsrs ∧ (s.modScn n f).rgc = s.rgc ∧ (s.modScn n f).prof = s.prof ∧
    (s.modScn n f).axes = s.axes ∧ (s.modScn n f).thms = s.thms ∧ (s.modScn n f).thm = s.thm ∧ (s.modScn n f).plk = s.plk ∧
    (s.modScn n f).ports = s.ports ∧ (s.modScn n f).svc = s.svc ∧ (s.modScn n f).boot = s.boot ∧ (s.modScn n f).lov = s.lov ∧
    (s.modScn n f).bay = s.bay := by
  and_intros <;> rfl

@[simp] theorem State.modCks_ckss (s : State) (d : Nat) (f : Cks → Cks) : (s.modCks d f).ckss = s.ckss.modify d f := rfl
@[simp] theorem State.modCks_other (s : State) (d : Nat) (f : Cks → Cks) :
    (s.modCks d f).nStn = s.nStn ∧ (s.modCks d f).now = s.now ∧ (s.modCks d f).freeCtr = s.freeCtr ∧ (s.modCks d f).pending = s.pending ∧
    (s.modCks d f).regs = s.regs ∧ (s.modCks d f).staged = s.staged ∧ (s.modCks d f).armed = s.armed ∧ (s.modCks d f).inUse = s.inUse ∧
    (s.modCks d f).hostPath = s.hostPath ∧ (s.modCks d f).svcPath = s.svcPath ∧ (s.modCks d f).opHold = s.opHold ∧
    (s.modCks d f).wtb = s.wtb ∧ (s.modCks d f).links = s.links ∧ (s.modCks d f).cues = s.cues ∧ (s.modCks d f).frm = s.frm ∧
    (s.modCks d f).flt = s.flt ∧ (s.modCks d f).evr = s.evr ∧ (s.modCks d f).hif = s.hif ∧ (s.modCks d f).lpes = s.lpes ∧
    (s.modCks d f).hvcs = s.hvcs ∧ (s.modCks d f).stations = s.stations ∧ (s.modCks d f).fsr = s.fsr ∧ (s.modCks d f).chans = s.chans ∧
    (s.modCks d f).buses = s.buses ∧ (s.modCks d f).mems = s.mems ∧ (s.modCks d f).xfrs = s.xfrs ∧ (s.modCks d f).rins = s.rins ∧
    (s.modCks d f).rsets = s.rsets ∧ (s.modCks d f).mirrors = s.mirrors ∧ (s.modCks d f).scns = s.scns ∧
    (s.modCks d f).sweeps = s.sweeps ∧ (s.modCks d f).lsrs = s.lsrs ∧ (s.modCks d f).rgc = s.rgc ∧ (s.modCks d f).prof = s.prof ∧
    (s.modCks d f).axes = s.axes ∧ (s.modCks d f).thms = s.thms ∧ (s.modCks d f).thm = s.thm ∧ (s.modCks d f).plk = s.plk ∧
    (s.modCks d f).ports = s.ports ∧ (s.modCks d f).svc = s.svc ∧ (s.modCks d f).boot = s.boot ∧ (s.modCks d f).lov = s.lov ∧
    (s.modCks d f).bay = s.bay := by
  and_intros <;> rfl

@[simp] theorem State.modSweep_sweeps (s : State) (n : Nat) (f : Sweep → Sweep) : (s.modSweep n f).sweeps = s.sweeps.modify n f := rfl
@[simp] theorem State.modSweep_other (s : State) (n : Nat) (f : Sweep → Sweep) :
    (s.modSweep n f).nStn = s.nStn ∧ (s.modSweep n f).now = s.now ∧ (s.modSweep n f).freeCtr = s.freeCtr ∧
    (s.modSweep n f).pending = s.pending ∧ (s.modSweep n f).regs = s.regs ∧ (s.modSweep n f).staged = s.staged ∧
    (s.modSweep n f).armed = s.armed ∧ (s.modSweep n f).inUse = s.inUse ∧ (s.modSweep n f).hostPath = s.hostPath ∧
    (s.modSweep n f).svcPath = s.svcPath ∧ (s.modSweep n f).opHold = s.opHold ∧ (s.modSweep n f).wtb = s.wtb ∧
    (s.modSweep n f).links = s.links ∧ (s.modSweep n f).cues = s.cues ∧ (s.modSweep n f).frm = s.frm ∧ (s.modSweep n f).flt = s.flt ∧
    (s.modSweep n f).evr = s.evr ∧ (s.modSweep n f).hif = s.hif ∧ (s.modSweep n f).lpes = s.lpes ∧ (s.modSweep n f).hvcs = s.hvcs ∧
    (s.modSweep n f).stations = s.stations ∧ (s.modSweep n f).fsr = s.fsr ∧ (s.modSweep n f).chans = s.chans ∧
    (s.modSweep n f).buses = s.buses ∧ (s.modSweep n f).mems = s.mems ∧ (s.modSweep n f).xfrs = s.xfrs ∧ (s.modSweep n f).rins = s.rins ∧
    (s.modSweep n f).rsets = s.rsets ∧ (s.modSweep n f).mirrors = s.mirrors ∧ (s.modSweep n f).scns = s.scns ∧
    (s.modSweep n f).ckss = s.ckss ∧ (s.modSweep n f).lsrs = s.lsrs ∧ (s.modSweep n f).rgc = s.rgc ∧ (s.modSweep n f).prof = s.prof ∧
    (s.modSweep n f).axes = s.axes ∧ (s.modSweep n f).thms = s.thms ∧ (s.modSweep n f).thm = s.thm ∧ (s.modSweep n f).plk = s.plk ∧
    (s.modSweep n f).ports = s.ports ∧ (s.modSweep n f).svc = s.svc ∧ (s.modSweep n f).boot = s.boot ∧ (s.modSweep n f).lov = s.lov ∧
    (s.modSweep n f).bay = s.bay := by
  and_intros <;> rfl

@[simp] theorem State.modLsr_lsrs (s : State) (n : Nat) (f : Lsr → Lsr) : (s.modLsr n f).lsrs = s.lsrs.modify n f := rfl
@[simp] theorem State.modLsr_other (s : State) (n : Nat) (f : Lsr → Lsr) :
    (s.modLsr n f).nStn = s.nStn ∧ (s.modLsr n f).now = s.now ∧ (s.modLsr n f).freeCtr = s.freeCtr ∧ (s.modLsr n f).pending = s.pending ∧
    (s.modLsr n f).regs = s.regs ∧ (s.modLsr n f).staged = s.staged ∧ (s.modLsr n f).armed = s.armed ∧ (s.modLsr n f).inUse = s.inUse ∧
    (s.modLsr n f).hostPath = s.hostPath ∧ (s.modLsr n f).svcPath = s.svcPath ∧ (s.modLsr n f).opHold = s.opHold ∧
    (s.modLsr n f).wtb = s.wtb ∧ (s.modLsr n f).links = s.links ∧ (s.modLsr n f).cues = s.cues ∧ (s.modLsr n f).frm = s.frm ∧
    (s.modLsr n f).flt = s.flt ∧ (s.modLsr n f).evr = s.evr ∧ (s.modLsr n f).hif = s.hif ∧ (s.modLsr n f).lpes = s.lpes ∧
    (s.modLsr n f).hvcs = s.hvcs ∧ (s.modLsr n f).stations = s.stations ∧ (s.modLsr n f).fsr = s.fsr ∧ (s.modLsr n f).chans = s.chans ∧
    (s.modLsr n f).buses = s.buses ∧ (s.modLsr n f).mems = s.mems ∧ (s.modLsr n f).xfrs = s.xfrs ∧ (s.modLsr n f).rins = s.rins ∧
    (s.modLsr n f).rsets = s.rsets ∧ (s.modLsr n f).mirrors = s.mirrors ∧ (s.modLsr n f).scns = s.scns ∧ (s.modLsr n f).ckss = s.ckss ∧
    (s.modLsr n f).sweeps = s.sweeps ∧ (s.modLsr n f).rgc = s.rgc ∧ (s.modLsr n f).prof = s.prof ∧ (s.modLsr n f).axes = s.axes ∧
    (s.modLsr n f).thms = s.thms ∧ (s.modLsr n f).thm = s.thm ∧ (s.modLsr n f).plk = s.plk ∧ (s.modLsr n f).ports = s.ports ∧
    (s.modLsr n f).svc = s.svc ∧ (s.modLsr n f).boot = s.boot ∧ (s.modLsr n f).lov = s.lov ∧ (s.modLsr n f).bay = s.bay := by
  and_intros <;> rfl

@[simp] theorem State.modRgc_rgc (s : State) (f : Rgc → Rgc) : (s.modRgc f).rgc = f s.rgc := rfl
@[simp] theorem State.modRgc_other (s : State) (f : Rgc → Rgc) :
    (s.modRgc f).nStn = s.nStn ∧ (s.modRgc f).now = s.now ∧ (s.modRgc f).freeCtr = s.freeCtr ∧ (s.modRgc f).pending = s.pending ∧
    (s.modRgc f).regs = s.regs ∧ (s.modRgc f).staged = s.staged ∧ (s.modRgc f).armed = s.armed ∧ (s.modRgc f).inUse = s.inUse ∧
    (s.modRgc f).hostPath = s.hostPath ∧ (s.modRgc f).svcPath = s.svcPath ∧ (s.modRgc f).opHold = s.opHold ∧ (s.modRgc f).wtb = s.wtb ∧
    (s.modRgc f).links = s.links ∧ (s.modRgc f).cues = s.cues ∧ (s.modRgc f).frm = s.frm ∧ (s.modRgc f).flt = s.flt ∧
    (s.modRgc f).evr = s.evr ∧ (s.modRgc f).hif = s.hif ∧ (s.modRgc f).lpes = s.lpes ∧ (s.modRgc f).hvcs = s.hvcs ∧
    (s.modRgc f).stations = s.stations ∧ (s.modRgc f).fsr = s.fsr ∧ (s.modRgc f).chans = s.chans ∧ (s.modRgc f).buses = s.buses ∧
    (s.modRgc f).mems = s.mems ∧ (s.modRgc f).xfrs = s.xfrs ∧ (s.modRgc f).rins = s.rins ∧ (s.modRgc f).rsets = s.rsets ∧
    (s.modRgc f).mirrors = s.mirrors ∧ (s.modRgc f).scns = s.scns ∧ (s.modRgc f).ckss = s.ckss ∧ (s.modRgc f).sweeps = s.sweeps ∧
    (s.modRgc f).lsrs = s.lsrs ∧ (s.modRgc f).prof = s.prof ∧ (s.modRgc f).axes = s.axes ∧ (s.modRgc f).thms = s.thms ∧
    (s.modRgc f).thm = s.thm ∧ (s.modRgc f).plk = s.plk ∧ (s.modRgc f).ports = s.ports ∧ (s.modRgc f).svc = s.svc ∧
    (s.modRgc f).boot = s.boot ∧ (s.modRgc f).lov = s.lov ∧ (s.modRgc f).bay = s.bay := by
  and_intros <;> rfl

@[simp] theorem State.modProf_prof (s : State) (f : Prof → Prof) : (s.modProf f).prof = f s.prof := rfl
@[simp] theorem State.modProf_other (s : State) (f : Prof → Prof) :
    (s.modProf f).nStn = s.nStn ∧ (s.modProf f).now = s.now ∧ (s.modProf f).freeCtr = s.freeCtr ∧ (s.modProf f).pending = s.pending ∧
    (s.modProf f).regs = s.regs ∧ (s.modProf f).staged = s.staged ∧ (s.modProf f).armed = s.armed ∧ (s.modProf f).inUse = s.inUse ∧
    (s.modProf f).hostPath = s.hostPath ∧ (s.modProf f).svcPath = s.svcPath ∧ (s.modProf f).opHold = s.opHold ∧
    (s.modProf f).wtb = s.wtb ∧ (s.modProf f).links = s.links ∧ (s.modProf f).cues = s.cues ∧ (s.modProf f).frm = s.frm ∧
    (s.modProf f).flt = s.flt ∧ (s.modProf f).evr = s.evr ∧ (s.modProf f).hif = s.hif ∧ (s.modProf f).lpes = s.lpes ∧
    (s.modProf f).hvcs = s.hvcs ∧ (s.modProf f).stations = s.stations ∧ (s.modProf f).fsr = s.fsr ∧ (s.modProf f).chans = s.chans ∧
    (s.modProf f).buses = s.buses ∧ (s.modProf f).mems = s.mems ∧ (s.modProf f).xfrs = s.xfrs ∧ (s.modProf f).rins = s.rins ∧
    (s.modProf f).rsets = s.rsets ∧ (s.modProf f).mirrors = s.mirrors ∧ (s.modProf f).scns = s.scns ∧ (s.modProf f).ckss = s.ckss ∧
    (s.modProf f).sweeps = s.sweeps ∧ (s.modProf f).lsrs = s.lsrs ∧ (s.modProf f).rgc = s.rgc ∧ (s.modProf f).axes = s.axes ∧
    (s.modProf f).thms = s.thms ∧ (s.modProf f).thm = s.thm ∧ (s.modProf f).plk = s.plk ∧ (s.modProf f).ports = s.ports ∧
    (s.modProf f).svc = s.svc ∧ (s.modProf f).boot = s.boot ∧ (s.modProf f).lov = s.lov ∧ (s.modProf f).bay = s.bay := by
  and_intros <;> rfl

@[simp] theorem State.modAxis_axes (s : State) (x : Nat) (f : Axis → Axis) : (s.modAxis x f).axes = s.axes.modify x f := rfl
@[simp] theorem State.modAxis_other (s : State) (x : Nat) (f : Axis → Axis) :
    (s.modAxis x f).nStn = s.nStn ∧ (s.modAxis x f).now = s.now ∧ (s.modAxis x f).freeCtr = s.freeCtr ∧
    (s.modAxis x f).pending = s.pending ∧ (s.modAxis x f).regs = s.regs ∧ (s.modAxis x f).staged = s.staged ∧
    (s.modAxis x f).armed = s.armed ∧ (s.modAxis x f).inUse = s.inUse ∧ (s.modAxis x f).hostPath = s.hostPath ∧
    (s.modAxis x f).svcPath = s.svcPath ∧ (s.modAxis x f).opHold = s.opHold ∧ (s.modAxis x f).wtb = s.wtb ∧
    (s.modAxis x f).links = s.links ∧ (s.modAxis x f).cues = s.cues ∧ (s.modAxis x f).frm = s.frm ∧ (s.modAxis x f).flt = s.flt ∧
    (s.modAxis x f).evr = s.evr ∧ (s.modAxis x f).hif = s.hif ∧ (s.modAxis x f).lpes = s.lpes ∧ (s.modAxis x f).hvcs = s.hvcs ∧
    (s.modAxis x f).stations = s.stations ∧ (s.modAxis x f).fsr = s.fsr ∧ (s.modAxis x f).chans = s.chans ∧
    (s.modAxis x f).buses = s.buses ∧ (s.modAxis x f).mems = s.mems ∧ (s.modAxis x f).xfrs = s.xfrs ∧ (s.modAxis x f).rins = s.rins ∧
    (s.modAxis x f).rsets = s.rsets ∧ (s.modAxis x f).mirrors = s.mirrors ∧ (s.modAxis x f).scns = s.scns ∧
    (s.modAxis x f).ckss = s.ckss ∧ (s.modAxis x f).sweeps = s.sweeps ∧ (s.modAxis x f).lsrs = s.lsrs ∧ (s.modAxis x f).rgc = s.rgc ∧
    (s.modAxis x f).prof = s.prof ∧ (s.modAxis x f).thms = s.thms ∧ (s.modAxis x f).thm = s.thm ∧ (s.modAxis x f).plk = s.plk ∧
    (s.modAxis x f).ports = s.ports ∧ (s.modAxis x f).svc = s.svc ∧ (s.modAxis x f).boot = s.boot ∧ (s.modAxis x f).lov = s.lov ∧
    (s.modAxis x f).bay = s.bay := by
  and_intros <;> rfl

@[simp] theorem State.modThmDie_thms (s : State) (d : Nat) (f : ThmDie → ThmDie) : (s.modThmDie d f).thms = s.thms.modify d f := rfl
@[simp] theorem State.modThmDie_other (s : State) (d : Nat) (f : ThmDie → ThmDie) :
    (s.modThmDie d f).nStn = s.nStn ∧ (s.modThmDie d f).now = s.now ∧ (s.modThmDie d f).freeCtr = s.freeCtr ∧
    (s.modThmDie d f).pending = s.pending ∧ (s.modThmDie d f).regs = s.regs ∧ (s.modThmDie d f).staged = s.staged ∧
    (s.modThmDie d f).armed = s.armed ∧ (s.modThmDie d f).inUse = s.inUse ∧ (s.modThmDie d f).hostPath = s.hostPath ∧
    (s.modThmDie d f).svcPath = s.svcPath ∧ (s.modThmDie d f).opHold = s.opHold ∧ (s.modThmDie d f).wtb = s.wtb ∧
    (s.modThmDie d f).links = s.links ∧ (s.modThmDie d f).cues = s.cues ∧ (s.modThmDie d f).frm = s.frm ∧ (s.modThmDie d f).flt = s.flt ∧
    (s.modThmDie d f).evr = s.evr ∧ (s.modThmDie d f).hif = s.hif ∧ (s.modThmDie d f).lpes = s.lpes ∧ (s.modThmDie d f).hvcs = s.hvcs ∧
    (s.modThmDie d f).stations = s.stations ∧ (s.modThmDie d f).fsr = s.fsr ∧ (s.modThmDie d f).chans = s.chans ∧
    (s.modThmDie d f).buses = s.buses ∧ (s.modThmDie d f).mems = s.mems ∧ (s.modThmDie d f).xfrs = s.xfrs ∧
    (s.modThmDie d f).rins = s.rins ∧ (s.modThmDie d f).rsets = s.rsets ∧ (s.modThmDie d f).mirrors = s.mirrors ∧
    (s.modThmDie d f).scns = s.scns ∧ (s.modThmDie d f).ckss = s.ckss ∧ (s.modThmDie d f).sweeps = s.sweeps ∧
    (s.modThmDie d f).lsrs = s.lsrs ∧ (s.modThmDie d f).rgc = s.rgc ∧ (s.modThmDie d f).prof = s.prof ∧ (s.modThmDie d f).axes = s.axes ∧
    (s.modThmDie d f).thm = s.thm ∧ (s.modThmDie d f).plk = s.plk ∧ (s.modThmDie d f).ports = s.ports ∧ (s.modThmDie d f).svc = s.svc ∧
    (s.modThmDie d f).boot = s.boot ∧ (s.modThmDie d f).lov = s.lov ∧ (s.modThmDie d f).bay = s.bay := by
  and_intros <;> rfl

@[simp] theorem State.modThm_thm (s : State) (f : Thm → Thm) : (s.modThm f).thm = f s.thm := rfl
@[simp] theorem State.modThm_other (s : State) (f : Thm → Thm) :
    (s.modThm f).nStn = s.nStn ∧ (s.modThm f).now = s.now ∧ (s.modThm f).freeCtr = s.freeCtr ∧ (s.modThm f).pending = s.pending ∧
    (s.modThm f).regs = s.regs ∧ (s.modThm f).staged = s.staged ∧ (s.modThm f).armed = s.armed ∧ (s.modThm f).inUse = s.inUse ∧
    (s.modThm f).hostPath = s.hostPath ∧ (s.modThm f).svcPath = s.svcPath ∧ (s.modThm f).opHold = s.opHold ∧ (s.modThm f).wtb = s.wtb ∧
    (s.modThm f).links = s.links ∧ (s.modThm f).cues = s.cues ∧ (s.modThm f).frm = s.frm ∧ (s.modThm f).flt = s.flt ∧
    (s.modThm f).evr = s.evr ∧ (s.modThm f).hif = s.hif ∧ (s.modThm f).lpes = s.lpes ∧ (s.modThm f).hvcs = s.hvcs ∧
    (s.modThm f).stations = s.stations ∧ (s.modThm f).fsr = s.fsr ∧ (s.modThm f).chans = s.chans ∧ (s.modThm f).buses = s.buses ∧
    (s.modThm f).mems = s.mems ∧ (s.modThm f).xfrs = s.xfrs ∧ (s.modThm f).rins = s.rins ∧ (s.modThm f).rsets = s.rsets ∧
    (s.modThm f).mirrors = s.mirrors ∧ (s.modThm f).scns = s.scns ∧ (s.modThm f).ckss = s.ckss ∧ (s.modThm f).sweeps = s.sweeps ∧
    (s.modThm f).lsrs = s.lsrs ∧ (s.modThm f).rgc = s.rgc ∧ (s.modThm f).prof = s.prof ∧ (s.modThm f).axes = s.axes ∧
    (s.modThm f).thms = s.thms ∧ (s.modThm f).plk = s.plk ∧ (s.modThm f).ports = s.ports ∧ (s.modThm f).svc = s.svc ∧
    (s.modThm f).boot = s.boot ∧ (s.modThm f).lov = s.lov ∧ (s.modThm f).bay = s.bay := by
  and_intros <;> rfl

@[simp] theorem State.modPlk_plk (s : State) (f : Plk → Plk) : (s.modPlk f).plk = f s.plk := rfl
@[simp] theorem State.modPlk_other (s : State) (f : Plk → Plk) :
    (s.modPlk f).nStn = s.nStn ∧ (s.modPlk f).now = s.now ∧ (s.modPlk f).freeCtr = s.freeCtr ∧ (s.modPlk f).pending = s.pending ∧
    (s.modPlk f).regs = s.regs ∧ (s.modPlk f).staged = s.staged ∧ (s.modPlk f).armed = s.armed ∧ (s.modPlk f).inUse = s.inUse ∧
    (s.modPlk f).hostPath = s.hostPath ∧ (s.modPlk f).svcPath = s.svcPath ∧ (s.modPlk f).opHold = s.opHold ∧ (s.modPlk f).wtb = s.wtb ∧
    (s.modPlk f).links = s.links ∧ (s.modPlk f).cues = s.cues ∧ (s.modPlk f).frm = s.frm ∧ (s.modPlk f).flt = s.flt ∧
    (s.modPlk f).evr = s.evr ∧ (s.modPlk f).hif = s.hif ∧ (s.modPlk f).lpes = s.lpes ∧ (s.modPlk f).hvcs = s.hvcs ∧
    (s.modPlk f).stations = s.stations ∧ (s.modPlk f).fsr = s.fsr ∧ (s.modPlk f).chans = s.chans ∧ (s.modPlk f).buses = s.buses ∧
    (s.modPlk f).mems = s.mems ∧ (s.modPlk f).xfrs = s.xfrs ∧ (s.modPlk f).rins = s.rins ∧ (s.modPlk f).rsets = s.rsets ∧
    (s.modPlk f).mirrors = s.mirrors ∧ (s.modPlk f).scns = s.scns ∧ (s.modPlk f).ckss = s.ckss ∧ (s.modPlk f).sweeps = s.sweeps ∧
    (s.modPlk f).lsrs = s.lsrs ∧ (s.modPlk f).rgc = s.rgc ∧ (s.modPlk f).prof = s.prof ∧ (s.modPlk f).axes = s.axes ∧
    (s.modPlk f).thms = s.thms ∧ (s.modPlk f).thm = s.thm ∧ (s.modPlk f).ports = s.ports ∧ (s.modPlk f).svc = s.svc ∧
    (s.modPlk f).boot = s.boot ∧ (s.modPlk f).lov = s.lov ∧ (s.modPlk f).bay = s.bay := by
  and_intros <;> rfl

@[simp] theorem State.modPorts_ports (s : State) (f : Ports → Ports) : (s.modPorts f).ports = f s.ports := rfl
@[simp] theorem State.modPorts_other (s : State) (f : Ports → Ports) :
    (s.modPorts f).nStn = s.nStn ∧ (s.modPorts f).now = s.now ∧ (s.modPorts f).freeCtr = s.freeCtr ∧ (s.modPorts f).pending = s.pending ∧
    (s.modPorts f).regs = s.regs ∧ (s.modPorts f).staged = s.staged ∧ (s.modPorts f).armed = s.armed ∧ (s.modPorts f).inUse = s.inUse ∧
    (s.modPorts f).hostPath = s.hostPath ∧ (s.modPorts f).svcPath = s.svcPath ∧ (s.modPorts f).opHold = s.opHold ∧
    (s.modPorts f).wtb = s.wtb ∧ (s.modPorts f).links = s.links ∧ (s.modPorts f).cues = s.cues ∧ (s.modPorts f).frm = s.frm ∧
    (s.modPorts f).flt = s.flt ∧ (s.modPorts f).evr = s.evr ∧ (s.modPorts f).hif = s.hif ∧ (s.modPorts f).lpes = s.lpes ∧
    (s.modPorts f).hvcs = s.hvcs ∧ (s.modPorts f).stations = s.stations ∧ (s.modPorts f).fsr = s.fsr ∧ (s.modPorts f).chans = s.chans ∧
    (s.modPorts f).buses = s.buses ∧ (s.modPorts f).mems = s.mems ∧ (s.modPorts f).xfrs = s.xfrs ∧ (s.modPorts f).rins = s.rins ∧
    (s.modPorts f).rsets = s.rsets ∧ (s.modPorts f).mirrors = s.mirrors ∧ (s.modPorts f).scns = s.scns ∧ (s.modPorts f).ckss = s.ckss ∧
    (s.modPorts f).sweeps = s.sweeps ∧ (s.modPorts f).lsrs = s.lsrs ∧ (s.modPorts f).rgc = s.rgc ∧ (s.modPorts f).prof = s.prof ∧
    (s.modPorts f).axes = s.axes ∧ (s.modPorts f).thms = s.thms ∧ (s.modPorts f).thm = s.thm ∧ (s.modPorts f).plk = s.plk ∧
    (s.modPorts f).svc = s.svc ∧ (s.modPorts f).boot = s.boot ∧ (s.modPorts f).lov = s.lov ∧ (s.modPorts f).bay = s.bay := by
  and_intros <;> rfl

@[simp] theorem State.modLov_lov (s : State) (f : Lov → Lov) : (s.modLov f).lov = f s.lov := rfl
@[simp] theorem State.modLov_other (s : State) (f : Lov → Lov) :
    (s.modLov f).nStn = s.nStn ∧ (s.modLov f).now = s.now ∧ (s.modLov f).freeCtr = s.freeCtr ∧ (s.modLov f).pending = s.pending ∧
    (s.modLov f).regs = s.regs ∧ (s.modLov f).staged = s.staged ∧ (s.modLov f).armed = s.armed ∧ (s.modLov f).inUse = s.inUse ∧
    (s.modLov f).hostPath = s.hostPath ∧ (s.modLov f).svcPath = s.svcPath ∧ (s.modLov f).opHold = s.opHold ∧ (s.modLov f).wtb = s.wtb ∧
    (s.modLov f).links = s.links ∧ (s.modLov f).cues = s.cues ∧ (s.modLov f).frm = s.frm ∧ (s.modLov f).flt = s.flt ∧
    (s.modLov f).evr = s.evr ∧ (s.modLov f).hif = s.hif ∧ (s.modLov f).lpes = s.lpes ∧ (s.modLov f).hvcs = s.hvcs ∧
    (s.modLov f).stations = s.stations ∧ (s.modLov f).fsr = s.fsr ∧ (s.modLov f).chans = s.chans ∧ (s.modLov f).buses = s.buses ∧
    (s.modLov f).mems = s.mems ∧ (s.modLov f).xfrs = s.xfrs ∧ (s.modLov f).rins = s.rins ∧ (s.modLov f).rsets = s.rsets ∧
    (s.modLov f).mirrors = s.mirrors ∧ (s.modLov f).scns = s.scns ∧ (s.modLov f).ckss = s.ckss ∧ (s.modLov f).sweeps = s.sweeps ∧
    (s.modLov f).lsrs = s.lsrs ∧ (s.modLov f).rgc = s.rgc ∧ (s.modLov f).prof = s.prof ∧ (s.modLov f).axes = s.axes ∧
    (s.modLov f).thms = s.thms ∧ (s.modLov f).thm = s.thm ∧ (s.modLov f).plk = s.plk ∧ (s.modLov f).ports = s.ports ∧
    (s.modLov f).svc = s.svc ∧ (s.modLov f).boot = s.boot ∧ (s.modLov f).bay = s.bay := by
  and_intros <;> rfl

@[simp] theorem State.modBay_bay (s : State) (f : Bay → Bay) : (s.modBay f).bay = f s.bay := rfl
@[simp] theorem State.modBay_other (s : State) (f : Bay → Bay) :
    (s.modBay f).nStn = s.nStn ∧ (s.modBay f).now = s.now ∧ (s.modBay f).freeCtr = s.freeCtr ∧ (s.modBay f).pending = s.pending ∧
    (s.modBay f).regs = s.regs ∧ (s.modBay f).staged = s.staged ∧ (s.modBay f).armed = s.armed ∧ (s.modBay f).inUse = s.inUse ∧
    (s.modBay f).hostPath = s.hostPath ∧ (s.modBay f).svcPath = s.svcPath ∧ (s.modBay f).opHold = s.opHold ∧ (s.modBay f).wtb = s.wtb ∧
    (s.modBay f).links = s.links ∧ (s.modBay f).cues = s.cues ∧ (s.modBay f).frm = s.frm ∧ (s.modBay f).flt = s.flt ∧
    (s.modBay f).evr = s.evr ∧ (s.modBay f).hif = s.hif ∧ (s.modBay f).lpes = s.lpes ∧ (s.modBay f).hvcs = s.hvcs ∧
    (s.modBay f).stations = s.stations ∧ (s.modBay f).fsr = s.fsr ∧ (s.modBay f).chans = s.chans ∧ (s.modBay f).buses = s.buses ∧
    (s.modBay f).mems = s.mems ∧ (s.modBay f).xfrs = s.xfrs ∧ (s.modBay f).rins = s.rins ∧ (s.modBay f).rsets = s.rsets ∧
    (s.modBay f).mirrors = s.mirrors ∧ (s.modBay f).scns = s.scns ∧ (s.modBay f).ckss = s.ckss ∧ (s.modBay f).sweeps = s.sweeps ∧
    (s.modBay f).lsrs = s.lsrs ∧ (s.modBay f).rgc = s.rgc ∧ (s.modBay f).prof = s.prof ∧ (s.modBay f).axes = s.axes ∧
    (s.modBay f).thms = s.thms ∧ (s.modBay f).thm = s.thm ∧ (s.modBay f).plk = s.plk ∧ (s.modBay f).ports = s.ports ∧
    (s.modBay f).svc = s.svc ∧ (s.modBay f).boot = s.boot ∧ (s.modBay f).lov = s.lov := by
  and_intros <;> rfl

@[simp] theorem State.modSvc_svc (s : State) (f : Svc → Svc) : (s.modSvc f).svc = f s.svc := rfl
@[simp] theorem State.modSvc_other (s : State) (f : Svc → Svc) :
    (s.modSvc f).nStn = s.nStn ∧ (s.modSvc f).now = s.now ∧ (s.modSvc f).freeCtr = s.freeCtr ∧ (s.modSvc f).pending = s.pending ∧
    (s.modSvc f).regs = s.regs ∧ (s.modSvc f).staged = s.staged ∧ (s.modSvc f).armed = s.armed ∧ (s.modSvc f).inUse = s.inUse ∧
    (s.modSvc f).hostPath = s.hostPath ∧ (s.modSvc f).svcPath = s.svcPath ∧ (s.modSvc f).opHold = s.opHold ∧ (s.modSvc f).wtb = s.wtb ∧
    (s.modSvc f).links = s.links ∧ (s.modSvc f).cues = s.cues ∧ (s.modSvc f).frm = s.frm ∧ (s.modSvc f).flt = s.flt ∧
    (s.modSvc f).evr = s.evr ∧ (s.modSvc f).hif = s.hif ∧ (s.modSvc f).lpes = s.lpes ∧ (s.modSvc f).hvcs = s.hvcs ∧
    (s.modSvc f).stations = s.stations ∧ (s.modSvc f).fsr = s.fsr ∧ (s.modSvc f).chans = s.chans ∧ (s.modSvc f).buses = s.buses ∧
    (s.modSvc f).mems = s.mems ∧ (s.modSvc f).xfrs = s.xfrs ∧ (s.modSvc f).rins = s.rins ∧ (s.modSvc f).rsets = s.rsets ∧
    (s.modSvc f).mirrors = s.mirrors ∧ (s.modSvc f).scns = s.scns ∧ (s.modSvc f).ckss = s.ckss ∧ (s.modSvc f).sweeps = s.sweeps ∧
    (s.modSvc f).lsrs = s.lsrs ∧ (s.modSvc f).rgc = s.rgc ∧ (s.modSvc f).prof = s.prof ∧ (s.modSvc f).axes = s.axes ∧
    (s.modSvc f).thms = s.thms ∧ (s.modSvc f).thm = s.thm ∧ (s.modSvc f).plk = s.plk ∧ (s.modSvc f).ports = s.ports ∧
    (s.modSvc f).boot = s.boot ∧ (s.modSvc f).lov = s.lov ∧ (s.modSvc f).bay = s.bay := by
  and_intros <;> rfl

@[simp] theorem State.modHif_hif (s : State) (f : Hif → Hif) : (s.modHif f).hif = f s.hif := rfl
@[simp] theorem State.modHif_other (s : State) (f : Hif → Hif) :
    (s.modHif f).nStn = s.nStn ∧ (s.modHif f).now = s.now ∧ (s.modHif f).freeCtr = s.freeCtr ∧ (s.modHif f).pending = s.pending ∧
    (s.modHif f).regs = s.regs ∧ (s.modHif f).staged = s.staged ∧ (s.modHif f).armed = s.armed ∧ (s.modHif f).inUse = s.inUse ∧
    (s.modHif f).hostPath = s.hostPath ∧ (s.modHif f).svcPath = s.svcPath ∧ (s.modHif f).opHold = s.opHold ∧ (s.modHif f).wtb = s.wtb ∧
    (s.modHif f).links = s.links ∧ (s.modHif f).cues = s.cues ∧ (s.modHif f).frm = s.frm ∧ (s.modHif f).flt = s.flt ∧
    (s.modHif f).evr = s.evr ∧ (s.modHif f).lpes = s.lpes ∧ (s.modHif f).hvcs = s.hvcs ∧ (s.modHif f).stations = s.stations ∧
    (s.modHif f).fsr = s.fsr ∧ (s.modHif f).chans = s.chans ∧ (s.modHif f).buses = s.buses ∧ (s.modHif f).mems = s.mems ∧
    (s.modHif f).xfrs = s.xfrs ∧ (s.modHif f).rins = s.rins ∧ (s.modHif f).rsets = s.rsets ∧ (s.modHif f).mirrors = s.mirrors ∧
    (s.modHif f).scns = s.scns ∧ (s.modHif f).ckss = s.ckss ∧ (s.modHif f).sweeps = s.sweeps ∧ (s.modHif f).lsrs = s.lsrs ∧
    (s.modHif f).rgc = s.rgc ∧ (s.modHif f).prof = s.prof ∧ (s.modHif f).axes = s.axes ∧ (s.modHif f).thms = s.thms ∧
    (s.modHif f).thm = s.thm ∧ (s.modHif f).plk = s.plk ∧ (s.modHif f).ports = s.ports ∧ (s.modHif f).svc = s.svc ∧
    (s.modHif f).boot = s.boot ∧ (s.modHif f).lov = s.lov ∧ (s.modHif f).bay = s.bay := by
  and_intros <;> rfl

@[simp] theorem State.modBoot_boot (s : State) (f : Boot → Boot) : (s.modBoot f).boot = f s.boot := rfl
@[simp] theorem State.modBoot_other (s : State) (f : Boot → Boot) :
    (s.modBoot f).nStn = s.nStn ∧ (s.modBoot f).now = s.now ∧ (s.modBoot f).freeCtr = s.freeCtr ∧ (s.modBoot f).pending = s.pending ∧
    (s.modBoot f).regs = s.regs ∧ (s.modBoot f).staged = s.staged ∧ (s.modBoot f).armed = s.armed ∧ (s.modBoot f).inUse = s.inUse ∧
    (s.modBoot f).hostPath = s.hostPath ∧ (s.modBoot f).svcPath = s.svcPath ∧ (s.modBoot f).opHold = s.opHold ∧
    (s.modBoot f).wtb = s.wtb ∧ (s.modBoot f).links = s.links ∧ (s.modBoot f).cues = s.cues ∧ (s.modBoot f).frm = s.frm ∧
    (s.modBoot f).flt = s.flt ∧ (s.modBoot f).evr = s.evr ∧ (s.modBoot f).hif = s.hif ∧ (s.modBoot f).lpes = s.lpes ∧
    (s.modBoot f).hvcs = s.hvcs ∧ (s.modBoot f).stations = s.stations ∧ (s.modBoot f).fsr = s.fsr ∧ (s.modBoot f).chans = s.chans ∧
    (s.modBoot f).buses = s.buses ∧ (s.modBoot f).mems = s.mems ∧ (s.modBoot f).xfrs = s.xfrs ∧ (s.modBoot f).rins = s.rins ∧
    (s.modBoot f).rsets = s.rsets ∧ (s.modBoot f).mirrors = s.mirrors ∧ (s.modBoot f).scns = s.scns ∧ (s.modBoot f).ckss = s.ckss ∧
    (s.modBoot f).sweeps = s.sweeps ∧ (s.modBoot f).lsrs = s.lsrs ∧ (s.modBoot f).rgc = s.rgc ∧ (s.modBoot f).prof = s.prof ∧
    (s.modBoot f).axes = s.axes ∧ (s.modBoot f).thms = s.thms ∧ (s.modBoot f).thm = s.thm ∧ (s.modBoot f).plk = s.plk ∧
    (s.modBoot f).ports = s.ports ∧ (s.modBoot f).svc = s.svc ∧ (s.modBoot f).lov = s.lov ∧ (s.modBoot f).bay = s.bay := by
  and_intros <;> rfl

@[simp] theorem State.modRsets_rsets (s : State) (f : Rsets → Rsets) : (s.modRsets f).rsets = f s.rsets := rfl
@[simp] theorem State.modRsets_other (s : State) (f : Rsets → Rsets) :
    (s.modRsets f).nStn = s.nStn ∧ (s.modRsets f).now = s.now ∧ (s.modRsets f).freeCtr = s.freeCtr ∧ (s.modRsets f).pending = s.pending ∧
    (s.modRsets f).regs = s.regs ∧ (s.modRsets f).staged = s.staged ∧ (s.modRsets f).armed = s.armed ∧ (s.modRsets f).inUse = s.inUse ∧
    (s.modRsets f).hostPath = s.hostPath ∧ (s.modRsets f).svcPath = s.svcPath ∧ (s.modRsets f).opHold = s.opHold ∧
    (s.modRsets f).wtb = s.wtb ∧ (s.modRsets f).links = s.links ∧ (s.modRsets f).cues = s.cues ∧ (s.modRsets f).frm = s.frm ∧
    (s.modRsets f).flt = s.flt ∧ (s.modRsets f).evr = s.evr ∧ (s.modRsets f).hif = s.hif ∧ (s.modRsets f).lpes = s.lpes ∧
    (s.modRsets f).hvcs = s.hvcs ∧ (s.modRsets f).stations = s.stations ∧ (s.modRsets f).fsr = s.fsr ∧ (s.modRsets f).chans = s.chans ∧
    (s.modRsets f).buses = s.buses ∧ (s.modRsets f).mems = s.mems ∧ (s.modRsets f).xfrs = s.xfrs ∧ (s.modRsets f).rins = s.rins ∧
    (s.modRsets f).mirrors = s.mirrors ∧ (s.modRsets f).scns = s.scns ∧ (s.modRsets f).ckss = s.ckss ∧ (s.modRsets f).sweeps = s.sweeps ∧
    (s.modRsets f).lsrs = s.lsrs ∧ (s.modRsets f).rgc = s.rgc ∧ (s.modRsets f).prof = s.prof ∧ (s.modRsets f).axes = s.axes ∧
    (s.modRsets f).thms = s.thms ∧ (s.modRsets f).thm = s.thm ∧ (s.modRsets f).plk = s.plk ∧ (s.modRsets f).ports = s.ports ∧
    (s.modRsets f).svc = s.svc ∧ (s.modRsets f).boot = s.boot ∧ (s.modRsets f).lov = s.lov ∧ (s.modRsets f).bay = s.bay := by
  and_intros <;> rfl

@[simp] theorem State.modXfr_xfrs (s : State) (d : Nat) (f : Xfr → Xfr) : (s.modXfr d f).xfrs = s.xfrs.modify d f := rfl
@[simp] theorem State.modXfr_other (s : State) (d : Nat) (f : Xfr → Xfr) :
    (s.modXfr d f).nStn = s.nStn ∧ (s.modXfr d f).now = s.now ∧ (s.modXfr d f).freeCtr = s.freeCtr ∧ (s.modXfr d f).pending = s.pending ∧
    (s.modXfr d f).regs = s.regs ∧ (s.modXfr d f).staged = s.staged ∧ (s.modXfr d f).armed = s.armed ∧ (s.modXfr d f).inUse = s.inUse ∧
    (s.modXfr d f).hostPath = s.hostPath ∧ (s.modXfr d f).svcPath = s.svcPath ∧ (s.modXfr d f).opHold = s.opHold ∧
    (s.modXfr d f).wtb = s.wtb ∧ (s.modXfr d f).links = s.links ∧ (s.modXfr d f).cues = s.cues ∧ (s.modXfr d f).frm = s.frm ∧
    (s.modXfr d f).flt = s.flt ∧ (s.modXfr d f).evr = s.evr ∧ (s.modXfr d f).hif = s.hif ∧ (s.modXfr d f).lpes = s.lpes ∧
    (s.modXfr d f).hvcs = s.hvcs ∧ (s.modXfr d f).stations = s.stations ∧ (s.modXfr d f).fsr = s.fsr ∧ (s.modXfr d f).chans = s.chans ∧
    (s.modXfr d f).buses = s.buses ∧ (s.modXfr d f).mems = s.mems ∧ (s.modXfr d f).rins = s.rins ∧ (s.modXfr d f).rsets = s.rsets ∧
    (s.modXfr d f).mirrors = s.mirrors ∧ (s.modXfr d f).scns = s.scns ∧ (s.modXfr d f).ckss = s.ckss ∧ (s.modXfr d f).sweeps = s.sweeps ∧
    (s.modXfr d f).lsrs = s.lsrs ∧ (s.modXfr d f).rgc = s.rgc ∧ (s.modXfr d f).prof = s.prof ∧ (s.modXfr d f).axes = s.axes ∧
    (s.modXfr d f).thms = s.thms ∧ (s.modXfr d f).thm = s.thm ∧ (s.modXfr d f).plk = s.plk ∧ (s.modXfr d f).ports = s.ports ∧
    (s.modXfr d f).svc = s.svc ∧ (s.modXfr d f).boot = s.boot ∧ (s.modXfr d f).lov = s.lov ∧ (s.modXfr d f).bay = s.bay := by
  and_intros <;> rfl

@[simp] theorem State.modOpHold_opHold (s : State) (f : List (Option Nat) → List (Option Nat)) : (s.modOpHold f).opHold = f s.opHold := rfl
@[simp] theorem State.modOpHold_other (s : State) (f : List (Option Nat) → List (Option Nat)) :
    (s.modOpHold f).nStn = s.nStn ∧ (s.modOpHold f).now = s.now ∧ (s.modOpHold f).freeCtr = s.freeCtr ∧
    (s.modOpHold f).pending = s.pending ∧ (s.modOpHold f).regs = s.regs ∧ (s.modOpHold f).staged = s.staged ∧
    (s.modOpHold f).armed = s.armed ∧ (s.modOpHold f).inUse = s.inUse ∧ (s.modOpHold f).hostPath = s.hostPath ∧
    (s.modOpHold f).svcPath = s.svcPath ∧ (s.modOpHold f).wtb = s.wtb ∧ (s.modOpHold f).links = s.links ∧ (s.modOpHold f).cues = s.cues ∧
    (s.modOpHold f).frm = s.frm ∧ (s.modOpHold f).flt = s.flt ∧ (s.modOpHold f).evr = s.evr ∧ (s.modOpHold f).hif = s.hif ∧
    (s.modOpHold f).lpes = s.lpes ∧ (s.modOpHold f).hvcs = s.hvcs ∧ (s.modOpHold f).stations = s.stations ∧ (s.modOpHold f).fsr = s.fsr ∧
    (s.modOpHold f).chans = s.chans ∧ (s.modOpHold f).buses = s.buses ∧ (s.modOpHold f).mems = s.mems ∧ (s.modOpHold f).xfrs = s.xfrs ∧
    (s.modOpHold f).rins = s.rins ∧ (s.modOpHold f).rsets = s.rsets ∧ (s.modOpHold f).mirrors = s.mirrors ∧
    (s.modOpHold f).scns = s.scns ∧ (s.modOpHold f).ckss = s.ckss ∧ (s.modOpHold f).sweeps = s.sweeps ∧ (s.modOpHold f).lsrs = s.lsrs ∧
    (s.modOpHold f).rgc = s.rgc ∧ (s.modOpHold f).prof = s.prof ∧ (s.modOpHold f).axes = s.axes ∧ (s.modOpHold f).thms = s.thms ∧
    (s.modOpHold f).thm = s.thm ∧ (s.modOpHold f).plk = s.plk ∧ (s.modOpHold f).ports = s.ports ∧ (s.modOpHold f).svc = s.svc ∧
    (s.modOpHold f).boot = s.boot ∧ (s.modOpHold f).lov = s.lov ∧ (s.modOpHold f).bay = s.bay := by
  and_intros <;> rfl

@[simp] theorem State.modArmed_armed (s : State) (f : Store → Store) : (s.modArmed f).armed = f s.armed := rfl
@[simp] theorem State.modArmed_other (s : State) (f : Store → Store) :
    (s.modArmed f).nStn = s.nStn ∧ (s.modArmed f).now = s.now ∧ (s.modArmed f).freeCtr = s.freeCtr ∧ (s.modArmed f).pending = s.pending ∧
    (s.modArmed f).regs = s.regs ∧ (s.modArmed f).staged = s.staged ∧ (s.modArmed f).inUse = s.inUse ∧
    (s.modArmed f).hostPath = s.hostPath ∧ (s.modArmed f).svcPath = s.svcPath ∧ (s.modArmed f).opHold = s.opHold ∧
    (s.modArmed f).wtb = s.wtb ∧ (s.modArmed f).links = s.links ∧ (s.modArmed f).cues = s.cues ∧ (s.modArmed f).frm = s.frm ∧
    (s.modArmed f).flt = s.flt ∧ (s.modArmed f).evr = s.evr ∧ (s.modArmed f).hif = s.hif ∧ (s.modArmed f).lpes = s.lpes ∧
    (s.modArmed f).hvcs = s.hvcs ∧ (s.modArmed f).stations = s.stations ∧ (s.modArmed f).fsr = s.fsr ∧ (s.modArmed f).chans = s.chans ∧
    (s.modArmed f).buses = s.buses ∧ (s.modArmed f).mems = s.mems ∧ (s.modArmed f).xfrs = s.xfrs ∧ (s.modArmed f).rins = s.rins ∧
    (s.modArmed f).rsets = s.rsets ∧ (s.modArmed f).mirrors = s.mirrors ∧ (s.modArmed f).scns = s.scns ∧ (s.modArmed f).ckss = s.ckss ∧
    (s.modArmed f).sweeps = s.sweeps ∧ (s.modArmed f).lsrs = s.lsrs ∧ (s.modArmed f).rgc = s.rgc ∧ (s.modArmed f).prof = s.prof ∧
    (s.modArmed f).axes = s.axes ∧ (s.modArmed f).thms = s.thms ∧ (s.modArmed f).thm = s.thm ∧ (s.modArmed f).plk = s.plk ∧
    (s.modArmed f).ports = s.ports ∧ (s.modArmed f).svc = s.svc ∧ (s.modArmed f).boot = s.boot ∧ (s.modArmed f).lov = s.lov ∧
    (s.modArmed f).bay = s.bay := by
  and_intros <;> rfl

@[simp] theorem State.modInUse_inUse (s : State) (f : Store → Store) : (s.modInUse f).inUse = f s.inUse := rfl
@[simp] theorem State.modInUse_other (s : State) (f : Store → Store) :
    (s.modInUse f).nStn = s.nStn ∧ (s.modInUse f).now = s.now ∧ (s.modInUse f).freeCtr = s.freeCtr ∧ (s.modInUse f).pending = s.pending ∧
    (s.modInUse f).regs = s.regs ∧ (s.modInUse f).staged = s.staged ∧ (s.modInUse f).armed = s.armed ∧
    (s.modInUse f).hostPath = s.hostPath ∧ (s.modInUse f).svcPath = s.svcPath ∧ (s.modInUse f).opHold = s.opHold ∧
    (s.modInUse f).wtb = s.wtb ∧ (s.modInUse f).links = s.links ∧ (s.modInUse f).cues = s.cues ∧ (s.modInUse f).frm = s.frm ∧
    (s.modInUse f).flt = s.flt ∧ (s.modInUse f).evr = s.evr ∧ (s.modInUse f).hif = s.hif ∧ (s.modInUse f).lpes = s.lpes ∧
    (s.modInUse f).hvcs = s.hvcs ∧ (s.modInUse f).stations = s.stations ∧ (s.modInUse f).fsr = s.fsr ∧ (s.modInUse f).chans = s.chans ∧
    (s.modInUse f).buses = s.buses ∧ (s.modInUse f).mems = s.mems ∧ (s.modInUse f).xfrs = s.xfrs ∧ (s.modInUse f).rins = s.rins ∧
    (s.modInUse f).rsets = s.rsets ∧ (s.modInUse f).mirrors = s.mirrors ∧ (s.modInUse f).scns = s.scns ∧ (s.modInUse f).ckss = s.ckss ∧
    (s.modInUse f).sweeps = s.sweeps ∧ (s.modInUse f).lsrs = s.lsrs ∧ (s.modInUse f).rgc = s.rgc ∧ (s.modInUse f).prof = s.prof ∧
    (s.modInUse f).axes = s.axes ∧ (s.modInUse f).thms = s.thms ∧ (s.modInUse f).thm = s.thm ∧ (s.modInUse f).plk = s.plk ∧
    (s.modInUse f).ports = s.ports ∧ (s.modInUse f).svc = s.svc ∧ (s.modInUse f).boot = s.boot ∧ (s.modInUse f).lov = s.lov ∧
    (s.modInUse f).bay = s.bay := by
  and_intros <;> rfl

@[simp] theorem State.modNow_now (s : State) (f : Nat → Nat) : (s.modNow f).now = f s.now := rfl
@[simp] theorem State.modNow_other (s : State) (f : Nat → Nat) :
    (s.modNow f).nStn = s.nStn ∧ (s.modNow f).freeCtr = s.freeCtr ∧ (s.modNow f).pending = s.pending ∧ (s.modNow f).regs = s.regs ∧
    (s.modNow f).staged = s.staged ∧ (s.modNow f).armed = s.armed ∧ (s.modNow f).inUse = s.inUse ∧ (s.modNow f).hostPath = s.hostPath ∧
    (s.modNow f).svcPath = s.svcPath ∧ (s.modNow f).opHold = s.opHold ∧ (s.modNow f).wtb = s.wtb ∧ (s.modNow f).links = s.links ∧
    (s.modNow f).cues = s.cues ∧ (s.modNow f).frm = s.frm ∧ (s.modNow f).flt = s.flt ∧ (s.modNow f).evr = s.evr ∧
    (s.modNow f).hif = s.hif ∧ (s.modNow f).lpes = s.lpes ∧ (s.modNow f).hvcs = s.hvcs ∧ (s.modNow f).stations = s.stations ∧
    (s.modNow f).fsr = s.fsr ∧ (s.modNow f).chans = s.chans ∧ (s.modNow f).buses = s.buses ∧ (s.modNow f).mems = s.mems ∧
    (s.modNow f).xfrs = s.xfrs ∧ (s.modNow f).rins = s.rins ∧ (s.modNow f).rsets = s.rsets ∧ (s.modNow f).mirrors = s.mirrors ∧
    (s.modNow f).scns = s.scns ∧ (s.modNow f).ckss = s.ckss ∧ (s.modNow f).sweeps = s.sweeps ∧ (s.modNow f).lsrs = s.lsrs ∧
    (s.modNow f).rgc = s.rgc ∧ (s.modNow f).prof = s.prof ∧ (s.modNow f).axes = s.axes ∧ (s.modNow f).thms = s.thms ∧
    (s.modNow f).thm = s.thm ∧ (s.modNow f).plk = s.plk ∧ (s.modNow f).ports = s.ports ∧ (s.modNow f).svc = s.svc ∧
    (s.modNow f).boot = s.boot ∧ (s.modNow f).lov = s.lov ∧ (s.modNow f).bay = s.bay := by
  and_intros <;> rfl

@[simp] theorem State.modFree_freeCtr (s : State) (f : Nat → Nat) : (s.modFree f).freeCtr = f s.freeCtr := rfl
@[simp] theorem State.modFree_other (s : State) (f : Nat → Nat) :
    (s.modFree f).nStn = s.nStn ∧ (s.modFree f).now = s.now ∧ (s.modFree f).pending = s.pending ∧ (s.modFree f).regs = s.regs ∧
    (s.modFree f).staged = s.staged ∧ (s.modFree f).armed = s.armed ∧ (s.modFree f).inUse = s.inUse ∧
    (s.modFree f).hostPath = s.hostPath ∧ (s.modFree f).svcPath = s.svcPath ∧ (s.modFree f).opHold = s.opHold ∧
    (s.modFree f).wtb = s.wtb ∧ (s.modFree f).links = s.links ∧ (s.modFree f).cues = s.cues ∧ (s.modFree f).frm = s.frm ∧
    (s.modFree f).flt = s.flt ∧ (s.modFree f).evr = s.evr ∧ (s.modFree f).hif = s.hif ∧ (s.modFree f).lpes = s.lpes ∧
    (s.modFree f).hvcs = s.hvcs ∧ (s.modFree f).stations = s.stations ∧ (s.modFree f).fsr = s.fsr ∧ (s.modFree f).chans = s.chans ∧
    (s.modFree f).buses = s.buses ∧ (s.modFree f).mems = s.mems ∧ (s.modFree f).xfrs = s.xfrs ∧ (s.modFree f).rins = s.rins ∧
    (s.modFree f).rsets = s.rsets ∧ (s.modFree f).mirrors = s.mirrors ∧ (s.modFree f).scns = s.scns ∧ (s.modFree f).ckss = s.ckss ∧
    (s.modFree f).sweeps = s.sweeps ∧ (s.modFree f).lsrs = s.lsrs ∧ (s.modFree f).rgc = s.rgc ∧ (s.modFree f).prof = s.prof ∧
    (s.modFree f).axes = s.axes ∧ (s.modFree f).thms = s.thms ∧ (s.modFree f).thm = s.thm ∧ (s.modFree f).plk = s.plk ∧
    (s.modFree f).ports = s.ports ∧ (s.modFree f).svc = s.svc ∧ (s.modFree f).boot = s.boot ∧ (s.modFree f).lov = s.lov ∧
    (s.modFree f).bay = s.bay := by
  and_intros <;> rfl

@[simp] theorem State.modRgcStn_rgc (s : State) (n : Nat) (f : RgcStn → RgcStn) : (s.modRgcStn n f).rgc = { s.rgc with stns := s.rgc.stns.modify n f } := rfl
@[simp] theorem State.modRgcStn_other (s : State) (n : Nat) (f : RgcStn → RgcStn) :
    (s.modRgcStn n f).nStn = s.nStn ∧ (s.modRgcStn n f).now = s.now ∧ (s.modRgcStn n f).freeCtr = s.freeCtr ∧
    (s.modRgcStn n f).pending = s.pending ∧ (s.modRgcStn n f).regs = s.regs ∧ (s.modRgcStn n f).staged = s.staged ∧
    (s.modRgcStn n f).armed = s.armed ∧ (s.modRgcStn n f).inUse = s.inUse ∧ (s.modRgcStn n f).hostPath = s.hostPath ∧
    (s.modRgcStn n f).svcPath = s.svcPath ∧ (s.modRgcStn n f).opHold = s.opHold ∧ (s.modRgcStn n f).wtb = s.wtb ∧
    (s.modRgcStn n f).links = s.links ∧ (s.modRgcStn n f).cues = s.cues ∧ (s.modRgcStn n f).frm = s.frm ∧ (s.modRgcStn n f).flt = s.flt ∧
    (s.modRgcStn n f).evr = s.evr ∧ (s.modRgcStn n f).hif = s.hif ∧ (s.modRgcStn n f).lpes = s.lpes ∧ (s.modRgcStn n f).hvcs = s.hvcs ∧
    (s.modRgcStn n f).stations = s.stations ∧ (s.modRgcStn n f).fsr = s.fsr ∧ (s.modRgcStn n f).chans = s.chans ∧
    (s.modRgcStn n f).buses = s.buses ∧ (s.modRgcStn n f).mems = s.mems ∧ (s.modRgcStn n f).xfrs = s.xfrs ∧
    (s.modRgcStn n f).rins = s.rins ∧ (s.modRgcStn n f).rsets = s.rsets ∧ (s.modRgcStn n f).mirrors = s.mirrors ∧
    (s.modRgcStn n f).scns = s.scns ∧ (s.modRgcStn n f).ckss = s.ckss ∧ (s.modRgcStn n f).sweeps = s.sweeps ∧
    (s.modRgcStn n f).lsrs = s.lsrs ∧ (s.modRgcStn n f).prof = s.prof ∧ (s.modRgcStn n f).axes = s.axes ∧
    (s.modRgcStn n f).thms = s.thms ∧ (s.modRgcStn n f).thm = s.thm ∧ (s.modRgcStn n f).plk = s.plk ∧ (s.modRgcStn n f).ports = s.ports ∧
    (s.modRgcStn n f).svc = s.svc ∧ (s.modRgcStn n f).boot = s.boot ∧ (s.modRgcStn n f).lov = s.lov ∧ (s.modRgcStn n f).bay = s.bay := by
  and_intros <;> rfl

@[simp] theorem State.wrWord_regs (s : State) (die off : Nat) (w : Word) : (s.wrWord die off w).regs = storeSet s.regs (regKey die off) w (keyReset (regKey die off)) := rfl
@[simp] theorem State.wrWord_other (s : State) (die off : Nat) (w : Word) :
    (s.wrWord die off w).nStn = s.nStn ∧ (s.wrWord die off w).now = s.now ∧ (s.wrWord die off w).freeCtr = s.freeCtr ∧
    (s.wrWord die off w).pending = s.pending ∧ (s.wrWord die off w).staged = s.staged ∧ (s.wrWord die off w).armed = s.armed ∧
    (s.wrWord die off w).inUse = s.inUse ∧ (s.wrWord die off w).hostPath = s.hostPath ∧ (s.wrWord die off w).svcPath = s.svcPath ∧
    (s.wrWord die off w).opHold = s.opHold ∧ (s.wrWord die off w).wtb = s.wtb ∧ (s.wrWord die off w).links = s.links ∧
    (s.wrWord die off w).cues = s.cues ∧ (s.wrWord die off w).frm = s.frm ∧ (s.wrWord die off w).flt = s.flt ∧
    (s.wrWord die off w).evr = s.evr ∧ (s.wrWord die off w).hif = s.hif ∧ (s.wrWord die off w).lpes = s.lpes ∧
    (s.wrWord die off w).hvcs = s.hvcs ∧ (s.wrWord die off w).stations = s.stations ∧ (s.wrWord die off w).fsr = s.fsr ∧
    (s.wrWord die off w).chans = s.chans ∧ (s.wrWord die off w).buses = s.buses ∧ (s.wrWord die off w).mems = s.mems ∧
    (s.wrWord die off w).xfrs = s.xfrs ∧ (s.wrWord die off w).rins = s.rins ∧ (s.wrWord die off w).rsets = s.rsets ∧
    (s.wrWord die off w).mirrors = s.mirrors ∧ (s.wrWord die off w).scns = s.scns ∧ (s.wrWord die off w).ckss = s.ckss ∧
    (s.wrWord die off w).sweeps = s.sweeps ∧ (s.wrWord die off w).lsrs = s.lsrs ∧ (s.wrWord die off w).rgc = s.rgc ∧
    (s.wrWord die off w).prof = s.prof ∧ (s.wrWord die off w).axes = s.axes ∧ (s.wrWord die off w).thms = s.thms ∧
    (s.wrWord die off w).thm = s.thm ∧ (s.wrWord die off w).plk = s.plk ∧ (s.wrWord die off w).ports = s.ports ∧
    (s.wrWord die off w).svc = s.svc ∧ (s.wrWord die off w).boot = s.boot ∧ (s.wrWord die off w).lov = s.lov ∧
    (s.wrWord die off w).bay = s.bay := by
  and_intros <;> rfl

@[simp] theorem State.wrStaged_staged (s : State) (die : Nat) (f : Fld) (v : Nat) : (s.wrStaged die f v).staged = storeSet s.staged (regKey die f.off) (setBits (storeGet s.staged (regKey die f.off) (keyReset (regKey die f.off))) f.hi f.lo v) (keyReset (regKey die f.off)) := rfl
@[simp] theorem State.wrStaged_other (s : State) (die : Nat) (f : Fld) (v : Nat) :
    (s.wrStaged die f v).nStn = s.nStn ∧ (s.wrStaged die f v).now = s.now ∧ (s.wrStaged die f v).freeCtr = s.freeCtr ∧
    (s.wrStaged die f v).pending = s.pending ∧ (s.wrStaged die f v).regs = s.regs ∧ (s.wrStaged die f v).armed = s.armed ∧
    (s.wrStaged die f v).inUse = s.inUse ∧ (s.wrStaged die f v).hostPath = s.hostPath ∧ (s.wrStaged die f v).svcPath = s.svcPath ∧
    (s.wrStaged die f v).opHold = s.opHold ∧ (s.wrStaged die f v).wtb = s.wtb ∧ (s.wrStaged die f v).links = s.links ∧
    (s.wrStaged die f v).cues = s.cues ∧ (s.wrStaged die f v).frm = s.frm ∧ (s.wrStaged die f v).flt = s.flt ∧
    (s.wrStaged die f v).evr = s.evr ∧ (s.wrStaged die f v).hif = s.hif ∧ (s.wrStaged die f v).lpes = s.lpes ∧
    (s.wrStaged die f v).hvcs = s.hvcs ∧ (s.wrStaged die f v).stations = s.stations ∧ (s.wrStaged die f v).fsr = s.fsr ∧
    (s.wrStaged die f v).chans = s.chans ∧ (s.wrStaged die f v).buses = s.buses ∧ (s.wrStaged die f v).mems = s.mems ∧
    (s.wrStaged die f v).xfrs = s.xfrs ∧ (s.wrStaged die f v).rins = s.rins ∧ (s.wrStaged die f v).rsets = s.rsets ∧
    (s.wrStaged die f v).mirrors = s.mirrors ∧ (s.wrStaged die f v).scns = s.scns ∧ (s.wrStaged die f v).ckss = s.ckss ∧
    (s.wrStaged die f v).sweeps = s.sweeps ∧ (s.wrStaged die f v).lsrs = s.lsrs ∧ (s.wrStaged die f v).rgc = s.rgc ∧
    (s.wrStaged die f v).prof = s.prof ∧ (s.wrStaged die f v).axes = s.axes ∧ (s.wrStaged die f v).thms = s.thms ∧
    (s.wrStaged die f v).thm = s.thm ∧ (s.wrStaged die f v).plk = s.plk ∧ (s.wrStaged die f v).ports = s.ports ∧
    (s.wrStaged die f v).svc = s.svc ∧ (s.wrStaged die f v).boot = s.boot ∧ (s.wrStaged die f v).lov = s.lov ∧
    (s.wrStaged die f v).bay = s.bay := by
  and_intros <;> rfl

@[simp] theorem State.modPath_host (s : State) (f : PathRegs → PathRegs) : (s.modPath .host f).hostPath = f s.hostPath ∧ (s.modPath .host f).svcPath = s.svcPath :=
  ⟨rfl, rfl⟩
@[simp] theorem State.modPath_service (s : State) (f : PathRegs → PathRegs) :
    (s.modPath .service f).svcPath = f s.svcPath ∧ (s.modPath .service f).hostPath = s.hostPath := ⟨rfl, rfl⟩
@[simp] theorem State.modPath_other (s : State) (p : Path) (f : PathRegs → PathRegs) :
    (s.modPath p f).nStn = s.nStn ∧ (s.modPath p f).now = s.now ∧ (s.modPath p f).freeCtr = s.freeCtr ∧
    (s.modPath p f).pending = s.pending ∧ (s.modPath p f).regs = s.regs ∧ (s.modPath p f).staged = s.staged ∧
    (s.modPath p f).armed = s.armed ∧ (s.modPath p f).inUse = s.inUse ∧ (s.modPath p f).opHold = s.opHold ∧ (s.modPath p f).wtb = s.wtb ∧
    (s.modPath p f).links = s.links ∧ (s.modPath p f).cues = s.cues ∧ (s.modPath p f).frm = s.frm ∧ (s.modPath p f).flt = s.flt ∧
    (s.modPath p f).evr = s.evr ∧ (s.modPath p f).hif = s.hif ∧ (s.modPath p f).lpes = s.lpes ∧ (s.modPath p f).hvcs = s.hvcs ∧
    (s.modPath p f).stations = s.stations ∧ (s.modPath p f).fsr = s.fsr ∧ (s.modPath p f).chans = s.chans ∧
    (s.modPath p f).buses = s.buses ∧ (s.modPath p f).mems = s.mems ∧ (s.modPath p f).xfrs = s.xfrs ∧ (s.modPath p f).rins = s.rins ∧
    (s.modPath p f).rsets = s.rsets ∧ (s.modPath p f).mirrors = s.mirrors ∧ (s.modPath p f).scns = s.scns ∧
    (s.modPath p f).ckss = s.ckss ∧ (s.modPath p f).sweeps = s.sweeps ∧ (s.modPath p f).lsrs = s.lsrs ∧ (s.modPath p f).rgc = s.rgc ∧
    (s.modPath p f).prof = s.prof ∧ (s.modPath p f).axes = s.axes ∧ (s.modPath p f).thms = s.thms ∧ (s.modPath p f).thm = s.thm ∧
    (s.modPath p f).plk = s.plk ∧ (s.modPath p f).ports = s.ports ∧ (s.modPath p f).svc = s.svc ∧ (s.modPath p f).boot = s.boot ∧
    (s.modPath p f).lov = s.lov ∧ (s.modPath p f).bay = s.bay := by
  cases p <;> and_intros <;> rfl

end Sys2Proof.Machine
end

