-- ==== Sys2Proof/Laws/Store.lean ====
section
/-! SUPPORT. What the sparse stores do: a read after a write at the same key gives the value, a write leaves every other key alone, and every
operation keeps the canonical form. -/

namespace Sys2Proof.Machine

set_option Elab.async false
set_option linter.unusedSectionVars false

variable {α : Type} [DecidableEq α]

@[simp] theorem storeGet_nil (k : Nat) (d : α) : storeGet [] k d = d := rfl

theorem storeGet_cons (e : Nat × α) (t : List (Nat × α)) (k : Nat) (d : α) :
    storeGet (e :: t) k d = if e.1 = k then e.2 else storeGet t k d := rfl

@[simp] theorem storeGet_del_same (m : List (Nat × α)) (k : Nat) (d : α) : storeGet (storeDel m k) k d = d := by
  induction m with
  | nil => rfl
  | cons e t ih =>
    simp only [storeDel]
    split
    · exact ih
    · rw [storeGet_cons, if_neg ‹_›, ih]

theorem storeGet_del_other (m : List (Nat × α)) {j k : Nat} (h : j ≠ k) (d : α) :
    storeGet (storeDel m k) j d = storeGet m j d := by
  induction m with
  | nil => rfl
  | cons e t ih =>
    simp only [storeDel]
    split
    · rw [storeGet_cons, if_neg (by omega), ih]
    · rw [storeGet_cons, storeGet_cons, ih]

@[simp] theorem storeGet_put_same (m : List (Nat × α)) (k : Nat) (v d : α) : storeGet (storePut m k v) k d = v := by
  induction m with
  | nil => simp [storePut, storeGet_cons]
  | cons e t ih =>
    simp only [storePut]
    split
    · simp [storeGet_cons]
    · split
      · simp [storeGet_cons]
      · rw [storeGet_cons, if_neg ‹_›, ih]

theorem storeGet_put_other (m : List (Nat × α)) {j k : Nat} (h : j ≠ k) (v d : α) :
    storeGet (storePut m k v) j d = storeGet m j d := by
  induction m with
  | nil => simp [storePut, storeGet_cons, Ne.symm h]
  | cons e t ih =>
    simp only [storePut]
    split
    · rw [storeGet_cons, storeGet_cons, if_neg (by simp; omega), if_neg (by omega)]
    · split
      · rw [storeGet_cons, if_neg (by simp; omega)]
      · rw [storeGet_cons, storeGet_cons, ih]

/-- A read after a write at the same key gives the value written. -/
@[simp] theorem storeGet_set_same (m : List (Nat × α)) (k : Nat) (v d : α) : storeGet (storeSet m k v d) k d = v := by
  induction m with
  | nil => simp only [storeSet]; split <;> simp_all [storeGet_cons]
  | cons e t ih =>
    simp only [storeSet]
    split
    · split
      · simp_all
      · simp [storeGet_cons]
    · split
      · split
        · rw [storeGet_cons, if_neg ‹_›]; simp_all
        · simp [storeGet_cons]
      · rw [storeGet_cons, if_neg ‹_›, ih]

/-- A write leaves every other key alone. -/
theorem storeGet_set_other (m : List (Nat × α)) {j k : Nat} (h : j ≠ k) (v d d' : α) :
    storeGet (storeSet m k v d) j d' = storeGet m j d' := by
  induction m with
  | nil => simp only [storeSet]; split <;> simp [storeGet_cons, Ne.symm h]
  | cons e t ih =>
    simp only [storeSet]
    split
    · split
      · rw [storeGet_del_other t h, storeGet_cons, if_neg (by omega)]
      · rw [storeGet_cons, storeGet_cons, if_neg (by simp; omega), if_neg (by omega)]
    · split
      · split
        · rw [storeGet_cons, storeGet_cons, storeGet_del_other t h]
        · rw [storeGet_cons, if_neg (by simp; omega)]
      · rw [storeGet_cons, storeGet_cons, ih]

/-- Every key of a store is at least a bound. -/
def keysFrom (b : Nat) (m : List (Nat × α)) : Prop := ∀ e ∈ m, b ≤ e.1

theorem storeWf_cons (dflt : Nat → α) (k : Nat) (v : α) (t : List (Nat × α)) :
    storeWf dflt ((k, v) :: t) = true ↔ v ≠ dflt k ∧ keysFrom (k + 1) t ∧ storeWf dflt t = true := by
  induction t generalizing k v with
  | nil => simp [storeWf, keysFrom]
  | cons e t ih =>
    obtain ⟨k', v'⟩ := e
    simp only [storeWf, Bool.and_eq_true, decide_eq_true_eq]
    constructor
    · rintro ⟨⟨h1, h2⟩, h3⟩
      refine ⟨h1, ?_, h3⟩
      intro e he
      rcases List.mem_cons.mp he with rfl | he
      · exact h2
      · have := ((ih k' v').mp h3).2.1 e he; omega
    · rintro ⟨h1, h2, h3⟩
      exact ⟨⟨h1, h2 _ (List.mem_cons_self ..)⟩, h3⟩

theorem storeDel_absent (m : List (Nat × α)) {k : Nat} (h : keysFrom (k + 1) m) : storeDel m k = m := by
  induction m with
  | nil => rfl
  | cons e t ih =>
    have h1 := h e (List.mem_cons_self ..)
    rw [storeDel, if_neg (by omega), ih (fun x hx => h x (List.mem_cons_of_mem _ hx))]

theorem storeSet_keys (m : List (Nat × α)) {b k : Nat} (v d : α) (hb : b ≤ k) (h : keysFrom b m) :
    keysFrom b (storeSet m k v d) := by
  have del : ∀ t : List (Nat × α), keysFrom b t → keysFrom b (storeDel t k) := by
    intro t
    induction t with
    | nil => intro h; exact h
    | cons e t ih =>
      intro h
      have ht := ih fun x hx => h x (List.mem_cons_of_mem _ hx)
      simp only [storeDel]
      split
      · exact ht
      · intro x hx
        rcases List.mem_cons.mp hx with rfl | hx
        · exact h _ (List.mem_cons_self ..)
        · exact ht x hx
  induction m with
  | nil => simp only [storeSet]; split <;> simp [keysFrom, hb]
  | cons e t ih =>
    have he := h e (List.mem_cons_self ..)
    have ht : keysFrom b t := fun x hx => h x (List.mem_cons_of_mem _ hx)
    have cons : ∀ (x : Nat × α) (l : List (Nat × α)), b ≤ x.1 → keysFrom b l → keysFrom b (x :: l) := by
      intro x l hx hl y hy
      rcases List.mem_cons.mp hy with rfl | hy
      · exact hx
      · exact hl y hy
    simp only [storeSet]
    split
    · split
      · exact del t ht
      · exact cons _ _ hb ht
    · split
      · split
        · exact cons _ _ he (del t ht)
        · exact cons _ _ hb h
      · exact cons _ _ he (ih ht)

/-- A write keeps the canonical form. -/
theorem storeSet_wf (dflt : Nat → α) (m : List (Nat × α)) (k : Nat) (v : α) (h : storeWf dflt m = true) :
    storeWf dflt (storeSet m k v (dflt k)) = true := by
  induction m with
  | nil => simp only [storeSet]; split <;> simp_all [storeWf]
  | cons e t ih =>
    obtain ⟨k', v'⟩ := e
    obtain ⟨h1, h2, h3⟩ := (storeWf_cons dflt k' v' t).mp h
    simp only [storeSet]
    split
    · next hk =>
      subst hk
      split
      · rw [storeDel_absent t h2]; exact h3
      · exact (storeWf_cons ..).mpr ⟨‹_›, h2, h3⟩
    · split
      · next hlt =>
        have ha : keysFrom (k + 1) t := fun x hx => by have := h2 x hx; omega
        split
        · rw [storeDel_absent t ha]; exact h
        · refine (storeWf_cons ..).mpr ⟨‹_›, ?_, h⟩
          intro x hx
          rcases List.mem_cons.mp hx with rfl | hx
          · exact hlt
          · exact ha x hx
      · exact (storeWf_cons ..).mpr ⟨h1, storeSet_keys t v _ (by omega) h2, ih h3⟩

/-- Leaving entries out keeps the canonical form. -/
theorem storeFilter_wf (dflt : Nat → α) (m : List (Nat × α)) (p : Nat × α → Bool) (h : storeWf dflt m = true) :
    storeWf dflt (m.filter p) = true := by
  induction m with
  | nil => rfl
  | cons e t ih =>
    obtain ⟨k', v'⟩ := e
    obtain ⟨h1, h2, h3⟩ := (storeWf_cons dflt k' v' t).mp h
    rw [List.filter_cons]
    split
    · exact (storeWf_cons ..).mpr ⟨h1, fun x hx => h2 x ((List.mem_filter.mp hx).1), ih h3⟩
    · exact ih h3

theorem storeAppend_wf (dflt : Nat → α) (m n : List (Nat × α)) {b : Nat} (hm : storeWf dflt m = true) (hn : storeWf dflt n = true)
    (h1 : ∀ e ∈ m, e.1 < b) (h2 : keysFrom b n) : storeWf dflt (m ++ n) = true := by
  induction m with
  | nil => exact hn
  | cons e t ih =>
    obtain ⟨k', v'⟩ := e
    obtain ⟨g1, g2, g3⟩ := (storeWf_cons dflt k' v' t).mp hm
    rw [List.cons_append]
    refine (storeWf_cons ..).mpr ⟨g1, ?_, ih g3 fun x hx => h1 x (List.mem_cons_of_mem _ hx)⟩
    intro x hx
    rcases List.mem_append.mp hx with hx | hx
    · exact g2 x hx
    · have := h1 _ (List.mem_cons_self ..); have := h2 x hx; simp only at *; omega

/-- Replacing a range of a store by that of another keeps the canonical form. -/
theorem storeCopyRange_wf (dflt : Nat → Word) (dst src : Store) (die lo hi : Nat) (hl : lo ≤ hi) (h1 : storeWf dflt dst = true)
    (h2 : storeWf dflt src = true) : storeWf dflt (storeCopyRange dst src die lo hi) = true := by
  have hk : regKey die lo ≤ regKey die hi := by simp only [regKey]; omega
  unfold storeCopyRange storeRange
  refine storeAppend_wf dflt _ _ (b := regKey die hi) (storeAppend_wf dflt _ _ (b := regKey die lo) ?_ ?_ ?_ ?_) ?_ ?_ ?_
  · exact storeFilter_wf _ _ _ h1
  · exact storeFilter_wf _ _ _ h2
  · intro e he; simpa using (List.mem_filter.mp he).2
  · intro e he; have := (List.mem_filter.mp he).2; simp at this; exact this.1
  · exact storeFilter_wf _ _ _ h1
  · intro e he
    rcases List.mem_append.mp he with he | he
    · have := (List.mem_filter.mp he).2; simp at this; omega
    · have := (List.mem_filter.mp he).2; simp at this; exact this.2
  · intro e he; simpa using (List.mem_filter.mp he).2

end Sys2Proof.Machine
end

