-- ==== Sys2Proof/Laws/Regs.lean ====
section
/-! SUPPORT. Reading registers after the named operations of Ops: a field reads what was written to it, and every other field of every
register of every die reads as before. -/

namespace Sys2Proof.Machine

set_option Elab.async false

/-! ### Words and fields -/

theorem regKey_inj {d e o p : Nat} (ho : o < 0x100000) (hp : p < 0x100000) : regKey d o = regKey e p ↔ d = e ∧ o = p := by
  simp only [regKey]; omega

@[simp] theorem State.rdWord_wrWord_same (s : State) (d o : Nat) (w : Word) : (s.wrWord d o w).rdWord d o = w := by
  simp [State.rdWord]

theorem State.rdWord_wrWord_key (s : State) {d e o p : Nat} (w : Word) (h : regKey e p ≠ regKey d o) :
    (s.wrWord d o w).rdWord e p = s.rdWord e p := by
  simp [State.rdWord, storeGet_set_other _ h]

theorem getBits_lt (w : Word) (hi lo : Nat) : getBits w hi lo < 2 ^ (hi + 1 - lo) := Nat.mod_lt _ (Nat.two_pow_pos _)

theorem getBits_testBit (w : Word) (hi lo i : Nat) :
    (getBits w hi lo).testBit i = (decide (i < hi + 1 - lo) && w.toNat.testBit (lo + i)) := by
  simp only [getBits, Nat.testBit_mod_two_pow, Nat.testBit_div_two_pow]
  congr 2; omega

theorem setBits_testBit (w : Word) {hi lo : Nat} (_h : hi < 20) (v i : Nat) (hi20 : i < 20) :
    (setBits w hi lo v).toNat.testBit i
      = if lo ≤ i ∧ i ≤ hi then v.testBit (i - lo) else w.toNat.testBit i := by
  have e : (setBits w hi lo v).toNat.testBit i = (setBits w hi lo v).getLsbD i := rfl
  have ew : w.toNat.testBit i = w.getLsbD i := rfl
  rw [e, ew]
  simp only [setBits, BitVec.getLsbD_or, BitVec.getLsbD_and, BitVec.getLsbD_not, BitVec.getLsbD_shiftLeft, BitVec.getLsbD_ofNat,
    Nat.testBit_two_pow_sub_one]
  by_cases h1 : lo ≤ i
  · by_cases h2 : i ≤ hi
    · have : i - lo < hi + 1 - lo := by omega
      have : i - lo < 20 := by omega
      have : ¬ i < lo := by omega
      simp [*]
    · have : ¬ (i - lo < hi + 1 - lo) := by omega
      simp [*]
  · have : i < lo := by omega
    simp [*]

/-- A field reads the low bits of what was written to it. -/
theorem getBits_setBits_same (w : Word) {hi lo : Nat} (h : hi < 20) (v : Nat) :
    getBits (setBits w hi lo v) hi lo = v % 2 ^ (hi + 1 - lo) := by
  apply Nat.eq_of_testBit_eq
  intro i
  rw [getBits_testBit, Nat.testBit_mod_two_pow]
  by_cases hi' : i < hi + 1 - lo
  · rw [setBits_testBit w h v _ (by omega), if_pos (by omega)]
    simp [hi']
  · simp [hi']

/-- Bits outside a field read as before. -/
theorem getBits_setBits_other (w : Word) {hi lo a b : Nat} (h : hi < 20) (v : Nat) (hd : a < lo ∨ hi < b) :
    getBits (setBits w hi lo v) a b = getBits w a b := by
  apply Nat.eq_of_testBit_eq
  intro i
  rw [getBits_testBit, getBits_testBit]
  by_cases hi' : i < a + 1 - b
  · by_cases h20 : b + i < 20
    · rw [setBits_testBit w h v _ h20, if_neg (by omega)]
    · have : ∀ x : Word, x.toNat.testBit (b + i) = false := fun x =>
        Nat.testBit_lt_two_pow (Nat.lt_of_lt_of_le x.isLt (Nat.pow_le_pow_right (by omega) (by omega)))
      rw [this, this]
  · simp [hi']

theorem State.rd_wr_same (s : State) (d : Nat) (f : Fld) (v : Nat) (h : f.hi < 20) :
    (s.wr d f v).rd d f = v % 2 ^ (f.hi + 1 - f.lo) := by
  simp only [State.rd, State.wr, State.rdWord_wrWord_same]
  exact getBits_setBits_same _ h v

/-- A field keeps its value when another field of its word is written. -/
theorem State.rd_wr_bits (s : State) (d e : Nat) (f g : Fld) (v : Nat) (h : f.hi < 20) (ho : f.off = g.off)
    (hd : g.hi < f.lo ∨ f.hi < g.lo) : (s.wr d f v).rd e g = s.rd e g := by
  by_cases hde : regKey d f.off = regKey e g.off
  · have hde' : d = e := by simp only [regKey] at hde; omega
    subst hde'
    simp only [State.rd, State.wr, ← ho, State.rdWord_wrWord_same]
    exact getBits_setBits_other _ h v hd
  · simp only [State.rd, State.wr]
    rw [State.rdWord_wrWord_key _ _ (Ne.symm hde)]

/-- A field keeps its value when another word is written. -/
theorem State.rd_wr_off (s : State) (d e : Nat) (f g : Fld) (v : Nat) (h : f.off ≠ g.off) (hf : f.off < 0x100000)
    (hg : g.off < 0x100000) : (s.wr d f v).rd e g = s.rd e g := by
  simp only [State.rd, State.wr]
  rw [State.rdWord_wrWord_key]
  intro hk; exact h ((regKey_inj hg hf).mp hk).2.symm

/-- A field keeps its value when a word of another die is written. -/
theorem State.rd_wr_die (s : State) (d e : Nat) (f g : Fld) (v : Nat) (h : d ≠ e) (hf : f.off < 0x100000)
    (hg : g.off < 0x100000) : (s.wr d f v).rd e g = s.rd e g := by
  simp only [State.rd, State.wr]
  rw [State.rdWord_wrWord_key]
  intro hk; exact h ((regKey_inj hg hf).mp hk).1.symm

/-- A word keeps its value when another word is written. -/
theorem State.rdWord_wr_off (s : State) (d e : Nat) (f : Fld) (o v : Nat) (h : f.off ≠ o) (hf : f.off < 0x100000)
    (ho : o < 0x100000) : (s.wr d f v).rdWord e o = s.rdWord e o := by
  simp only [State.wr]
  rw [State.rdWord_wrWord_key]
  intro hk; exact h ((regKey_inj ho hf).mp hk).2.symm

/-- A pair reads what was written to it, modulo 2^40. -/
@[simp] theorem State.rd40_wr40_same (s : State) (d o v : Nat) : (s.wr40 d o v).rd40 d o = v % 1099511627776 := by
  have hk : regKey d o ≠ regKey d (o + 4) := by simp only [regKey]; omega
  simp only [State.rd40, State.wr40, State.rdWord_wrWord_same, State.rdWord_wrWord_key _ _ hk, BitVec.toNat_ofNat]
  omega

theorem State.rd_wr40_off (s : State) (d e o : Nat) (g : Fld) (v : Nat) (h : o ≠ g.off) (h' : o + 4 ≠ g.off)
    (ho : o + 4 < 0x100000) (hg : g.off < 0x100000) : (s.wr40 d o v).rd e g = s.rd e g := by
  simp only [State.rd, State.wr40]
  rw [State.rdWord_wrWord_key, State.rdWord_wrWord_key]
  · intro hk; exact h ((regKey_inj hg (by omega)).mp hk).2.symm
  · intro hk; exact h' ((regKey_inj hg ho).mp hk).2.symm

theorem State.rd40_wr_off (s : State) (d e : Nat) (f : Fld) (o v : Nat) (h : f.off ≠ o) (h' : f.off ≠ o + 4)
    (hf : f.off < 0x100000) (ho : o + 4 < 0x100000) : (s.wr d f v).rd40 e o = s.rd40 e o := by
  simp only [State.rd40, State.rdWord_wr_off s d e f o v h hf (by omega), State.rdWord_wr_off s d e f (o + 4) v h' hf ho]

theorem State.rd40_wr40_off (s : State) (d e o p v : Nat) (h : o ≠ p) (h1 : o + 4 ≠ p) (h2 : o ≠ p + 4) (ho : o + 4 < 0x100000)
    (hp : p + 4 < 0x100000) : (s.wr40 d o v).rd40 e p = s.rd40 e p := by
  simp only [State.rd40, State.wr40]
  rw [State.rdWord_wrWord_key, State.rdWord_wrWord_key, State.rdWord_wrWord_key, State.rdWord_wrWord_key] <;>
    (intro hk; have := (regKey_inj (by omega) (by omega)).mp hk; omega)

/-! ### The derived forms of a write -/

@[simp] theorem State.wrB_eq (s : State) (d : Nat) (f : Fld) (b : Bool) : s.wrB d f b = s.wr d f (b2n b) := rfl
@[simp] theorem State.wrSat_eq (s : State) (d : Nat) (f : Fld) (v : Nat) : s.wrSat d f v = s.wr d f (satN f.width v) := rfl
@[simp] theorem State.wrS_eq (s : State) (d : Nat) (f : Fld) (v : Int) : s.wrS d f v = s.wr d f (unsgn f.width (satS f.width v)) := rfl
@[simp] theorem State.bump_eq (s : State) (d : Nat) (f : Fld) (n : Nat) : s.bump d f n = s.wr d f (satN f.width (s.rd d f + n)) := rfl
@[simp] theorem State.bumpWrap_eq (s : State) (d : Nat) (f : Fld) : s.bumpWrap d f = s.wr d f (s.rd d f + 1) := rfl
@[simp] theorem State.on_eq (s : State) (d : Nat) (f : Fld) : s.on d f = (s.rd d f != 0) := rfl
@[simp] theorem b2n_true : b2n true = 1 := rfl
@[simp] theorem b2n_false : b2n false = 0 := rfl

@[simp] theorem State.takeFree_eq (s : State) : s.takeFree = (Config.free s.freeCtr, s.modFree fun k => k + 1) := rfl
@[simp] theorem State.answer_eq (s : State) (p : Path) (l : List Nat) : s.answer p l = s.modPath p fun r => { r with data := l } := rfl

/-! ### Reports -/

/-- The report that a block makes. -/
def State.reportOf (s : State) (d : Nat) (b : Blk) (src : Nat) (k : FClass) (cause : Nat) (fs : List Nat) : Report :=
  { die := d, pos := fltPos d b, src := src, cls := k, cause := cause, frames := fs, at40 := s.pos, time := s.now }

/-- A report that its position does not promote only enters the collector's inbox. -/
theorem State.post_kept (s : State) (r : Report) (h : (r.cls != .f && s.on r.die ⟨F.FLT_REACT_promote.off, r.pos, r.pos⟩) = false) :
    s.post r = s.modFlt fun f => { f with inbox := f.inbox ++ [r] } := by
  unfold State.post; rw [h]; rfl

/-- Nothing promotes an F report. -/
@[simp] theorem State.report_f (s : State) (d : Nat) (b : Blk) (src cause : Nat) (fs : List Nat) :
    s.report d b src .f cause fs = s.modFlt fun f => { f with inbox := f.inbox ++ [s.reportOf d b src .f cause fs] } :=
  s.post_kept _ rfl

/-- A report of a position that is not promoted only enters the collector's inbox. -/
theorem State.report_kept (s : State) (d : Nat) (b : Blk) (src : Nat) (k : FClass) (cause : Nat) (fs : List Nat)
    (h : s.on d ⟨F.FLT_REACT_promote.off, fltPos d b, fltPos d b⟩ = false) :
    s.report d b src k cause fs = s.modFlt fun f => { f with inbox := f.inbox ++ [s.reportOf d b src k cause fs] } :=
  s.post_kept _ (by rw [h, Bool.and_false])

@[simp] theorem State.reportC_eq (s : State) (d : Nat) (b : Blk) (src : Nat) : s.reportC d b src = s.report d b src .c 0 [] := rfl

/-- A refusal sets its bit and reports a C-class event (R19). -/
@[simp] theorem State.reject_eq (s : State) (d : Nat) (b : Blk) (f : Fld) :
    s.reject d b f = (s.wr d f 1).report d b (rejectSrc b) .c 0 [] := rfl

/-! ### Repetition -/

/-- What every round of a repetition keeps, the whole keeps. -/
theorem State.each_keeps {α : Type} (p : State → Prop) (l : List α) (f : α → State → State) (h : ∀ a s, p s → p (f a s)) (s : State)
    (hs : p s) : p (s.each l f) := by
  unfold State.each
  induction l generalizing s with
  | nil => exact hs
  | cons a t ih => exact ih (f a s) (h a s hs)

@[simp] theorem State.each_nil {α : Type} (s : State) (f : α → State → State) : s.each [] f = s := rfl
@[simp] theorem State.each_cons {α : Type} (s : State) (a : α) (l : List α) (f : α → State → State) :
    s.each (a :: l) f = (f a s).each l f := rfl

/-! ### Reads after the other updates -/


@[simp] theorem State.modLink_reads (s : State) (n : Nat) (f : Link → Link) (e : Nat) (g : Fld) (o : Nat) :
    (s.modLink n f).rdWord e o = s.rdWord e o ∧ (s.modLink n f).rd e g = s.rd e g ∧ (s.modLink n f).rd40 e o = s.rd40 e o := ⟨rfl, rfl, rfl⟩
@[simp] theorem State.modCue_reads (s : State) (d : Nat) (f : Cue → Cue) (e : Nat) (g : Fld) (o : Nat) :
    (s.modCue d f).rdWord e o = s.rdWord e o ∧ (s.modCue d f).rd e g = s.rd e g ∧ (s.modCue d f).rd40 e o = s.rd40 e o := ⟨rfl, rfl, rfl⟩
@[simp] theorem State.modWtb_reads (s : State) (f : Wtb → Wtb) (e : Nat) (g : Fld) (o : Nat) :
    (s.modWtb f).rdWord e o = s.rdWord e o ∧ (s.modWtb f).rd e g = s.rd e g ∧ (s.modWtb f).rd40 e o = s.rd40 e o := ⟨rfl, rfl, rfl⟩
@[simp] theorem State.modFrm_reads (s : State) (f : Frm → Frm) (e : Nat) (g : Fld) (o : Nat) :
    (s.modFrm f).rdWord e o = s.rdWord e o ∧ (s.modFrm f).rd e g = s.rd e g ∧ (s.modFrm f).rd40 e o = s.rd40 e o := ⟨rfl, rfl, rfl⟩
@[simp] theorem State.modFlt_reads (s : State) (f : Flt → Flt) (e : Nat) (g : Fld) (o : Nat) :
    (s.modFlt f).rdWord e o = s.rdWord e o ∧ (s.modFlt f).rd e g = s.rd e g ∧ (s.modFlt f).rd40 e o = s.rd40 e o := ⟨rfl, rfl, rfl⟩
@[simp] theorem State.modEvr_reads (s : State) (f : Evr → Evr) (e : Nat) (g : Fld) (o : Nat) :
    (s.modEvr f).rdWord e o = s.rdWord e o ∧ (s.modEvr f).rd e g = s.rd e g ∧ (s.modEvr f).rd40 e o = s.rd40 e o := ⟨rfl, rfl, rfl⟩
@[simp] theorem State.modLpe_reads (s : State) (d : Nat) (f : Lpe → Lpe) (e : Nat) (g : Fld) (o : Nat) :
    (s.modLpe d f).rdWord e o = s.rdWord e o ∧ (s.modLpe d f).rd e g = s.rd e g ∧ (s.modLpe d f).rd40 e o = s.rd40 e o := ⟨rfl, rfl, rfl⟩
@[simp] theorem State.modHvc_reads (s : State) (d : Nat) (f : Hvc → Hvc) (e : Nat) (g : Fld) (o : Nat) :
    (s.modHvc d f).rdWord e o = s.rdWord e o ∧ (s.modHvc d f).rd e g = s.rd e g ∧ (s.modHvc d f).rd40 e o = s.rd40 e o := ⟨rfl, rfl, rfl⟩
@[simp] theorem State.modStn_reads (s : State) (n : Nat) (f : Stn → Stn) (e : Nat) (g : Fld) (o : Nat) :
    (s.modStn n f).rdWord e o = s.rdWord e o ∧ (s.modStn n f).rd e g = s.rd e g ∧ (s.modStn n f).rd40 e o = s.rd40 e o := ⟨rfl, rfl, rfl⟩
@[simp] theorem State.modFsr_reads (s : State) (f : Fsr → Fsr) (e : Nat) (g : Fld) (o : Nat) :
    (s.modFsr f).rdWord e o = s.rdWord e o ∧ (s.modFsr f).rd e g = s.rd e g ∧ (s.modFsr f).rd40 e o = s.rd40 e o := ⟨rfl, rfl, rfl⟩
@[simp] theorem State.modChan_reads (s : State) (d k : Nat) (f : Chan → Chan) (e : Nat) (g : Fld) (o : Nat) :
    (s.modChan d k f).rdWord e o = s.rdWord e o ∧ (s.modChan d k f).rd e g = s.rd e g ∧ (s.modChan d k f).rd40 e o = s.rd40 e o := ⟨rfl, rfl, rfl⟩
@[simp] theorem State.modBus_reads (s : State) (d : Nat) (f : Bus → Bus) (e : Nat) (g : Fld) (o : Nat) :
    (s.modBus d f).rdWord e o = s.rdWord e o ∧ (s.modBus d f).rd e g = s.rd e g ∧ (s.modBus d f).rd40 e o = s.rd40 e o := ⟨rfl, rfl, rfl⟩
@[simp] theorem State.modMem_reads (s : State) (d : Nat) (f : Mems → Mems) (e : Nat) (g : Fld) (o : Nat) :
    (s.modMem d f).rdWord e o = s.rdWord e o ∧ (s.modMem d f).rd e g = s.rd e g ∧ (s.modMem d f).rd40 e o = s.rd40 e o := ⟨rfl, rfl, rfl⟩
@[simp] theorem State.modXch_reads (s : State) (d c : Nat) (f : XCh → XCh) (e : Nat) (g : Fld) (o : Nat) :
    (s.modXch d c f).rdWord e o = s.rdWord e o ∧ (s.modXch d c f).rd e g = s.rd e g ∧ (s.modXch d c f).rd40 e o = s.rd40 e o := ⟨rfl, rfl, rfl⟩
@[simp] theorem State.modRin_reads (s : State) (n : Nat) (f : Rin → Rin) (e : Nat) (g : Fld) (o : Nat) :
    (s.modRin n f).rdWord e o = s.rdWord e o ∧ (s.modRin n f).rd e g = s.rd e g ∧ (s.modRin n f).rd40 e o = s.rd40 e o := ⟨rfl, rfl, rfl⟩
@[simp] theorem State.modMirror_reads (s : State) (n : Nat) (f : Mirror → Mirror) (e : Nat) (g : Fld) (o : Nat) :
    (s.modMirror n f).rdWord e o = s.rdWord e o ∧ (s.modMirror n f).rd e g = s.rd e g ∧ (s.modMirror n f).rd40 e o = s.rd40 e o := ⟨rfl, rfl, rfl⟩
@[simp] theorem State.modScn_reads (s : State) (n : Nat) (f : Scn → Scn) (e : Nat) (g : Fld) (o : Nat) :
    (s.modScn n f).rdWord e o = s.rdWord e o ∧ (s.modScn n f).rd e g = s.rd e g ∧ (s.modScn n f).rd40 e o = s.rd40 e o := ⟨rfl, rfl, rfl⟩
@[simp] theorem State.modCks_reads (s : State) (d : Nat) (f : Cks → Cks) (e : Nat) (g : Fld) (o : Nat) :
    (s.modCks d f).rdWord e o = s.rdWord e o ∧ (s.modCks d f).rd e g = s.rd e g ∧ (s.modCks d f).rd40 e o = s.rd40 e o := ⟨rfl, rfl, rfl⟩
@[simp] theorem State.modSweep_reads (s : State) (n : Nat) (f : Sweep → Sweep) (e : Nat) (g : Fld) (o : Nat) :
    (s.modSweep n f).rdWord e o = s.rdWord e o ∧ (s.modSweep n f).rd e g = s.rd e g ∧ (s.modSweep n f).rd40 e o = s.rd40 e o := ⟨rfl, rfl, rfl⟩
@[simp] theorem State.modLsr_reads (s : State) (n : Nat) (f : Lsr → Lsr) (e : Nat) (g : Fld) (o : Nat) :
    (s.modLsr n f).rdWord e o = s.rdWord e o ∧ (s.modLsr n f).rd e g = s.rd e g ∧ (s.modLsr n f).rd40 e o = s.rd40 e o := ⟨rfl, rfl, rfl⟩
@[simp] theorem State.modRgc_reads (s : State) (f : Rgc → Rgc) (e : Nat) (g : Fld) (o : Nat) :
    (s.modRgc f).rdWord e o = s.rdWord e o ∧ (s.modRgc f).rd e g = s.rd e g ∧ (s.modRgc f).rd40 e o = s.rd40 e o := ⟨rfl, rfl, rfl⟩
@[simp] theorem State.modProf_reads (s : State) (f : Prof → Prof) (e : Nat) (g : Fld) (o : Nat) :
    (s.modProf f).rdWord e o = s.rdWord e o ∧ (s.modProf f).rd e g = s.rd e g ∧ (s.modProf f).rd40 e o = s.rd40 e o := ⟨rfl, rfl, rfl⟩
@[simp] theorem State.modAxis_reads (s : State) (x : Nat) (f : Axis → Axis) (e : Nat) (g : Fld) (o : Nat) :
    (s.modAxis x f).rdWord e o = s.rdWord e o ∧ (s.modAxis x f).rd e g = s.rd e g ∧ (s.modAxis x f).rd40 e o = s.rd40 e o := ⟨rfl, rfl, rfl⟩
@[simp] theorem State.modThmDie_reads (s : State) (d : Nat) (f : ThmDie → ThmDie) (e : Nat) (g : Fld) (o : Nat) :
    (s.modThmDie d f).rdWord e o = s.rdWord e o ∧ (s.modThmDie d f).rd e g = s.rd e g ∧ (s.modThmDie d f).rd40 e o = s.rd40 e o := ⟨rfl, rfl, rfl⟩
@[simp] theorem State.modThm_reads (s : State) (f : Thm → Thm) (e : Nat) (g : Fld) (o : Nat) :
    (s.modThm f).rdWord e o = s.rdWord e o ∧ (s.modThm f).rd e g = s.rd e g ∧ (s.modThm f).rd40 e o = s.rd40 e o := ⟨rfl, rfl, rfl⟩
@[simp] theorem State.modPlk_reads (s : State) (f : Plk → Plk) (e : Nat) (g : Fld) (o : Nat) :
    (s.modPlk f).rdWord e o = s.rdWord e o ∧ (s.modPlk f).rd e g = s.rd e g ∧ (s.modPlk f).rd40 e o = s.rd40 e o := ⟨rfl, rfl, rfl⟩
@[simp] theorem State.modPorts_reads (s : State) (f : Ports → Ports) (e : Nat) (g : Fld) (o : Nat) :
    (s.modPorts f).rdWord e o = s.rdWord e o ∧ (s.modPorts f).rd e g = s.rd e g ∧ (s.modPorts f).rd40 e o = s.rd40 e o := ⟨rfl, rfl, rfl⟩
@[simp] theorem State.modLov_reads (s : State) (f : Lov → Lov) (e : Nat) (g : Fld) (o : Nat) :
    (s.modLov f).rdWord e o = s.rdWord e o ∧ (s.modLov f).rd e g = s.rd e g ∧ (s.modLov f).rd40 e o = s.rd40 e o := ⟨rfl, rfl, rfl⟩
@[simp] theorem State.modBay_reads (s : State) (f : Bay → Bay) (e : Nat) (g : Fld) (o : Nat) :
    (s.modBay f).rdWord e o = s.rdWord e o ∧ (s.modBay f).rd e g = s.rd e g ∧ (s.modBay f).rd40 e o = s.rd40 e o := ⟨rfl, rfl, rfl⟩
@[simp] theorem State.modSvc_reads (s : State) (f : Svc → Svc) (e : Nat) (g : Fld) (o : Nat) :
    (s.modSvc f).rdWord e o = s.rdWord e o ∧ (s.modSvc f).rd e g = s.rd e g ∧ (s.modSvc f).rd40 e o = s.rd40 e o := ⟨rfl, rfl, rfl⟩
@[simp] theorem State.modHif_reads (s : State) (f : Hif → Hif) (e : Nat) (g : Fld) (o : Nat) :
    (s.modHif f).rdWord e o = s.rdWord e o ∧ (s.modHif f).rd e g = s.rd e g ∧ (s.modHif f).rd40 e o = s.rd40 e o := ⟨rfl, rfl, rfl⟩
@[simp] theorem State.modBoot_reads (s : State) (f : Boot → Boot) (e : Nat) (g : Fld) (o : Nat) :
    (s.modBoot f).rdWord e o = s.rdWord e o ∧ (s.modBoot f).rd e g = s.rd e g ∧ (s.modBoot f).rd40 e o = s.rd40 e o := ⟨rfl, rfl, rfl⟩
@[simp] theorem State.modRsets_reads (s : State) (f : Rsets → Rsets) (e : Nat) (g : Fld) (o : Nat) :
    (s.modRsets f).rdWord e o = s.rdWord e o ∧ (s.modRsets f).rd e g = s.rd e g ∧ (s.modRsets f).rd40 e o = s.rd40 e o := ⟨rfl, rfl, rfl⟩
@[simp] theorem State.modXfr_reads (s : State) (d : Nat) (f : Xfr → Xfr) (e : Nat) (g : Fld) (o : Nat) :
    (s.modXfr d f).rdWord e o = s.rdWord e o ∧ (s.modXfr d f).rd e g = s.rd e g ∧ (s.modXfr d f).rd40 e o = s.rd40 e o := ⟨rfl, rfl, rfl⟩
@[simp] theorem State.modOpHold_reads (s : State) (f : List (Option Nat) → List (Option Nat)) (e : Nat) (g : Fld) (o : Nat) :
    (s.modOpHold f).rdWord e o = s.rdWord e o ∧ (s.modOpHold f).rd e g = s.rd e g ∧ (s.modOpHold f).rd40 e o = s.rd40 e o := ⟨rfl, rfl, rfl⟩
@[simp] theorem State.modArmed_reads (s : State) (f : Store → Store) (e : Nat) (g : Fld) (o : Nat) :
    (s.modArmed f).rdWord e o = s.rdWord e o ∧ (s.modArmed f).rd e g = s.rd e g ∧ (s.modArmed f).rd40 e o = s.rd40 e o := ⟨rfl, rfl, rfl⟩
@[simp] theorem State.modInUse_reads (s : State) (f : Store → Store) (e : Nat) (g : Fld) (o : Nat) :
    (s.modInUse f).rdWord e o = s.rdWord e o ∧ (s.modInUse f).rd e g = s.rd e g ∧ (s.modInUse f).rd40 e o = s.rd40 e o := ⟨rfl, rfl, rfl⟩
@[simp] theorem State.modNow_reads (s : State) (f : Nat → Nat) (e : Nat) (g : Fld) (o : Nat) :
    (s.modNow f).rdWord e o = s.rdWord e o ∧ (s.modNow f).rd e g = s.rd e g ∧ (s.modNow f).rd40 e o = s.rd40 e o := ⟨rfl, rfl, rfl⟩
@[simp] theorem State.modFree_reads (s : State) (f : Nat → Nat) (e : Nat) (g : Fld) (o : Nat) :
    (s.modFree f).rdWord e o = s.rdWord e o ∧ (s.modFree f).rd e g = s.rd e g ∧ (s.modFree f).rd40 e o = s.rd40 e o := ⟨rfl, rfl, rfl⟩
@[simp] theorem State.modRgcStn_reads (s : State) (n : Nat) (f : RgcStn → RgcStn) (e : Nat) (g : Fld) (o : Nat) :
    (s.modRgcStn n f).rdWord e o = s.rdWord e o ∧ (s.modRgcStn n f).rd e g = s.rd e g ∧ (s.modRgcStn n f).rd40 e o = s.rd40 e o := ⟨rfl, rfl, rfl⟩
@[simp] theorem State.wrStaged_reads (s : State) (die : Nat) (f : Fld) (v : Nat) (e : Nat) (g : Fld) (o : Nat) :
    (s.wrStaged die f v).rdWord e o = s.rdWord e o ∧ (s.wrStaged die f v).rd e g = s.rd e g ∧ (s.wrStaged die f v).rd40 e o = s.rd40 e o := ⟨rfl, rfl, rfl⟩
@[simp] theorem State.modPath_reads (s : State) (p : Path) (f : PathRegs → PathRegs) (e : Nat) (g : Fld) (o : Nat) :
    (s.modPath p f).rdWord e o = s.rdWord e o ∧ (s.modPath p f).rd e g = s.rd e g ∧ (s.modPath p f).rd40 e o = s.rd40 e o := by
  cases p <;> exact ⟨rfl, rfl, rfl⟩
@[simp] theorem State.wr_other (s : State) (die : Nat) (f : Fld) (v : Nat) :
    (s.wr die f v).nStn = s.nStn ∧ (s.wr die f v).now = s.now ∧ (s.wr die f v).freeCtr = s.freeCtr ∧ (s.wr die f v).pending = s.pending ∧
    (s.wr die f v).staged = s.staged ∧ (s.wr die f v).armed = s.armed ∧ (s.wr die f v).inUse = s.inUse ∧
    (s.wr die f v).hostPath = s.hostPath ∧ (s.wr die f v).svcPath = s.svcPath ∧ (s.wr die f v).opHold = s.opHold ∧
    (s.wr die f v).wtb = s.wtb ∧ (s.wr die f v).links = s.links ∧ (s.wr die f v).cues = s.cues ∧ (s.wr die f v).frm = s.frm ∧
    (s.wr die f v).flt = s.flt ∧ (s.wr die f v).evr = s.evr ∧ (s.wr die f v).hif = s.hif ∧ (s.wr die f v).lpes = s.lpes ∧
    (s.wr die f v).hvcs = s.hvcs ∧ (s.wr die f v).stations = s.stations ∧ (s.wr die f v).fsr = s.fsr ∧ (s.wr die f v).chans = s.chans ∧
    (s.wr die f v).buses = s.buses ∧ (s.wr die f v).mems = s.mems ∧ (s.wr die f v).xfrs = s.xfrs ∧ (s.wr die f v).rins = s.rins ∧
    (s.wr die f v).rsets = s.rsets ∧ (s.wr die f v).mirrors = s.mirrors ∧ (s.wr die f v).scns = s.scns ∧ (s.wr die f v).ckss = s.ckss ∧
    (s.wr die f v).sweeps = s.sweeps ∧ (s.wr die f v).lsrs = s.lsrs ∧ (s.wr die f v).rgc = s.rgc ∧ (s.wr die f v).prof = s.prof ∧
    (s.wr die f v).axes = s.axes ∧ (s.wr die f v).thms = s.thms ∧ (s.wr die f v).thm = s.thm ∧ (s.wr die f v).plk = s.plk ∧
    (s.wr die f v).ports = s.ports ∧ (s.wr die f v).svc = s.svc ∧ (s.wr die f v).boot = s.boot ∧ (s.wr die f v).lov = s.lov ∧
    (s.wr die f v).bay = s.bay := by
  and_intros <;> rfl

@[simp] theorem State.wr40_other (s : State) (die off v : Nat) :
    (s.wr40 die off v).nStn = s.nStn ∧ (s.wr40 die off v).now = s.now ∧ (s.wr40 die off v).freeCtr = s.freeCtr ∧
    (s.wr40 die off v).pending = s.pending ∧ (s.wr40 die off v).staged = s.staged ∧ (s.wr40 die off v).armed = s.armed ∧
    (s.wr40 die off v).inUse = s.inUse ∧ (s.wr40 die off v).hostPath = s.hostPath ∧ (s.wr40 die off v).svcPath = s.svcPath ∧
    (s.wr40 die off v).opHold = s.opHold ∧ (s.wr40 die off v).wtb = s.wtb ∧ (s.wr40 die off v).links = s.links ∧
    (s.wr40 die off v).cues = s.cues ∧ (s.wr40 die off v).frm = s.frm ∧ (s.wr40 die off v).flt = s.flt ∧ (s.wr40 die off v).evr = s.evr ∧
    (s.wr40 die off v).hif = s.hif ∧ (s.wr40 die off v).lpes = s.lpes ∧ (s.wr40 die off v).hvcs = s.hvcs ∧
    (s.wr40 die off v).stations = s.stations ∧ (s.wr40 die off v).fsr = s.fsr ∧ (s.wr40 die off v).chans = s.chans ∧
    (s.wr40 die off v).buses = s.buses ∧ (s.wr40 die off v).mems = s.mems ∧ (s.wr40 die off v).xfrs = s.xfrs ∧
    (s.wr40 die off v).rins = s.rins ∧ (s.wr40 die off v).rsets = s.rsets ∧ (s.wr40 die off v).mirrors = s.mirrors ∧
    (s.wr40 die off v).scns = s.scns ∧ (s.wr40 die off v).ckss = s.ckss ∧ (s.wr40 die off v).sweeps = s.sweeps ∧
    (s.wr40 die off v).lsrs = s.lsrs ∧ (s.wr40 die off v).rgc = s.rgc ∧ (s.wr40 die off v).prof = s.prof ∧
    (s.wr40 die off v).axes = s.axes ∧ (s.wr40 die off v).thms = s.thms ∧ (s.wr40 die off v).thm = s.thm ∧
    (s.wr40 die off v).plk = s.plk ∧ (s.wr40 die off v).ports = s.ports ∧ (s.wr40 die off v).svc = s.svc ∧
    (s.wr40 die off v).boot = s.boot ∧ (s.wr40 die off v).lov = s.lov ∧ (s.wr40 die off v).bay = s.bay := by
  and_intros <;> rfl

end Sys2Proof.Machine
end

