-- ==== Sys2Proof/Laws/Frame.lean ====
section
/-! SUPPORT. How the frame predicates of Safety combine, and what the register operations keep. -/

namespace Sys2Proof.Machine

set_option Elab.async false

/-- A field of a 20-bit register inside its die's window. -/
def Fld.ok (f : Fld) : Bool := decide (f.hi < 20) && decide (f.off < 0x100000)

theorem Fld.ok_iff (f : Fld) : f.ok = true ↔ f.hi < 20 ∧ f.off < 0x100000 := by simp [Fld.ok]

theorem State.rd_wr_apart (s : State) (d e : Nat) (f g : Fld) (v : Nat) (hf : f.ok = true) (hg : g.off < 0x100000)
    (h : e = d → f.apart g) : (s.wr d f v).rd e g = s.rd e g := by
  obtain ⟨h1, h2⟩ := (Fld.ok_iff f).mp hf
  by_cases hde : e = d
  · by_cases ho : f.off = g.off
    · rcases h hde with h | h | h
      · exact absurd ho h
      · exact State.rd_wr_bits s d e f g v h1 ho (.inr h)
      · exact State.rd_wr_bits s d e f g v h1 ho (.inl h)
    · exact State.rd_wr_off s d e f g v ho h2 hg
  · exact State.rd_wr_die s d e f g v (Ne.symm hde) h2 hg

theorem regsKept.refl (s : State) (d : Nat) (fs : List Fld) : regsKept s s d fs := fun _ _ _ _ => rfl

theorem regsKept.trans {s t u : State} {d : Nat} {fs : List Fld} (h : regsKept s t d fs) (h' : regsKept t u d fs) : regsKept s u d fs :=
  fun e g hg ha => (h' e g hg ha).trans (h e g hg ha)

theorem regsKept.mono {s t : State} {d : Nat} {fs gs : List Fld} (h : regsKept s t d fs) (hs : fs ⊆ gs) : regsKept s t d gs :=
  fun e g hg ha => h e g hg fun hd f hf => ha hd f (hs hf)

theorem regsKept_wr (s : State) (d : Nat) (f : Fld) (v : Nat) (fs : List Fld) (hm : f ∈ fs) (hf : f.ok = true) :
    regsKept s (s.wr d f v) d fs := fun e g hg ha =>
  State.rd_wr_apart s d e f g v hf hg fun hd => ha hd f hm

theorem diesKept.refl (s : State) (d : Nat) : diesKept s s d := fun _ _ _ _ => rfl

theorem diesKept.trans {s t u : State} {d : Nat} (h : diesKept s t d) (h' : diesKept t u d) : diesKept s u d :=
  fun e g hg he => (h' e g hg he).trans (h e g hg he)

theorem regsKept.dies {s t : State} {d : Nat} {fs : List Fld} (h : regsKept s t d fs) : diesKept s t d :=
  fun e g hg he => h e g hg fun hd => absurd hd he

theorem onlyRegs.refl (s : State) : onlyRegs s s := rfl

theorem onlyRegs.trans {s t u : State} (h : onlyRegs s t) (h' : onlyRegs t u) : onlyRegs s u := by
  unfold onlyRegs at *
  rw [h'] ; rw [h]

theorem onlyRegs_wrWord (s : State) (d o : Nat) (w : Word) : onlyRegs s (s.wrWord d o w) := rfl

theorem onlyRegs_wr (s : State) (d : Nat) (f : Fld) (v : Nat) : onlyRegs s (s.wr d f v) := rfl

theorem clearAll_frame (s : State) (d : Nat) (fs gs : List Fld) (hs : fs ⊆ gs) (h : ∀ f ∈ fs, f.ok = true) :
    onlyRegs s (s.clearAll d fs) ∧ regsKept s (s.clearAll d fs) d gs := by
  induction fs generalizing s with
  | nil => exact ⟨onlyRegs.refl s, regsKept.refl s d gs⟩
  | cons f t ih =>
    have ih' := ih (s.wr d f 0) (fun x hx => hs (List.mem_cons_of_mem _ hx)) fun x hx => h x (List.mem_cons_of_mem _ hx)
    exact ⟨(onlyRegs_wr s d f 0).trans ih'.1,
      (regsKept_wr s d f 0 gs (hs (List.mem_cons_self ..)) (h f (List.mem_cons_self ..))).trans ih'.2⟩

theorem clearAll_keeps_zero (s : State) (d : Nat) (fs : List Fld) (g : Fld) (hg : g.ok = true) (h : ∀ f ∈ fs, f.ok = true)
    (ha : ∀ f ∈ fs, f = g ∨ f.apart g) (hz : s.rd d g = 0) : (s.clearAll d fs).rd d g = 0 := by
  induction fs generalizing s with
  | nil => exact hz
  | cons f t ih =>
    refine ih (s.wr d f 0) (fun x hx => h x (List.mem_cons_of_mem _ hx)) (fun x hx => ha x (List.mem_cons_of_mem _ hx)) ?_
    obtain ⟨g1, g2⟩ := (Fld.ok_iff g).mp hg
    rcases ha f (List.mem_cons_self ..) with rfl | hf
    · rw [State.rd_wr_same s d f 0 g1]; exact Nat.zero_mod _
    · rw [State.rd_wr_apart s d d f g 0 (h f (List.mem_cons_self ..)) g2 fun _ => hf]; exact hz

/-- Every field of the list reads zero after the list was cleared. -/
theorem clearAll_zero (s : State) (d : Nat) (fs : List Fld) (g : Fld) (hm : g ∈ fs) (h : ∀ f ∈ fs, f.ok = true)
    (ha : ∀ f ∈ fs, f = g ∨ f.apart g) : (s.clearAll d fs).rd d g = 0 := by
  induction fs generalizing s with
  | nil => cases hm
  | cons f t ih =>
    have h' : ∀ x ∈ t, x.ok = true := fun x hx => h x (List.mem_cons_of_mem _ hx)
    have ha' : ∀ x ∈ t, x = g ∨ x.apart g := fun x hx => ha x (List.mem_cons_of_mem _ hx)
    rcases List.mem_cons.mp hm with rfl | hm
    · refine clearAll_keeps_zero (s.wr d g 0) d t g (h g (List.mem_cons_self ..)) h' ha' ?_
      rw [State.rd_wr_same s d g 0 ((Fld.ok_iff g).mp (h g (List.mem_cons_self ..))).1]; exact Nat.zero_mod _
    · exact ih (s.wr d f 0) hm h' ha'

end Sys2Proof.Machine
end

