-- ==== Sys2Proof/Laws/Mem.lean ====
section
/-! SUPPORT. What the operations of an internal memory do where the memory is sound: reads find nothing, and a whole word goes in as it was. -/

namespace Sys2Proof.Machine

set_option Elab.async false

theorem getD_modify_same {α : Type} (l : List α) (d : Nat) (f : α → α) (a : α) (h : d < l.length) :
    (l.modify d f).getD d a = f (l.getD d a) := by simp [List.getD, h]

theorem getD_modify_other {α : Type} (l : List α) {d e : Nat} (f : α → α) (a : α) (h : e ≠ d) : (l.modify d f).getD e a = l.getD e a := by
  simp [List.getD, Ne.symm h]

theorem modify_eq_self {α : Type} (l : List α) (d : Nat) (f : α → α) (a : α) (h : f (l.getD d a) = l.getD d a) : l.modify d f = l := by
  apply List.ext_getElem?
  intro i
  rw [List.getElem?_modify]
  by_cases hi : d = i
  · subst hi
    by_cases hl : d < l.length
    · simp [List.getD, hl] at h ⊢; exact h
    · simp [List.getElem?_eq_none (Nat.le_of_not_lt hl)]
  · simp [hi]

theorem State.mem_modMem_same (s : State) (d : Nat) (f : Mems → Mems) (h : d < s.mems.length) : (s.modMem d f).mem d = f (s.mem d) :=
  getD_modify_same s.mems d f {} h

theorem State.mem_modMem_other (s : State) {d e : Nat} (f : Mems → Mems) (h : e ≠ d) : (s.modMem d f).mem e = s.mem e :=
  getD_modify_other s.mems f {} h

/-- A change that leaves a die's memories as they are leaves the state as it is. -/
theorem State.modMem_eq_self (s : State) (d : Nat) (f : Mems → Mems) (h : f (s.mem d) = s.mem d) : s.modMem d f = s := by
  unfold State.modMem
  rw [modify_eq_self s.mems d f {} h]

/-- A word of a sound memory stands as it was encoded. -/
theorem State.memErr_of_sound (s : State) {d m : Nat} (h : s.memSound d m) (w : Nat) : s.memErr d m w = 0 := by
  rw [State.memErr, h.1]; rfl

theorem State.merge_filter_of_sound (s : State) {d m : Nat} (h : s.memSound d m) (p : Nat → Bool) :
    ((s.mem d).merge.filter fun x => x.mem == m && p x.word) = [] :=
  List.filter_eq_nil_iff.mpr fun x hx => by simp [h.2 x hx]

/-- No held entry of a sound memory waits for a flush. -/
theorem State.flushMem_of_sound (s : State) {d m : Nat} (h : s.memSound d m) (p : Nat → Bool) : s.flushMem d m p = s := by
  simp [State.flushMem, s.merge_filter_of_sound h p, State.each]

theorem eccClass_zero : eccClass 0 = .clean := by decide

/-- A read of a sound memory finds nothing and changes nothing (R363, R364). -/
theorem State.memRead_of_sound (s : State) {d m : Nat} (h : s.memSound d m) (w : Nat) (kind : MemKind) : s.memRead d m w kind = (.clean, s) := by
  simp [State.memRead, s.flushMem_of_sound h, s.memErr_of_sound h, eccClass_zero]

theorem State.ctlRead_of_sound (s : State) {d m : Nat} (h : s.memSound d m) (lo hi copy : Nat) : s.ctlRead d m lo hi copy = s := by
  simp only [State.ctlRead, s.flushMem_of_sound h, h.1]; rfl

theorem State.useUnit_of_sound (s : State) {d : Nat} {u : StateUnit} (h : s.memSound d u.place.1) : s.useUnit d u = s := by
  simp [State.useUnit, s.memRead_of_sound h]

/-- A word without poison that is stored in a sound memory, with no flip armed, leaves no error and changes nothing (R365, R368). -/
theorem State.memStored_of_clean (s : State) {d m : Nat} (h : s.memClean d m) (w : Nat) : s.memStored d m w false = s := by
  have hset : s.setMemErr d m w 0 = s := s.modMem_eq_self d _ (by
    rw [modify_eq_self (s.mem d).errs m _ [] (by rw [h.1.1]; rfl)])
  simp [State.memStored, h.2, hset]

theorem State.keepUnit_of_clean (s : State) {d : Nat} {u : StateUnit} (h : s.memClean d u.place.1) : s.keepUnit d u = s := by
  simp [State.keepUnit, s.flushMem_of_sound h.1, s.memStored_of_clean h]

/-- A unit whose memory is clean before and after is changed as the change says, and nothing else. -/
theorem State.withUnit_of_clean (s : State) {d : Nat} {u : StateUnit} (f : State → State) (h : s.memSound d u.place.1)
    (h' : (f s).memClean d u.place.1) : s.withUnit d u f = f s := by
  simp [State.withUnit, s.useUnit_of_sound h, (f s).keepUnit_of_clean h']

/-- A stored word of a memory without an armed flip: its error is the poison mark or none, and other words keep theirs (R365, R366). -/
theorem State.memErr_memStored (s : State) {d m : Nat} (w : Nat) (poison : Bool) (hd : d < s.mems.length) (hm : m < (s.mem d).errs.length)
    (hf : (s.mem d).flip = none) (v : Nat) :
    (s.memStored d m w poison).memErr d m v = if v = w then (if poison then poisonMask else 0) else s.memErr d m v := by
  simp only [State.memStored, hf, State.setMemErr, State.memErr, State.mem_modMem_same s d _ hd, getD_modify_same _ m _ _ hm]
  by_cases hv : v = w
  · subst hv; simp
  · simp [hv, storeGet_set_other _ hv]

end Sys2Proof.Machine
end

