-- ==== Sys2Proof/WellFormed.lean ====
section
/-! DEFINITION. Which commands are well formed: each operand in the range that the manual gives its field (R2, R15, R454 and the register tables).
Measurements and times may be any number. -/

namespace Sys2Proof

/-- A number below a bound. -/
def below (v m : Nat) : Bool := decide (v < m)

/-- A die number of three bits (R2, R454). -/
def dieOk (d : Nat) : Bool := below d 8

/-- A station number (R2). -/
def stnOk (n : Nat) : Bool := decide (1 ≤ n) && below n 8

/-- Bytes, each below 256. -/
def bytesOk (l : List Nat) : Bool := l.all fun b => below b 256

/-- The operands are in range. -/
def Instr.wf : Instr → Bool
  | .resetNAssert _ _ => true
  | .resetNRelease o => below o.sel 4
  | .hostImageDelivered _ cals _ => (cals.all fun c => stnOk c.stn)
  | .hostImageTimeout => true
  | .positionBroadcast => true
  | .broadcastArrival n => stnOk n
  | .replicaAdvance n => stnOk n
  | .flitCrcFail n cls => stnOk n && below cls 4
  | .linkLoss n => stnOk n
  | .hubLinkLoss n => stnOk n
  | .encoderCount _ _ => true
  | .signalFault _ => true
  | .signalFaultClear _ => true
  | .wtbUpdate => true
  | .span => true
  | .preset => true
  | .capture => true
  | .rebaseline => true
  | .recal results => (results.all fun c => stnOk c.stn)
  | .wtbClearCounters => true
  | .mainsCrossing input _ _ => below input 2
  | .mainsLoss => true
  | .cueIssue die => dieOk die
  | .tickStampedApply die => dieOk die
  | .nop die => dieOk die
  | .frameStart die => dieOk die
  | .frameEnd die => dieOk die
  | .bankSwitch die => dieOk die
  | .regOp die => dieOk die
  | .event die => dieOk die
  | .listCtrlDisable die => dieOk die
  | .listCtrlEnable die => dieOk die
  | .listCtrlStop die => dieOk die
  | .markWindowOpen => true
  | .markWindowClose => true
  | .output => true
  | .heaterOn => true
  | .heaterOff => true
  | .sample die => dieOk die
  | .frameClose => true
  | .editRead die => dieOk die
  | .editWrite die => dieOk die
  | .editLink die => dieOk die
  | .listHeadWrite die list head => dieOk die && below list 16 && below head 4096
  | .listStop die list => dieOk die && below list 16
  | .cueClearCounters die => dieOk die
  | .cohTolWrite n v => stnOk n && below v 0x100000
  | .submit => true
  | .withdraw => true
  | .popDone => true
  | .frmClearCounters => true
  | .arm die => dieOk die
  | .switchCompletion die => dieOk die
  | .retireAtZeroSpeed => true
  | .rejectPulse k => below k 2
  | .descRead n => stnOk n
  | .descWrite n => stnOk n
  | .seal rset => below rset 256
  | .sealAcknowledged => true
  | .unseal rset => below rset 256
  | .commitWrite n c v => stnOk n && below c 8 && below v 0x100000
  | .bar2Read addr len => below addr 0x10000000 && below len 4097
  | .bar2Write addr bytes => below addr 0x10000000 && bytesOk bytes
  | .patchTilePlacement n => stnOk n
  | .rinClearCounters n => stnOk n
  | .mirrorUpdate n => stnOk n
  | .channelStart die ch => dieOk die && below ch 32
  | .resume die ch => dieOk die && below ch 32
  | .abort die ch => dieOk die && below ch 32
  | .xfrChClearCounters die ch => dieOk die && below ch 32
  | .burstIssue die ch => dieOk die && below ch 32
  | .burstCompletion die ch host => dieOk die && below ch 32 && bytesOk host
  | .burstRetry die ch => dieOk die && below ch 32
  | .descriptorComplete die ch => dieOk die && below ch 32
  | .sdescRead n => stnOk n
  | .sdescWrite n => stnOk n
  | .resMbpsWrite ch v => below ch 32 && below v 0x100000
  | .reqSelWrite ch v => below ch 32 && below v 0x100000
  | .resLimitWrite v => below v 0x100000
  | .scnStart n _ => stnOk n
  | .scnStop n => stnOk n
  | .scnClear n => stnOk n
  | .scnClearCounters n => stnOk n
  | .bd0Detection n _ => stnOk n
  | .bd1Detection n _ => stnOk n
  | .bdWindowClose n => stnOk n
  | .pickupZeroCrossing n _ _ _ => stnOk n
  | .sweepStart n => stnOk n
  | .sweepEnd n => stnOk n
  | .spinTmo n => stnOk n
  | .polyRampStep n => stnOk n
  | .lplApply n => stnOk n
  | .lplClearCounters n => stnOk n
  | .regWebWrite n _ v => stnOk n && below v 0x100000
  | .regLimWrite n v => stnOk n && below v 0x100000
  | .pxApply n => stnOk n
  | .cksPxClearCounters n => stnOk n
  | .cksSysClearCounters die => dieOk die
  | .pixelPllLossOfLock n => stnOk n
  | .systemPllLossOfLock => true
  | .refclkLoss die => dieOk die
  | .stationFabricPllLoss n => stnOk n
  | .relockAttempt n => stnOk n
  | .lockAcquired die _ => dieOk die
  | .dividerStep die _ => dieOk die
  | .systemPllRetry => true
  | .train n => stnOk n
  | .test n => stnOk n
  | .testStop n => stnOk n
  | .lsrClearCounters n => stnOk n
  | .farEndRelease n => stnOk n
  | .lsoHigh1us n => stnOk n
  | .linkUp n => stnOk n
  | .trainTmo n => stnOk n
  | .sweepFrameLaunch n => stnOk n
  | .pageSend n => stnOk n
  | .apcPulsePair n => stnOk n
  | .apcMeasurement n beam _ => stnOk n && below beam 40
  | .drvSafeoff n => stnOk n
  | .beamWatchdog n => stnOk n
  | .strayLight n _ _ => stnOk n
  | .reentryComplete n => stnOk n
  | .lsrDrvWrite n k v => stnOk n && below k 40 && below v 0x100000
  | .markEdge sensor _ _ _ => below sensor 8
  | .stretchPeriod => true
  | .resetEst => true
  | .popRaw => true
  | .rgcClearCounters => true
  | .corrWrite n _ v => stnOk n && below v 0x100000
  | .slotTimerTrigger die slot => dieOk die && below slot 48
  | .ownerEventTrigger die slot _ => dieOk die && below slot 48
  | .heldTriggerRelease die slot => dieOk die && below slot 48
  | .slotUpdate die _ _ => dieOk die
  | .slotStart die slot => dieOk die && below slot 48
  | .slotStop die slot => dieOk die && below slot 48
  | .slotClear die slot => dieOk die && below slot 48
  | .lpeClearCounters die => dieOk die
  | .limWrite die slot _ v => dieOk die && below slot 48 && below v 0x100000
  | .hvDischarge die ch => dieOk die && below ch.num 8
  | .chgForbidClear n => stnOk n
  | .heaterFire h => below h 4
  | .endGuard => true
  | .fuserTempSample j _ _ => below j 6
  | .readyTimer => true
  | .bandExit => true
  | .autoStandby => true
  | .warmup => true
  | .fsrStandby => true
  | .fsrOff => true
  | .fsrClear => true
  | .fsrClearCounters => true
  | .pwmPeriod die ch _ => dieOk die && below ch 5
  | .speedSample die ch => dieOk die && below ch 5
  | .follow die ch => dieOk die && below ch 5
  | .catchEnd die ch => dieOk die && below ch 5
  | .alignEnd die ch => dieOk die && below ch 5
  | .overcurrent die ch => dieOk die && below ch 5
  | .gateFault die ch => dieOk die && below ch 5
  | .busSample die v _ => dieOk die && below v 0x100000
  | .chopperFault _ => true
  | .busUndervoltage die => dieOk die
  | .holdEnd die ch => dieOk die && below ch 5
  | .mdrChStart die ch _ => dieOk die && below ch 5
  | .mdrChStop die ch => dieOk die && below ch 5
  | .mdrChClear die ch => dieOk die && below ch 5
  | .mdrChClearCounters die ch => dieOk die && below ch 5
  | .mdrClear die => dieOk die
  | .mdrClearCounters die => dieOk die
  | .profileStep _ => true
  | .axisTgtWrite x v => below x 8 && below v two40
  | .axisEnable x => below x 8
  | .axisDisable x => below x 8
  | .axisPreset x => below x 8
  | .axisClear x => below x 8
  | .axsAxClearCounters x => below x 8
  | .axsClearCounters => true
  | .thmConversion die _ => dieOk die
  | .thmExtSample n _ => stnOk n
  | .gateRise n _ => stnOk n
  | .warnEntry => true
  | .warnClear => true
  | .graceExpiry => true
  | .releaseExpiry => true
  | .critEntry => true
  | .finishPoint => true
  | .phaseSafe => true
  | .thmTrip die => dieOk die
  | .thmClearCounters => true
  | .faultReport => true
  | .latchedReaction die pos => dieOk die && below pos 20
  | .safeOffCommand die => dieOk die
  | .stopped => true
  | .shadowEnd _ _ => true
  | .faultNPulseEnd => true
  | .clearF => true
  | .fltClearCounters die => dieOk die
  | .mergeFlush die => dieOk die
  | .scrubRead die mem _ _ => dieOk die && below mem 8
  | .memArm die => dieOk die
  | .memDisarm die => dieOk die
  | .memClearCounters die => dieOk die
  | .recordWrite => true
  | .freeze => true
  | .unfreeze => true
  | .evrClearCounters => true
  | .evrWinRead _ => true
  | .evrCursorWrite slot word => below slot 4096 && below word 8
  | .archiveAppend => true
  | .codeWordWrite _ _ => true
  | .journalAppend typ len => below typ 256 && below len 256
  | .lookup => true
  | .compactJrn => true
  | .compactArc => true
  | .lovClearCounters => true
  | .stageDataAccess _ _ => true
  | .rdDataRead _ => true
  | .rdAddrWrite part cw => below part 8 && below cw 0x20000
  | .programA _ => true
  | .programB _ => true
  | .programRecovery _ => true
  | .selectA => true
  | .selectB => true
  | .clearFailedStartCount => true
  | .writeKeySlot => true
  | .revokeKeySlot => true
  | .raiseRollbackFloor => true
  | .unlockRecovery => true
  | .lockRecovery => true
  | .bayStandby => true
  | .powerDown => true
  | .pwrEnReassert => true
  | .clearTrip => true
  | .clearCause => true
  | .vmainFail _ => true
  | .vmainRise _ => true
  | .cover _ => true
  | .webWake quad => below quad 4
  | .bayTemp _ _ => true
  | .rtcAlarm => true
  | .externalWake => true
  | .rtcSecWrite _ lo => below lo 0x100000
  | .linkDown _ => true
  | .badBar0Access _ => true
  | .registerWrite die off v => dieOk die && below off 0x100000 && below (v.getD 0) 0x100000000
  | .vectorUnmask v => below v 64
  | .irqPendClear w mask => below w 4 && below mask 0x10000
  | .hifClearCounters => true
  | .statusReq => true
  | .ack seq => below seq 256
  | .mail seq payload _ => below seq 256 && bytesOk payload
  | .ackTimeout typ => below typ 256
  | .statusPeriod => true
  | .frameTransmitted => true
  | .pressLinkLost => true
  | .send len => below len 128
  | .pop => true
  | .plkClearCounters => true
  | .plkRxDataRead => true
  | .lineTrigger => true
  | .pulseEnd k => below k 6
  | .ispClearCounters => true
  | .webpulseEdge => true
  | .finClearCounters => true
  | .interlockOpen _ _ => true
  | .interlockClose => true
  | .motDlyExpiry => true
  | .interlockDiscrepancy => true
  | .serviceRead die wordOff _ _ => dieOk die && below wordOff 0x40000
  | .serviceWrite die wordOff data _ _ => dieOk die && below wordOff 0x40000 && below data 0x100000
  | .requestAbort => true
  | .svcClearCounters => true
  | .updateIr code => below code 256
  | .tapReset => true
  | .vbayLoss => true
  | .tagSent => true
  | .serviceResponseEnd => true

/-- The die, or the station, that a command names. -/
def Instr.die : Instr → Option Nat
  | .resetNAssert _ _ => none
  | .resetNRelease _ => none
  | .hostImageDelivered _ _ _ => none
  | .hostImageTimeout => none
  | .positionBroadcast => none
  | .broadcastArrival n => some n
  | .replicaAdvance n => some n
  | .flitCrcFail n _ => some n
  | .linkLoss n => some n
  | .hubLinkLoss n => some n
  | .encoderCount _ _ => none
  | .signalFault _ => none
  | .signalFaultClear _ => none
  | .wtbUpdate => none
  | .span => none
  | .preset => none
  | .capture => none
  | .rebaseline => none
  | .recal _ => none
  | .wtbClearCounters => none
  | .mainsCrossing _ _ _ => none
  | .mainsLoss => none
  | .cueIssue die => some die
  | .tickStampedApply die => some die
  | .nop die => some die
  | .frameStart die => some die
  | .frameEnd die => some die
  | .bankSwitch die => some die
  | .regOp die => some die
  | .event die => some die
  | .listCtrlDisable die => some die
  | .listCtrlEnable die => some die
  | .listCtrlStop die => some die
  | .markWindowOpen => none
  | .markWindowClose => none
  | .output => none
  | .heaterOn => none
  | .heaterOff => none
  | .sample die => some die
  | .frameClose => none
  | .editRead die => some die
  | .editWrite die => some die
  | .editLink die => some die
  | .listHeadWrite die _ _ => some die
  | .listStop die _ => some die
  | .cueClearCounters die => some die
  | .cohTolWrite n _ => some n
  | .submit => none
  | .withdraw => none
  | .popDone => none
  | .frmClearCounters => none
  | .arm die => some die
  | .switchCompletion die => some die
  | .retireAtZeroSpeed => none
  | .rejectPulse _ => none
  | .descRead n => some n
  | .descWrite n => some n
  | .seal _ => none
  | .sealAcknowledged => none
  | .unseal _ => none
  | .commitWrite n _ _ => some n
  | .bar2Read _ _ => none
  | .bar2Write _ _ => none
  | .patchTilePlacement n => some n
  | .rinClearCounters n => some n
  | .mirrorUpdate n => some n
  | .channelStart die _ => some die
  | .resume die _ => some die
  | .abort die _ => some die
  | .xfrChClearCounters die _ => some die
  | .burstIssue die _ => some die
  | .burstCompletion die _ _ => some die
  | .burstRetry die _ => some die
  | .descriptorComplete die _ => some die
  | .sdescRead n => some n
  | .sdescWrite n => some n
  | .resMbpsWrite _ _ => none
  | .reqSelWrite _ _ => none
  | .resLimitWrite _ => none
  | .scnStart n _ => some n
  | .scnStop n => some n
  | .scnClear n => some n
  | .scnClearCounters n => some n
  | .bd0Detection n _ => some n
  | .bd1Detection n _ => some n
  | .bdWindowClose n => some n
  | .pickupZeroCrossing n _ _ _ => some n
  | .sweepStart n => some n
  | .sweepEnd n => some n
  | .spinTmo n => some n
  | .polyRampStep n => some n
  | .lplApply n => some n
  | .lplClearCounters n => some n
  | .regWebWrite n _ _ => some n
  | .regLimWrite n _ => some n
  | .pxApply n => some n
  | .cksPxClearCounters n => some n
  | .cksSysClearCounters die => some die
  | .pixelPllLossOfLock n => some n
  | .systemPllLossOfLock => none
  | .refclkLoss die => some die
  | .stationFabricPllLoss n => some n
  | .relockAttempt n => some n
  | .lockAcquired die _ => some die
  | .dividerStep die _ => some die
  | .systemPllRetry => none
  | .train n => some n
  | .test n => some n
  | .testStop n => some n
  | .lsrClearCounters n => some n
  | .farEndRelease n => some n
  | .lsoHigh1us n => some n
  | .linkUp n => some n
  | .trainTmo n => some n
  | .sweepFrameLaunch n => some n
  | .pageSend n => some n
  | .apcPulsePair n => some n
  | .apcMeasurement n _ _ => some n
  | .drvSafeoff n => some n
  | .beamWatchdog n => some n
  | .strayLight n _ _ => some n
  | .reentryComplete n => some n
  | .lsrDrvWrite n _ _ => some n
  | .markEdge _ _ _ _ => none
  | .stretchPeriod => none
  | .resetEst => none
  | .popRaw => none
  | .rgcClearCounters => none
  | .corrWrite n _ _ => some n
  | .slotTimerTrigger die _ => some die
  | .ownerEventTrigger die _ _ => some die
  | .heldTriggerRelease die _ => some die
  | .slotUpdate die _ _ => some die
  | .slotStart die _ => some die
  | .slotStop die _ => some die
  | .slotClear die _ => some die
  | .lpeClearCounters die => some die
  | .limWrite die _ _ _ => some die
  | .hvDischarge die _ => some die
  | .chgForbidClear n => some n
  | .heaterFire _ => none
  | .endGuard => none
  | .fuserTempSample _ _ _ => none
  | .readyTimer => none
  | .bandExit => none
  | .autoStandby => none
  | .warmup => none
  | .fsrStandby => none
  | .fsrOff => none
  | .fsrClear => none
  | .fsrClearCounters => none
  | .pwmPeriod die _ _ => some die
  | .speedSample die _ => some die
  | .follow die _ => some die
  | .catchEnd die _ => some die
  | .alignEnd die _ => some die
  | .overcurrent die _ => some die
  | .gateFault die _ => some die
  | .busSample die _ _ => some die
  | .chopperFault _ => none
  | .busUndervoltage die => some die
  | .holdEnd die _ => some die
  | .mdrChStart die _ _ => some die
  | .mdrChStop die _ => some die
  | .mdrChClear die _ => some die
  | .mdrChClearCounters die _ => some die
  | .mdrClear die => some die
  | .mdrClearCounters die => some die
  | .profileStep _ => none
  | .axisTgtWrite _ _ => none
  | .axisEnable _ => none
  | .axisDisable _ => none
  | .axisPreset _ => none
  | .axisClear _ => none
  | .axsAxClearCounters _ => none
  | .axsClearCounters => none
  | .thmConversion die _ => some die
  | .thmExtSample n _ => some n
  | .gateRise n _ => some n
  | .warnEntry => none
  | .warnClear => none
  | .graceExpiry => none
  | .releaseExpiry => none
  | .critEntry => none
  | .finishPoint => none
  | .phaseSafe => none
  | .thmTrip die => some die
  | .thmClearCounters => none
  | .faultReport => none
  | .latchedReaction die _ => some die
  | .safeOffCommand die => some die
  | .stopped => none
  | .shadowEnd _ _ => none
  | .faultNPulseEnd => none
  | .clearF => none
  | .fltClearCounters die => some die
  | .mergeFlush die => some die
  | .scrubRead die _ _ _ => some die
  | .memArm die => some die
  | .memDisarm die => some die
  | .memClearCounters die => some die
  | .recordWrite => none
  | .freeze => none
  | .unfreeze => none
  | .evrClearCounters => none
  | .evrWinRead _ => none
  | .evrCursorWrite _ _ => none
  | .archiveAppend => none
  | .codeWordWrite _ _ => none
  | .journalAppend _ _ => none
  | .lookup => none
  | .compactJrn => none
  | .compactArc => none
  | .lovClearCounters => none
  | .stageDataAccess _ _ => none
  | .rdDataRead _ => none
  | .rdAddrWrite _ _ => none
  | .programA _ => none
  | .programB _ => none
  | .programRecovery _ => none
  | .selectA => none
  | .selectB => none
  | .clearFailedStartCount => none
  | .writeKeySlot => none
  | .revokeKeySlot => none
  | .raiseRollbackFloor => none
  | .unlockRecovery => none
  | .lockRecovery => none
  | .bayStandby => none
  | .powerDown => none
  | .pwrEnReassert => none
  | .clearTrip => none
  | .clearCause => none
  | .vmainFail _ => none
  | .vmainRise _ => none
  | .cover _ => none
  | .webWake _ => none
  | .bayTemp _ _ => none
  | .rtcAlarm => none
  | .externalWake => none
  | .rtcSecWrite _ _ => none
  | .linkDown _ => none
  | .badBar0Access _ => none
  | .registerWrite die _ _ => some die
  | .vectorUnmask _ => none
  | .irqPendClear _ _ => none
  | .hifClearCounters => none
  | .statusReq => none
  | .ack _ => none
  | .mail _ _ _ => none
  | .ackTimeout _ => none
  | .statusPeriod => none
  | .frameTransmitted => none
  | .pressLinkLost => none
  | .send _ => none
  | .pop => none
  | .plkClearCounters => none
  | .plkRxDataRead => none
  | .lineTrigger => none
  | .pulseEnd _ => none
  | .ispClearCounters => none
  | .webpulseEdge => none
  | .finClearCounters => none
  | .interlockOpen _ _ => none
  | .interlockClose => none
  | .motDlyExpiry => none
  | .interlockDiscrepancy => none
  | .serviceRead die _ _ _ => some die
  | .serviceWrite die _ _ _ _ => some die
  | .requestAbort => none
  | .svcClearCounters => none
  | .updateIr _ => none
  | .tapReset => none
  | .vbayLoss => none
  | .tagSent => none
  | .serviceResponseEnd => none

end Sys2Proof
end

