-- ==== Sys2Proof/Laws/PerInstr.lean ====
section
/-! SUPPORT. Statements about each command as syntax, one lemma per constructor. -/

namespace Sys2Proof.Laws

set_option Elab.async false

theorem stnOk_lt {n : Nat} (h : stnOk n = true) : n < 8 := by
  simp only [stnOk, below, Bool.and_eq_true, decide_eq_true_eq] at h; exact h.2

theorem dieOk_lt {d : Nat} (h : dieOk d = true) : d < 8 := by
  simpa [dieOk, below] using h

/-- The die or station that a well-formed command names is one of the eight dies of R2. -/
def Row.Statement (i : Instr) : Prop := i.wf = true → ∀ d ∈ i.die, d < 8

/-- A command that names no die. -/
theorem row_none {i : Instr} (h : i.die = none) : Row.Statement i := by
  intro _ d hd; rw [h] at hd; cases hd

/-- A command whose well-formedness bounds the die that it names. -/
theorem row_some {i : Instr} {k : Nat} (h : i.die = some k) (hk : i.wf = true → k < 8) : Row.Statement i := by
  intro hw d hd; rw [h] at hd; cases hd; exact hk hw

theorem Row.resetNAssert lowNs midWrite : Row.Statement (.resetNAssert lowNs midWrite) := row_none rfl
theorem Row.resetNRelease o : Row.Statement (.resetNRelease o) := row_none rfl
theorem Row.hostImageDelivered trained cals memUe : Row.Statement (.hostImageDelivered trained cals memUe) := row_none rfl
theorem Row.hostImageTimeout : Row.Statement .hostImageTimeout := row_none rfl
theorem Row.positionBroadcast : Row.Statement .positionBroadcast := row_none rfl
theorem Row.broadcastArrival n : Row.Statement (.broadcastArrival n) := row_some rfl stnOk_lt
theorem Row.replicaAdvance n : Row.Statement (.replicaAdvance n) := row_some rfl stnOk_lt
theorem Row.flitCrcFail n cls : Row.Statement (.flitCrcFail n cls) :=
  row_some rfl fun h => stnOk_lt (by simp only [Instr.wf, Bool.and_eq_true] at h; exact h.1)
theorem Row.linkLoss n : Row.Statement (.linkLoss n) := row_some rfl stnOk_lt
theorem Row.hubLinkLoss n : Row.Statement (.hubLinkLoss n) := row_some rfl stnOk_lt
theorem Row.encoderCount enc ev : Row.Statement (.encoderCount enc ev) := row_none rfl
theorem Row.signalFault enc : Row.Statement (.signalFault enc) := row_none rfl
theorem Row.signalFaultClear enc : Row.Statement (.signalFaultClear enc) := row_none rfl
theorem Row.wtbUpdate : Row.Statement .wtbUpdate := row_none rfl
theorem Row.span : Row.Statement .span := row_none rfl
theorem Row.preset : Row.Statement .preset := row_none rfl
theorem Row.capture : Row.Statement .capture := row_none rfl
theorem Row.rebaseline : Row.Statement .rebaseline := row_none rfl
theorem Row.recal results : Row.Statement (.recal results) := row_none rfl
theorem Row.wtbClearCounters : Row.Statement .wtbClearCounters := row_none rfl
theorem Row.mainsCrossing input t vrms : Row.Statement (.mainsCrossing input t vrms) := row_none rfl
theorem Row.mainsLoss : Row.Statement .mainsLoss := row_none rfl
theorem Row.cueIssue die : Row.Statement (.cueIssue die) := row_some rfl dieOk_lt
theorem Row.tickStampedApply die : Row.Statement (.tickStampedApply die) := row_some rfl dieOk_lt
theorem Row.nop die : Row.Statement (.nop die) := row_some rfl dieOk_lt
theorem Row.frameStart die : Row.Statement (.frameStart die) := row_some rfl dieOk_lt
theorem Row.frameEnd die : Row.Statement (.frameEnd die) := row_some rfl dieOk_lt
theorem Row.bankSwitch die : Row.Statement (.bankSwitch die) := row_some rfl dieOk_lt
theorem Row.regOp die : Row.Statement (.regOp die) := row_some rfl dieOk_lt
theorem Row.event die : Row.Statement (.event die) := row_some rfl dieOk_lt
theorem Row.listCtrlDisable die : Row.Statement (.listCtrlDisable die) := row_some rfl dieOk_lt
theorem Row.listCtrlEnable die : Row.Statement (.listCtrlEnable die) := row_some rfl dieOk_lt
theorem Row.listCtrlStop die : Row.Statement (.listCtrlStop die) := row_some rfl dieOk_lt
theorem Row.markWindowOpen : Row.Statement .markWindowOpen := row_none rfl
theorem Row.markWindowClose : Row.Statement .markWindowClose := row_none rfl
theorem Row.output : Row.Statement .output := row_none rfl
theorem Row.heaterOn : Row.Statement .heaterOn := row_none rfl
theorem Row.heaterOff : Row.Statement .heaterOff := row_none rfl
theorem Row.sample die : Row.Statement (.sample die) := row_some rfl dieOk_lt
theorem Row.frameClose : Row.Statement .frameClose := row_none rfl
theorem Row.editRead die : Row.Statement (.editRead die) := row_some rfl dieOk_lt
theorem Row.editWrite die : Row.Statement (.editWrite die) := row_some rfl dieOk_lt
theorem Row.editLink die : Row.Statement (.editLink die) := row_some rfl dieOk_lt
theorem Row.listHeadWrite die list head : Row.Statement (.listHeadWrite die list head) :=
  row_some rfl fun h => dieOk_lt (by simp only [Instr.wf, Bool.and_eq_true] at h; exact h.1.1)
theorem Row.listStop die list : Row.Statement (.listStop die list) :=
  row_some rfl fun h => dieOk_lt (by simp only [Instr.wf, Bool.and_eq_true] at h; exact h.1)
theorem Row.cueClearCounters die : Row.Statement (.cueClearCounters die) := row_some rfl dieOk_lt
theorem Row.cohTolWrite n v : Row.Statement (.cohTolWrite n v) :=
  row_some rfl fun h => stnOk_lt (by simp only [Instr.wf, Bool.and_eq_true] at h; exact h.1)
theorem Row.submit : Row.Statement .submit := row_none rfl
theorem Row.withdraw : Row.Statement .withdraw := row_none rfl
theorem Row.popDone : Row.Statement .popDone := row_none rfl
theorem Row.frmClearCounters : Row.Statement .frmClearCounters := row_none rfl
theorem Row.arm die : Row.Statement (.arm die) := row_some rfl dieOk_lt
theorem Row.switchCompletion die : Row.Statement (.switchCompletion die) := row_some rfl dieOk_lt
theorem Row.retireAtZeroSpeed : Row.Statement .retireAtZeroSpeed := row_none rfl
theorem Row.rejectPulse k : Row.Statement (.rejectPulse k) := row_none rfl
theorem Row.descRead n : Row.Statement (.descRead n) := row_some rfl stnOk_lt
theorem Row.descWrite n : Row.Statement (.descWrite n) := row_some rfl stnOk_lt
theorem Row.seal rset : Row.Statement (.seal rset) := row_none rfl
theorem Row.sealAcknowledged : Row.Statement .sealAcknowledged := row_none rfl
theorem Row.unseal rset : Row.Statement (.unseal rset) := row_none rfl
theorem Row.commitWrite n c v : Row.Statement (.commitWrite n c v) :=
  row_some rfl fun h => stnOk_lt (by simp only [Instr.wf, Bool.and_eq_true] at h; exact h.1.1)
theorem Row.bar2Read addr len : Row.Statement (.bar2Read addr len) := row_none rfl
theorem Row.bar2Write addr bytes : Row.Statement (.bar2Write addr bytes) := row_none rfl
theorem Row.patchTilePlacement n : Row.Statement (.patchTilePlacement n) := row_some rfl stnOk_lt
theorem Row.rinClearCounters n : Row.Statement (.rinClearCounters n) := row_some rfl stnOk_lt
theorem Row.mirrorUpdate n : Row.Statement (.mirrorUpdate n) := row_some rfl stnOk_lt
theorem Row.channelStart die ch : Row.Statement (.channelStart die ch) :=
  row_some rfl fun h => dieOk_lt (by simp only [Instr.wf, Bool.and_eq_true] at h; exact h.1)
theorem Row.resume die ch : Row.Statement (.resume die ch) :=
  row_some rfl fun h => dieOk_lt (by simp only [Instr.wf, Bool.and_eq_true] at h; exact h.1)
theorem Row.abort die ch : Row.Statement (.abort die ch) :=
  row_some rfl fun h => dieOk_lt (by simp only [Instr.wf, Bool.and_eq_true] at h; exact h.1)
theorem Row.xfrChClearCounters die ch : Row.Statement (.xfrChClearCounters die ch) :=
  row_some rfl fun h => dieOk_lt (by simp only [Instr.wf, Bool.and_eq_true] at h; exact h.1)
theorem Row.burstIssue die ch : Row.Statement (.burstIssue die ch) :=
  row_some rfl fun h => dieOk_lt (by simp only [Instr.wf, Bool.and_eq_true] at h; exact h.1)
theorem Row.burstCompletion die ch host : Row.Statement (.burstCompletion die ch host) :=
  row_some rfl fun h => dieOk_lt (by simp only [Instr.wf, Bool.and_eq_true] at h; exact h.1.1)
theorem Row.burstRetry die ch : Row.Statement (.burstRetry die ch) :=
  row_some rfl fun h => dieOk_lt (by simp only [Instr.wf, Bool.and_eq_true] at h; exact h.1)
theorem Row.descriptorComplete die ch : Row.Statement (.descriptorComplete die ch) :=
  row_some rfl fun h => dieOk_lt (by simp only [Instr.wf, Bool.and_eq_true] at h; exact h.1)
theorem Row.sdescRead n : Row.Statement (.sdescRead n) := row_some rfl stnOk_lt
theorem Row.sdescWrite n : Row.Statement (.sdescWrite n) := row_some rfl stnOk_lt
theorem Row.resMbpsWrite ch v : Row.Statement (.resMbpsWrite ch v) := row_none rfl
theorem Row.reqSelWrite ch v : Row.Statement (.reqSelWrite ch v) := row_none rfl
theorem Row.resLimitWrite v : Row.Statement (.resLimitWrite v) := row_none rfl
theorem Row.scnStart n offset : Row.Statement (.scnStart n offset) := row_some rfl stnOk_lt
theorem Row.scnStop n : Row.Statement (.scnStop n) := row_some rfl stnOk_lt
theorem Row.scnClear n : Row.Statement (.scnClear n) := row_some rfl stnOk_lt
theorem Row.scnClearCounters n : Row.Statement (.scnClearCounters n) := row_some rfl stnOk_lt
theorem Row.bd0Detection n t : Row.Statement (.bd0Detection n t) := row_some rfl stnOk_lt
theorem Row.bd1Detection n t : Row.Statement (.bd1Detection n t) := row_some rfl stnOk_lt
theorem Row.bdWindowClose n : Row.Statement (.bdWindowClose n) := row_some rfl stnOk_lt
theorem Row.pickupZeroCrossing n t rising amp : Row.Statement (.pickupZeroCrossing n t rising amp) := row_some rfl stnOk_lt
theorem Row.sweepStart n : Row.Statement (.sweepStart n) := row_some rfl stnOk_lt
theorem Row.sweepEnd n : Row.Statement (.sweepEnd n) := row_some rfl stnOk_lt
theorem Row.spinTmo n : Row.Statement (.spinTmo n) := row_some rfl stnOk_lt
theorem Row.polyRampStep n : Row.Statement (.polyRampStep n) := row_some rfl stnOk_lt
theorem Row.lplApply n : Row.Statement (.lplApply n) := row_some rfl stnOk_lt
theorem Row.lplClearCounters n : Row.Statement (.lplClearCounters n) := row_some rfl stnOk_lt
theorem Row.regWebWrite n scan v : Row.Statement (.regWebWrite n scan v) :=
  row_some rfl fun h => stnOk_lt (by simp only [Instr.wf, Bool.and_eq_true] at h; exact h.1)
theorem Row.regLimWrite n v : Row.Statement (.regLimWrite n v) :=
  row_some rfl fun h => stnOk_lt (by simp only [Instr.wf, Bool.and_eq_true] at h; exact h.1)
theorem Row.pxApply n : Row.Statement (.pxApply n) := row_some rfl stnOk_lt
theorem Row.cksPxClearCounters n : Row.Statement (.cksPxClearCounters n) := row_some rfl stnOk_lt
theorem Row.cksSysClearCounters die : Row.Statement (.cksSysClearCounters die) := row_some rfl dieOk_lt
theorem Row.pixelPllLossOfLock n : Row.Statement (.pixelPllLossOfLock n) := row_some rfl stnOk_lt
theorem Row.systemPllLossOfLock : Row.Statement .systemPllLossOfLock := row_none rfl
theorem Row.refclkLoss die : Row.Statement (.refclkLoss die) := row_some rfl dieOk_lt
theorem Row.stationFabricPllLoss n : Row.Statement (.stationFabricPllLoss n) := row_some rfl stnOk_lt
theorem Row.relockAttempt n : Row.Statement (.relockAttempt n) := row_some rfl stnOk_lt
theorem Row.lockAcquired die px : Row.Statement (.lockAcquired die px) := row_some rfl dieOk_lt
theorem Row.dividerStep die px : Row.Statement (.dividerStep die px) := row_some rfl dieOk_lt
theorem Row.systemPllRetry : Row.Statement .systemPllRetry := row_none rfl
theorem Row.train n : Row.Statement (.train n) := row_some rfl stnOk_lt
theorem Row.test n : Row.Statement (.test n) := row_some rfl stnOk_lt
theorem Row.testStop n : Row.Statement (.testStop n) := row_some rfl stnOk_lt
theorem Row.lsrClearCounters n : Row.Statement (.lsrClearCounters n) := row_some rfl stnOk_lt
theorem Row.farEndRelease n : Row.Statement (.farEndRelease n) := row_some rfl stnOk_lt
theorem Row.lsoHigh1us n : Row.Statement (.lsoHigh1us n) := row_some rfl stnOk_lt
theorem Row.linkUp n : Row.Statement (.linkUp n) := row_some rfl stnOk_lt
theorem Row.trainTmo n : Row.Statement (.trainTmo n) := row_some rfl stnOk_lt
theorem Row.sweepFrameLaunch n : Row.Statement (.sweepFrameLaunch n) := row_some rfl stnOk_lt
theorem Row.pageSend n : Row.Statement (.pageSend n) := row_some rfl stnOk_lt
theorem Row.apcPulsePair n : Row.Statement (.apcPulsePair n) := row_some rfl stnOk_lt
theorem Row.apcMeasurement n beam meas : Row.Statement (.apcMeasurement n beam meas) :=
  row_some rfl fun h => stnOk_lt (by simp only [Instr.wf, Bool.and_eq_true] at h; exact h.1)
theorem Row.drvSafeoff n : Row.Statement (.drvSafeoff n) := row_some rfl stnOk_lt
theorem Row.beamWatchdog n : Row.Statement (.beamWatchdog n) := row_some rfl stnOk_lt
theorem Row.strayLight n reading ns : Row.Statement (.strayLight n reading ns) := row_some rfl stnOk_lt
theorem Row.reentryComplete n : Row.Statement (.reentryComplete n) := row_some rfl stnOk_lt
theorem Row.lsrDrvWrite n k v : Row.Statement (.lsrDrvWrite n k v) :=
  row_some rfl fun h => stnOk_lt (by simp only [Instr.wf, Bool.and_eq_true] at h; exact h.1.1)
theorem Row.markEdge sensor rising t hold : Row.Statement (.markEdge sensor rising t hold) := row_none rfl
theorem Row.stretchPeriod : Row.Statement .stretchPeriod := row_none rfl
theorem Row.resetEst : Row.Statement .resetEst := row_none rfl
theorem Row.popRaw : Row.Statement .popRaw := row_none rfl
theorem Row.rgcClearCounters : Row.Statement .rgcClearCounters := row_none rfl
theorem Row.corrWrite n scan v : Row.Statement (.corrWrite n scan v) :=
  row_some rfl fun h => stnOk_lt (by simp only [Instr.wf, Bool.and_eq_true] at h; exact h.1)
theorem Row.slotTimerTrigger die slot : Row.Statement (.slotTimerTrigger die slot) :=
  row_some rfl fun h => dieOk_lt (by simp only [Instr.wf, Bool.and_eq_true] at h; exact h.1)
theorem Row.ownerEventTrigger die slot own : Row.Statement (.ownerEventTrigger die slot own) :=
  row_some rfl fun h => dieOk_lt (by simp only [Instr.wf, Bool.and_eq_true] at h; exact h.1)
theorem Row.heldTriggerRelease die slot : Row.Statement (.heldTriggerRelease die slot) :=
  row_some rfl fun h => dieOk_lt (by simp only [Instr.wf, Bool.and_eq_true] at h; exact h.1)
theorem Row.slotUpdate die adc valid : Row.Statement (.slotUpdate die adc valid) := row_some rfl dieOk_lt
theorem Row.slotStart die slot : Row.Statement (.slotStart die slot) :=
  row_some rfl fun h => dieOk_lt (by simp only [Instr.wf, Bool.and_eq_true] at h; exact h.1)
theorem Row.slotStop die slot : Row.Statement (.slotStop die slot) :=
  row_some rfl fun h => dieOk_lt (by simp only [Instr.wf, Bool.and_eq_true] at h; exact h.1)
theorem Row.slotClear die slot : Row.Statement (.slotClear die slot) :=
  row_some rfl fun h => dieOk_lt (by simp only [Instr.wf, Bool.and_eq_true] at h; exact h.1)
theorem Row.lpeClearCounters die : Row.Statement (.lpeClearCounters die) := row_some rfl dieOk_lt
theorem Row.limWrite die slot high v : Row.Statement (.limWrite die slot high v) :=
  row_some rfl fun h => dieOk_lt (by simp only [Instr.wf, Bool.and_eq_true] at h; exact h.1.1)
theorem Row.hvDischarge die ch : Row.Statement (.hvDischarge die ch) :=
  row_some rfl fun h => dieOk_lt (by simp only [Instr.wf, Bool.and_eq_true] at h; exact h.1)
theorem Row.chgForbidClear n : Row.Statement (.chgForbidClear n) := row_some rfl stnOk_lt
theorem Row.heaterFire h : Row.Statement (.heaterFire h) := row_none rfl
theorem Row.endGuard : Row.Statement .endGuard := row_none rfl
theorem Row.fuserTempSample j t inRange : Row.Statement (.fuserTempSample j t inRange) := row_none rfl
theorem Row.readyTimer : Row.Statement .readyTimer := row_none rfl
theorem Row.bandExit : Row.Statement .bandExit := row_none rfl
theorem Row.autoStandby : Row.Statement .autoStandby := row_none rfl
theorem Row.warmup : Row.Statement .warmup := row_none rfl
theorem Row.fsrStandby : Row.Statement .fsrStandby := row_none rfl
theorem Row.fsrOff : Row.Statement .fsrOff := row_none rfl
theorem Row.fsrClear : Row.Statement .fsrClear := row_none rfl
theorem Row.fsrClearCounters : Row.Statement .fsrClearCounters := row_none rfl
theorem Row.pwmPeriod die ch m : Row.Statement (.pwmPeriod die ch m) :=
  row_some rfl fun h => dieOk_lt (by simp only [Instr.wf, Bool.and_eq_true] at h; exact h.1)
theorem Row.speedSample die ch : Row.Statement (.speedSample die ch) :=
  row_some rfl fun h => dieOk_lt (by simp only [Instr.wf, Bool.and_eq_true] at h; exact h.1)
theorem Row.follow die ch : Row.Statement (.follow die ch) :=
  row_some rfl fun h => dieOk_lt (by simp only [Instr.wf, Bool.and_eq_true] at h; exact h.1)
theorem Row.catchEnd die ch : Row.Statement (.catchEnd die ch) :=
  row_some rfl fun h => dieOk_lt (by simp only [Instr.wf, Bool.and_eq_true] at h; exact h.1)
theorem Row.alignEnd die ch : Row.Statement (.alignEnd die ch) :=
  row_some rfl fun h => dieOk_lt (by simp only [Instr.wf, Bool.and_eq_true] at h; exact h.1)
theorem Row.overcurrent die ch : Row.Statement (.overcurrent die ch) :=
  row_some rfl fun h => dieOk_lt (by simp only [Instr.wf, Bool.and_eq_true] at h; exact h.1)
theorem Row.gateFault die ch : Row.Statement (.gateFault die ch) :=
  row_some rfl fun h => dieOk_lt (by simp only [Instr.wf, Bool.and_eq_true] at h; exact h.1)
theorem Row.busSample die v chopI : Row.Statement (.busSample die v chopI) :=
  row_some rfl fun h => dieOk_lt (by simp only [Instr.wf, Bool.and_eq_true] at h; exact h.1)
theorem Row.chopperFault kind : Row.Statement (.chopperFault kind) := row_none rfl
theorem Row.busUndervoltage die : Row.Statement (.busUndervoltage die) := row_some rfl dieOk_lt
theorem Row.holdEnd die ch : Row.Statement (.holdEnd die ch) :=
  row_some rfl fun h => dieOk_lt (by simp only [Instr.wf, Bool.and_eq_true] at h; exact h.1)
theorem Row.mdrChStart die ch offset : Row.Statement (.mdrChStart die ch offset) :=
  row_some rfl fun h => dieOk_lt (by simp only [Instr.wf, Bool.and_eq_true] at h; exact h.1)
theorem Row.mdrChStop die ch : Row.Statement (.mdrChStop die ch) :=
  row_some rfl fun h => dieOk_lt (by simp only [Instr.wf, Bool.and_eq_true] at h; exact h.1)
theorem Row.mdrChClear die ch : Row.Statement (.mdrChClear die ch) :=
  row_some rfl fun h => dieOk_lt (by simp only [Instr.wf, Bool.and_eq_true] at h; exact h.1)
theorem Row.mdrChClearCounters die ch : Row.Statement (.mdrChClearCounters die ch) :=
  row_some rfl fun h => dieOk_lt (by simp only [Instr.wf, Bool.and_eq_true] at h; exact h.1)
theorem Row.mdrClear die : Row.Statement (.mdrClear die) := row_some rfl dieOk_lt
theorem Row.mdrClearCounters die : Row.Statement (.mdrClearCounters die) := row_some rfl dieOk_lt
theorem Row.profileStep replies : Row.Statement (.profileStep replies) := row_none rfl
theorem Row.axisTgtWrite x v : Row.Statement (.axisTgtWrite x v) := row_none rfl
theorem Row.axisEnable x : Row.Statement (.axisEnable x) := row_none rfl
theorem Row.axisDisable x : Row.Statement (.axisDisable x) := row_none rfl
theorem Row.axisPreset x : Row.Statement (.axisPreset x) := row_none rfl
theorem Row.axisClear x : Row.Statement (.axisClear x) := row_none rfl
theorem Row.axsAxClearCounters x : Row.Statement (.axsAxClearCounters x) := row_none rfl
theorem Row.axsClearCounters : Row.Statement .axsClearCounters := row_none rfl
theorem Row.thmConversion die temps : Row.Statement (.thmConversion die temps) := row_some rfl dieOk_lt
theorem Row.thmExtSample n fracs : Row.Statement (.thmExtSample n fracs) := row_some rfl stnOk_lt
theorem Row.gateRise n charge : Row.Statement (.gateRise n charge) := row_some rfl stnOk_lt
theorem Row.warnEntry : Row.Statement .warnEntry := row_none rfl
theorem Row.warnClear : Row.Statement .warnClear := row_none rfl
theorem Row.graceExpiry : Row.Statement .graceExpiry := row_none rfl
theorem Row.releaseExpiry : Row.Statement .releaseExpiry := row_none rfl
theorem Row.critEntry : Row.Statement .critEntry := row_none rfl
theorem Row.finishPoint : Row.Statement .finishPoint := row_none rfl
theorem Row.phaseSafe : Row.Statement .phaseSafe := row_none rfl
theorem Row.thmTrip die : Row.Statement (.thmTrip die) := row_some rfl dieOk_lt
theorem Row.thmClearCounters : Row.Statement .thmClearCounters := row_none rfl
theorem Row.faultReport : Row.Statement .faultReport := row_none rfl
theorem Row.latchedReaction die pos : Row.Statement (.latchedReaction die pos) :=
  row_some rfl fun h => dieOk_lt (by simp only [Instr.wf, Bool.and_eq_true] at h; exact h.1)
theorem Row.safeOffCommand die : Row.Statement (.safeOffCommand die) := row_some rfl dieOk_lt
theorem Row.stopped : Row.Statement .stopped := row_none rfl
theorem Row.shadowEnd sh still : Row.Statement (.shadowEnd sh still) := row_none rfl
theorem Row.faultNPulseEnd : Row.Statement .faultNPulseEnd := row_none rfl
theorem Row.clearF : Row.Statement .clearF := row_none rfl
theorem Row.fltClearCounters die : Row.Statement (.fltClearCounters die) := row_some rfl dieOk_lt
theorem Row.mergeFlush die : Row.Statement (.mergeFlush die) := row_some rfl dieOk_lt
theorem Row.scrubRead die mem upset last : Row.Statement (.scrubRead die mem upset last) :=
  row_some rfl fun h => dieOk_lt (by simp only [Instr.wf, Bool.and_eq_true] at h; exact h.1)
theorem Row.memArm die : Row.Statement (.memArm die) := row_some rfl dieOk_lt
theorem Row.memDisarm die : Row.Statement (.memDisarm die) := row_some rfl dieOk_lt
theorem Row.memClearCounters die : Row.Statement (.memClearCounters die) := row_some rfl dieOk_lt
theorem Row.recordWrite : Row.Statement .recordWrite := row_none rfl
theorem Row.freeze : Row.Statement .freeze := row_none rfl
theorem Row.unfreeze : Row.Statement .unfreeze := row_none rfl
theorem Row.evrClearCounters : Row.Statement .evrClearCounters := row_none rfl
theorem Row.evrWinRead path : Row.Statement (.evrWinRead path) := row_none rfl
theorem Row.evrCursorWrite slot word : Row.Statement (.evrCursorWrite slot word) := row_none rfl
theorem Row.archiveAppend : Row.Statement .archiveAppend := row_none rfl
theorem Row.codeWordWrite ok again : Row.Statement (.codeWordWrite ok again) := row_none rfl
theorem Row.journalAppend typ len : Row.Statement (.journalAppend typ len) := row_none rfl
theorem Row.lookup : Row.Statement .lookup := row_none rfl
theorem Row.compactJrn : Row.Statement .compactJrn := row_none rfl
theorem Row.compactArc : Row.Statement .compactArc := row_none rfl
theorem Row.lovClearCounters : Row.Statement .lovClearCounters := row_none rfl
theorem Row.stageDataAccess path value : Row.Statement (.stageDataAccess path value) := row_none rfl
theorem Row.rdDataRead path : Row.Statement (.rdDataRead path) := row_none rfl
theorem Row.rdAddrWrite part cw : Row.Statement (.rdAddrWrite part cw) := row_none rfl
theorem Row.programA bad : Row.Statement (.programA bad) := row_none rfl
theorem Row.programB bad : Row.Statement (.programB bad) := row_none rfl
theorem Row.programRecovery bad : Row.Statement (.programRecovery bad) := row_none rfl
theorem Row.selectA : Row.Statement .selectA := row_none rfl
theorem Row.selectB : Row.Statement .selectB := row_none rfl
theorem Row.clearFailedStartCount : Row.Statement .clearFailedStartCount := row_none rfl
theorem Row.writeKeySlot : Row.Statement .writeKeySlot := row_none rfl
theorem Row.revokeKeySlot : Row.Statement .revokeKeySlot := row_none rfl
theorem Row.raiseRollbackFloor : Row.Statement .raiseRollbackFloor := row_none rfl
theorem Row.unlockRecovery : Row.Statement .unlockRecovery := row_none rfl
theorem Row.lockRecovery : Row.Statement .lockRecovery := row_none rfl
theorem Row.bayStandby : Row.Statement .bayStandby := row_none rfl
theorem Row.powerDown : Row.Statement .powerDown := row_none rfl
theorem Row.pwrEnReassert : Row.Statement .pwrEnReassert := row_none rfl
theorem Row.clearTrip : Row.Statement .clearTrip := row_none rfl
theorem Row.clearCause : Row.Statement .clearCause := row_none rfl
theorem Row.vmainFail mv : Row.Statement (.vmainFail mv) := row_none rfl
theorem Row.vmainRise mv : Row.Statement (.vmainRise mv) := row_none rfl
theorem Row.cover high : Row.Statement (.cover high) := row_none rfl
theorem Row.webWake quad : Row.Statement (.webWake quad) := row_none rfl
theorem Row.bayTemp temp tripNet : Row.Statement (.bayTemp temp tripNet) := row_none rfl
theorem Row.rtcAlarm : Row.Statement .rtcAlarm := row_none rfl
theorem Row.externalWake : Row.Statement .externalWake := row_none rfl
theorem Row.rtcSecWrite path lo : Row.Statement (.rtcSecWrite path lo) := row_none rfl
theorem Row.linkDown kind : Row.Statement (.linkDown kind) := row_none rfl
theorem Row.badBar0Access write : Row.Statement (.badBar0Access write) := row_none rfl
theorem Row.registerWrite die off v : Row.Statement (.registerWrite die off v) :=
  row_some rfl fun h => dieOk_lt (by simp only [Instr.wf, Bool.and_eq_true] at h; exact h.1.1)
theorem Row.vectorUnmask v : Row.Statement (.vectorUnmask v) := row_none rfl
theorem Row.irqPendClear w mask : Row.Statement (.irqPendClear w mask) := row_none rfl
theorem Row.hifClearCounters : Row.Statement .hifClearCounters := row_none rfl
theorem Row.statusReq : Row.Statement .statusReq := row_none rfl
theorem Row.ack seq : Row.Statement (.ack seq) := row_none rfl
theorem Row.mail seq payload sound : Row.Statement (.mail seq payload sound) := row_none rfl
theorem Row.ackTimeout typ : Row.Statement (.ackTimeout typ) := row_none rfl
theorem Row.statusPeriod : Row.Statement .statusPeriod := row_none rfl
theorem Row.frameTransmitted : Row.Statement .frameTransmitted := row_none rfl
theorem Row.pressLinkLost : Row.Statement .pressLinkLost := row_none rfl
theorem Row.send len : Row.Statement (.send len) := row_none rfl
theorem Row.pop : Row.Statement .pop := row_none rfl
theorem Row.plkClearCounters : Row.Statement .plkClearCounters := row_none rfl
theorem Row.plkRxDataRead : Row.Statement .plkRxDataRead := row_none rfl
theorem Row.lineTrigger : Row.Statement .lineTrigger := row_none rfl
theorem Row.pulseEnd k : Row.Statement (.pulseEnd k) := row_none rfl
theorem Row.ispClearCounters : Row.Statement .ispClearCounters := row_none rfl
theorem Row.webpulseEdge : Row.Statement .webpulseEdge := row_none rfl
theorem Row.finClearCounters : Row.Statement .finClearCounters := row_none rfl
theorem Row.interlockOpen a b : Row.Statement (.interlockOpen a b) := row_none rfl
theorem Row.interlockClose : Row.Statement .interlockClose := row_none rfl
theorem Row.motDlyExpiry : Row.Statement .motDlyExpiry := row_none rfl
theorem Row.interlockDiscrepancy : Row.Statement .interlockDiscrepancy := row_none rfl
theorem Row.serviceRead die wordOff ok late : Row.Statement (.serviceRead die wordOff ok late) :=
  row_some rfl fun h => dieOk_lt (by simp only [Instr.wf, Bool.and_eq_true] at h; exact h.1)
theorem Row.serviceWrite die wordOff data ok late : Row.Statement (.serviceWrite die wordOff data ok late) :=
  row_some rfl fun h => dieOk_lt (by simp only [Instr.wf, Bool.and_eq_true] at h; exact h.1.1)
theorem Row.requestAbort : Row.Statement .requestAbort := row_none rfl
theorem Row.svcClearCounters : Row.Statement .svcClearCounters := row_none rfl
theorem Row.updateIr code : Row.Statement (.updateIr code) := row_none rfl
theorem Row.tapReset : Row.Statement .tapReset := row_none rfl
theorem Row.vbayLoss : Row.Statement .vbayLoss := row_none rfl
theorem Row.tagSent : Row.Statement .tagSent := row_none rfl
theorem Row.serviceResponseEnd : Row.Statement .serviceResponseEnd := row_none rfl

end Sys2Proof.Laws
end

