-- ==== Sys2Proof/Tests/Slice0.lean ====
section
/-! SUPPORT. The model's own tests: WellFormed refuses an ill-formed command of each kind; a few commands do what the spec's own figures say; and for every
statement with hypotheses a state and operands that meet them, clause by clause. -/

namespace Sys2Proof.Machine

set_option Elab.async false

/-- The state after reset with some fields written: die, field, value. -/
def tst (l : List (Nat × Fld × Nat)) : State := l.foldl (fun s x => s.wr x.1 x.2.1 x.2.2) State.reset

/-- The command completes in a state with a property that evaluates to true. -/
def ends (c : Instr) (s : State) (p : State → Bool) : Bool :=
  match exec c s with
  | .next t => p t
  | _ => false

/-! ### States that meet the hypotheses of the statements -/

theorem test_witness_CountersClear : State.reset.axState 7 ≠ axFault ∧ (tst [(0, F.AXS_AX_STATUS_state 7, axFault)]).axState 7 = axFault ∧
    State.reset.hasStn 1 = true ∧ State.reset.hasStn 7 = true ∧ State.reset.hasDie 0 = true ∧
    State.reset.hasDie 7 = true ∧ 31 < chanCount 0 ∧ ¬((0 : Nat) ≠ 0 ∧ 31 = 7) ∧ 6 < chanCount 7 ∧ 3 ∈ chanList 0 ∧ 4 ∈ chanList 7 ∧
    State.reset.stnPowered 7 = true ∧ (State.reset.modBoot fun b => { b with phase := .released }).stnPowered 7 = false := by decide

/-- A state whose cross-check runs and whose primary has advanced by exactly one span, with a given advance of the secondary. -/
def tstSpan (b : Int) : State :=
  let s := tst [(0, F.WTB_CTRL_enc_source, 1)]
  s.modWtb fun w => { w with encA := { w.encA with acc := (2 ^ (16 + s.rd 0 F.WTB_XCHK_span_sel) * 16777216 : Nat) }, encB := { w.encB with acc := b }, missRun := 2 }

theorem test_witness_EncoderCounts :
    State.reset.encMode .b = 0 ∧ (tst [(0, F.WTB_ENC_A_CFG_mode, 1)]).encMode .a = 1 ∧ 500 ≤ 500 ∧ 1400 ≤ 1400 ∧ (499 < 500 ∨ 1400 < 499) ∧
    State.reset.promotes 0 3 = false ∧ State.reset.checking = false ∧ (tstSpan 0).checking = true ∧
    ((2 ^ (16 + (tstSpan 0).spanField F.WTB_XCHK_span_sel) * 16777216 : Nat) : Int) ≤ (tstSpan 0).wtb.encA.acc - (tstSpan 0).wtb.spanA ∧
    (tstSpan 0).spanField F.WTB_XCHK_xchk_tol * 16777216 <
      (((tstSpan 0).wtb.encA.acc - (tstSpan 0).wtb.spanA) - ((tstSpan 0).wtb.encB.acc - (tstSpan 0).wtb.spanB)).natAbs ∧
    max 1 ((tstSpan 0).spanField F.WTB_XCHK_xchk_n) ≤ (tstSpan 0).wtb.missRun + 1 ∧
    (((tstSpan (2 ^ 44)).wtb.encA.acc - (tstSpan (2 ^ 44)).wtb.spanA) - ((tstSpan (2 ^ 44)).wtb.encB.acc - (tstSpan (2 ^ 44)).wtb.spanB)).natAbs ≤
      (tstSpan (2 ^ 44)).spanField F.WTB_XCHK_xchk_tol * 16777216 := by decide

/-- A state whose encoder is about to fault. -/
def tstFault (e : Enc) (l : List (Nat × Fld × Nat)) : State := (tst l).setEnc e { (tst l).wtb.enc e with due := true }

theorem test_witness_SignalFaults :
    (State.reset.wtb.enc .a).due = false ∧ ((tstFault .a []).wtb.enc .a).due = true ∧ (tstFault .a []).rd 0 (encFault .a) = 0 ∧
    (tstFault .b [(0, encFault .b, 1)]).rd 0 (encFault .b) ≠ 0 ∧
    (tstFault .a []).selected = .a ∧ ¬((tstFault .a []).rd 0 F.WTB_CTRL_enc_source = 2 ∧ Enc.a = .a) ∧
    (tstFault .a [(0, F.WTB_CTRL_enc_source, 2)]).selected = .a ∧ (tstFault .a [(0, F.WTB_CTRL_enc_source, 2)]).rd 0 F.WTB_CTRL_enc_source = 2 ∧
    (tstFault .b []).selected ≠ .b ∧ (tstFault .b []).rd 0 F.WTB_CTRL_enc_source = 0 ∧
    (tstFault .a [(0, F.WTB_CTRL_enc_source, 2), (0, F.WTB_STATUS_on_secondary, 1)]).selected ≠ .a ∧
    (tstFault .b [(0, F.WTB_CTRL_enc_source, 1)]).selected ≠ .b ∧ (tstFault .b [(0, F.WTB_CTRL_enc_source, 1)]).rd 0 F.WTB_CTRL_enc_source ≠ 0 ∧
    State.reset.rd 0 (encFault .b) = 0 ∧ State.reset.now < (State.reset.wtb.enc .b).lastBad + 1000000 ∧
    (tst [(0, encFault .b, 1)]).rd 0 (encFault .b) ≠ 0 ∧
    ({ tst [(0, encFault .b, 1)] with now := 1000000 }.wtb.enc .b).lastBad + 1000000 ≤ 1000000 := by decide

/-- A state with a frame in the book of a given slot. -/
def tstFrame : Frame := { id := 1, slot := 0, serial := 1, job := 0, addr := 0, mask := 2, start := 100000, stop := 200000, lines := 64, rset := 0, tag := 0 }

def tstRun : State := State.reset.modFrm fun m => { m with frames := [tstFrame] }

/-- A link of 8,191 ns there and back, which the ramp proves. -/
def tstCal : LinkCal := ⟨7, [8191, 8191], [65528]⟩

theorem test_witness_Timebase :
    { State.reset with bay := { State.reset.bay with down := true } }.bay.down = true ∧ State.reset.bay.down = false ∧
    (State.reset.modWtb fun w => { w with failover := true }).wtb.failover = true ∧ State.reset.wtb.presetPend = none ∧
    (State.reset.modWtb fun w => { w with presetPend := some 0xFFFFFFFFFF }).wtb.presetPend = some 0xFFFFFFFFFF ∧
    0 < ((State.reset.modWtb fun w => { w with encA := { w.encA with count := -1 } }).wtb.enc .a).hw - (-1 : Int) ∧
    State.reset.frmRuns = false ∧ tstRun.frmRuns = true ∧ State.reset.nStn ≤ 7 ∧ State.reset.hasStn 7 = true ∧
    [tstCal].find? (fun x => x.stn == 7) = some tstCal ∧ [tstCal].find? (fun x => x.stn == 6) = none ∧ tstCal.trips ≠ [] ∧ tstCal.delays ≠ [] ∧
    calPassed tstCal = true ∧ calLat tstCal < 65536 := by decide

def tstMains (ok : Nat) : State :=
  (tst [(0, F.WTB_STATUS_mains_ok, ok)]).modWtb fun w => { w with mainsCand := some 0, mainsLast := some 0, mainsPeriod := 20000000, mainsSrc := 1 }

theorem test_witness_MainsTimebase :
    (tstMains 0).rd 0 F.WTB_STATUS_mains_ok = 0 ∧ (tstMains 0).wtb.mainsCand = some 0 ∧
    (tstMains 0).rd 0 F.WTB_MAINS_CFG_src = 0 ∧
    15384615 ≤ 15384615 - 0 ∧ 15384615 - 0 ≤ 22222222 ∧ State.reset.rd 0 F.WTB_STATUS_mains_ok = 0 ∧ State.reset.wtb.mainsCand = none ∧ (tstMains 1).rd 0 F.WTB_STATUS_mains_ok = 1 ∧ (tstMains 1).wtb.mainsLast = some 0 ∧
    1 = (tstMains 1).wtb.mainsSrc ∧
    50 * ((20400000 : Int) - (0 + 1 * (tstMains 1).wtb.mainsPeriod)).natAbs ≤ (tstMains 1).wtb.mainsPeriod ∧
    15384615 ≤ (20400000 - 0) / 1 ∧ (20400000 - 0) / 1 ≤ 22222222 ∧ ((tstMains 1).modFsr fun f => { f with second := true }).fsr.second = true ∧
    (tstMains 1).wtb.mainsPeriod < 50 * ((20400001 : Int) - (0 + 1 * (tstMains 1).wtb.mainsPeriod)).natAbs ∧
    (tstMains 1).wtb.mainsLast.getD 0 + 2 * (tstMains 1).wtb.mainsPeriod ≤ { tstMains 1 with now := 40000000 }.now ∧
    (tstMains 1).now < (tstMains 1).wtb.mainsLast.getD 0 + 2 * (tstMains 1).wtb.mainsPeriod := by decide

def tstFlit : State :=
  (tst [(3, F.CUE_REP_STATUS_rep_ok, 1)]).modLink 3 fun l => { l with flit := some { pos := 640, vel := 1048575, seq := 0, preset := false, valid := true, reverse := false, synth := false, degraded := false } }

theorem test_witness_DieLinks :
    tstFlit.hasStn 3 = true ∧ 3 < tstFlit.links.length ∧ (tstFlit.link 3).flit.isSome = true ∧ tstFlit.rd 3 F.CUE_REP_STATUS_rep_ok = 1 ∧
    (tstFlit.link 3).loadNext = false ∧ tstFlit.shadowed (.replay 3) = false ∧ (tstFlit.link 3).lost = false ∧ (tstFlit.link 3).hubLost = false ∧
    (tstFlit.modLink 3 fun l => { l with loadNext := true }).links[3]?.map (·.loadNext) = some true ∧ (1048575 : Nat) < 1048576 ∧
    (State.reset.link 7).flit = none ∧ State.reset.rd 7 F.CUE_REP_STATUS_rep_ok = 0 ∧ State.reset.hasStn 7 = true ∧ 7 < State.reset.links.length ∧
    (State.reset.link 7).lastArrival + State.reset.linkTimeout 7 ≤ { State.reset with now := State.reset.linkTimeout 7 }.now ∧
    State.reset.now < (State.reset.link 7).lastArrival + State.reset.linkTimeout 7 ∧
    (State.reset.modFlt fun f => { f with shadows := [.lsoAsserted 3, .hubBypass] }).shadowed (.replay 3) = true ∧
    ((State.reset.modLink 7 fun l => { l with hubLost := true }).link 7).hubLost = true := by decide

/-- A hub whose engine has a due cue on host list 4, and one whose FRM list 0 has one. -/
def tstDue (j : Nat) : State :=
  State.reset.modCue 0 fun c => { c with lists := c.lists.modify j fun l => { l with due := some 1000 } }

theorem test_witness_CueLists :
    0 < (tstDue 4).cues.length ∧ (tstDue 4).nextDue 0 = some (4, 1000) ∧ 4 ≤ 4 ∧ State.reset.nextDue 7 = none ∧
    State.reset.hasDie 7 = true ∧ 7 < State.reset.cues.length ∧ 1024 ≤ 4095 % 4096 ∧ State.reset.listIdle 7 15 = true ∧
    State.reset.listHalted 7 15 = false ∧ 1023 % 4096 < 1024 ∧ 15 < (State.reset.cue 7).lists.length := by decide

def tstAct (d : Nat) (a arg : Nat) (tick : Option Nat := none) (list : Nat := 4) : Issued :=
  { action := a, arg := arg + 0 * d, tick := tick, list := list, entry := 1024, instant := 0 }

/-- A state whose die has one issued action. -/
def tstIss (d : Nat) (i : Issued) (s : State) : State := s.modCue d fun c => { c with issued := [i] }

theorem test_witness_CueActions :
    (tstIss 7 (tstAct 7 0 0) State.reset).issuedAction 7 (fun x => x.action == 0) = some (tstAct 7 0 0) ∧
    (tstIss 7 (tstAct 7 5 65535) State.reset).issuedAction 7 (fun x => x.action == 5) = some (tstAct 7 5 65535) ∧
    State.reset.issuedAction 7 (fun x => x.action == 4) = none ∧ State.reset.evr.frozen = false ∧
    (State.reset.evr.queue.any fun e => decide (e.kind = 1 ∧ e.ident = 7 * 0x20000 + 65535 % 65536)) = false ∧ State.reset.evr.queue.length < 64 ∧
    (tstIss 0 (tstAct 0 0x0A 0) State.reset).issuedAction 0 (fun x => x.action == 0x0A) = some (tstAct 0 0x0A 0) ∧
    (tstIss 0 (tstAct 0 6 0x04) State.reset).issuedAction 0 (isListCtrl 0) = some (tstAct 0 6 0x04) ∧
    (tstIss 0 (tstAct 0 6 0x14) State.reset).issuedAction 0 (isListCtrl 1) = some (tstAct 0 6 0x14) ∧
    (tstIss 0 (tstAct 0 6 0x2F) State.reset).issuedAction 0 (isListCtrl 2) = some (tstAct 0 6 0x2F) ∧
    0x2F % 16 < (State.reset.cue 0).lists.length := by decide

def tstReg (op off : Nat) : State :=
  tstIss 0 (tstAct 0 4 255) (tst [(0, F.CUE_WTAB_ADDR_word_off 255, off), (0, F.CUE_WTAB_ADDR_op 255, op)])

theorem test_witness_CueRegisters :
    State.reset.hasDie 7 = true ∧ State.reset.editCheck 0 2000 (State.reset.editEntry 0) = 2 ∧
    1024 ≤ (tst [(0, F.CUE_EDIT_IDX_idx, 4094)]).rd 0 F.CUE_EDIT_IDX_idx ∧ (tst [(0, F.CUE_EDIT_IDX_idx, 4094)]).rd 0 F.CUE_EDIT_IDX_idx ≠ cueEnd ∧
    (tst [(0, F.CUE_EDIT_IDX_idx, 1023)]).rd 0 F.CUE_EDIT_IDX_idx < 1024 ∧ (tst [(0, F.CUE_EDIT_IDX_idx, 4095)]).rd 0 F.CUE_EDIT_IDX_idx = cueEnd ∧
    1024 ≤ ((tst [(0, F.CUE_EDIT_W_word 0, 0x0400)]).editEntry 0).next ∧
    (tstReg 0 (F.WTB_HYST_web_hyst.off / 4)).issuedAction 0 (fun x => x.action == 4) = some (tstAct 0 4 255) ∧
    4 * (tstReg 2 (F.WTB_HYST_web_hyst.off / 4)).rd 0 (F.CUE_WTAB_ADDR_word_off 255) = F.WTB_HYST_web_hyst.off ∧
    (tstReg 3 0).rd 0 (F.CUE_WTAB_ADDR_op 255) = 3 ∧ (tstReg 1 (F.CUE_EDIT_IDX_idx.off / 4)).rd 0 (F.CUE_WTAB_ADDR_op 255) ≠ 3 ∧
    regOpBarred 0 (4 * (tstReg 1 (F.CUE_EDIT_IDX_idx.off / 4)).rd 0 (F.CUE_WTAB_ADDR_word_off 255)) = true := by decide

/-- The same frame as station 1 holds it. -/
def tstSFrame : SFrame :=
  { id := 1, slot := 0, first := 0, lines := 64, addr := 0, rset := 0, mode := 0, ctx := 0, seq0 := 0, job := 0, sw := none, grid := 0, kind := .relocked,
    startTick := 100000, endTick := 200000 }

def tstFA (d : Nat) (i : Issued) : State := tstIss d i tstRun

/-- The same with the hub's web moving. -/
def tstMoves (i : Issued) : State := (tstFA 0 i).wr 0 F.WTB_VEL_vel 1

/-- A station whose switch 9 is armed, with a grid or without. -/
def tstSw (l : List (Nat × Fld × Nat)) : State :=
  tstIss 3 (tstAct 3 3 9) (tst ([(3, F.CUE_BANK_STATUS_armed, 1), (3, F.CUE_BANK_STATUS_armed_sw, 9)] ++ l))

/-- A grid without lock whose next target tick the station has reached. -/
def tstPassed : State := (tstSw [(3, F.SCN_STATUS_state, scAcquire), (3, F.CUE_REP_STATUS_rep_ok, 1)]).modScn 3 fun x => { x with grid := some ⟨0, 1, 0⟩ }

theorem test_witness_FrameActions :
    tstRun.frameAt 0 = some tstFrame ∧ (tstFA 1 (tstAct 1 1 0)).issuedAction 1 (fun x => x.action == 1) = some (tstAct 1 1 0) ∧
    (tstMoves (tstAct 0 1 0 (some 0))).issuedAction 0 (fun x => x.tick.isSome) = some (tstAct 0 1 0 (some 0)) ∧
    (tstMoves (tstAct 0 1 0 (some 0))).issuedAction 0 (fun x => x.action == 1) = some (tstAct 0 1 0 (some 0)) ∧
    (tstMoves (tstAct 0 2 0 (some 0) 1)).issuedAction 0 isClose = some (tstAct 0 2 0 (some 0) 1) ∧
    (tstMoves (tstAct 0 7 0x0B (some 0) 2)).issuedAction 0 (isMark true) = some (tstAct 0 7 0x0B (some 0) 2) ∧
    State.reset.issuedAction 7 (fun x => x.tick.isSome) = none ∧ State.reset.issuedAction 0 isClose = none ∧
    (tstIss 1 (tstAct 1 1 0) State.reset).frameAt 0 = none ∧
    (((tstFA 1 (tstAct 1 1 0)).modRin 1 fun r => { r with frames := [tstSFrame] }).rin 1).frames = [tstSFrame] ∧
    tstSFrame.id = tstFrame.id ∧
    (tstFA 1 (tstAct 1 2 0)).issuedAction 1 (fun x => x.action == 2 && !isClose x) = some (tstAct 1 2 0) ∧
    (tstFA 0 (tstAct 0 2 0 none 1)).issuedAction 0 isClose = some (tstAct 0 2 0 none 1) ∧
    (tstSw []).issuedAction 3 (fun x => x.action == 3) = some (tstAct 3 3 9) ∧ (tstSw []).rd 3 F.CUE_BANK_STATUS_armed = 1 ∧
    (tstSw []).rd 3 F.CUE_BANK_STATUS_armed_sw = 9 % 256 ∧ (tstSw []).scRuns 3 = false ∧
    (tstSw [(3, F.SCN_STATUS_state, scLocked)]).scRuns 3 = true ∧ ¬(tstSw [(3, F.SCN_STATUS_state, scLocked)]).scState 3 ≠ scLocked ∧
    tstPassed.scState 3 ≠ scLocked ∧ tstPassed.scRuns 3 = true ∧ (tstPassed.switchTarget 3 9).any (fun p => tstPassed.reached 3 p) = true ∧
    State.reset.rd 3 F.CUE_BANK_STATUS_armed = 0 ∧ State.reset.promotes 0 5 = false := by decide

def tstGeo : MarkGeo := { frame := 1, serial := 1, stn := 2, sensor := 3, cb0 := 0, cd0 := 0, bar := 8, d0 := 40, slope := 512, addr := 0, wtol := 2, ep := 0,
                          openTick := 0, closeTick := 0, ref := 1 }

def tstMark (i : Issued) (open_ : Bool) : State :=
  ((tstIss 0 i State.reset).wr 0 F.WTB_VEL_vel 1).modRgc fun r => { r with expected := [tstGeo], wins := if open_ then [⟨3, some tstGeo, [], false⟩] else [] }

theorem test_witness_OutputCues :
    (tst [(0, F.FSR_HTR_CFG_mode 3, 3), (0, F.FSR_STATUS_state, 1)]).heaterMode 3 = 3 ∧ (0x18 : Nat).testBit 3 = true ∧ (0x08 : Nat).testBit 3 = true ∧
    (tst [(0, F.FSR_HTR_CFG_mode 3, 3), (0, F.FSR_STATUS_state, 1)]).heaterHeld 3 = false ∧ 3 < State.reset.fsr.out.length ∧
    (tstIss 0 (tstAct 0 9 0x18) State.reset).issuedAction 0 (fun x => x.action == 9 && x.arg.testBit 4) = some (tstAct 0 9 0x18) ∧
    (tstIss 0 (tstAct 0 9 0x08) State.reset).issuedAction 0 (fun x => x.action == 9 && !x.arg.testBit 4) = some (tstAct 0 9 0x08) ∧
    (tstIss 0 (tstAct 0 8 2) State.reset).issuedAction 0 (fun x => x.action == 8) = some (tstAct 0 8 2) ∧ State.reset.ports.outs.length = 6 ∧
    State.reset.issuedAction 0 (isMark true) = none ∧ (tst [(0, F.FSR_HTR_CFG_mode 3, 3)]).heaterHeld 3 = true ∧
    (tstIss 0 (tstAct 0 8 2) State.reset).actInstant 0 (tstAct 0 8 2) = some 0 ∧
    (tstMark (tstAct 0 7 0x0B none 4) false).issuedAction 0 (isMark true) = some (tstAct 0 7 0x0B none 4) ∧
    (tstMark (tstAct 0 7 0x0B (some 0) 2) false).issuedAction 0 (isMark true) = some (tstAct 0 7 0x0B (some 0) 2) ∧
    ((tstMark (tstAct 0 7 0x0B (some 0) 2) false).rgc.expected.find? fun g => g.sensor == 0x0B % 8) = some tstGeo ∧
    (tstMark (tstAct 0 7 0x0B (some 0) 2) false).windowOf (0x0B % 8) = none ∧
    (tstMark (tstAct 0 7 0x03 (some 0) 2) true).issuedAction 0 (isMark false) = some (tstAct 0 7 0x03 (some 0) 2) ∧
    ((tstMark (tstAct 0 7 0x03 (some 0) 2) true).windowOf 3).map (·.geo) = some (some tstGeo) := by decide

theorem test_witness_Admission :
    State.reset.admission State.reset.desc (State.reset.frameOf State.reset.desc) ≠ 0 ∧ State.reset.rd 0 F.FRM_CTRL_admit_en = 0 ∧
    (tst [(0, F.FRM_CTRL_admit_en, 1)]).rd 0 F.FRM_CTRL_admit_en = 1 ∧ (tst [(0, F.FRM_CTRL_admit_en, 1)]).rd 0 F.WTB_STATUS_tb_ok = 0 := by decide

def tstFifo : State := State.reset.modFrm fun m => { m with fifo := [⟨1, 0, 0, 0⟩], frames := [{ tstFrame with start := 0x4000000000 }] }

theorem test_witness_FrameBook :
    tstFifo.frm.fifo = [⟨1, 0, 0, 0⟩] ∧ State.reset.frm.fifo = [] ∧ tstFifo.frm.frames.getLast? = some { tstFrame with start := 0x4000000000 } ∧
    posAhead (tstFifo.issuePoint 0x4000000000 tstFrame.mask) (posAdd tstFifo.pos (tstFifo.admitLead tstFrame.addr : Nat)) = true ∧
    { tstFrame with started := true }.started = true ∧ (tst [(0, F.THM_PSTATUS_phase, 2)]).rd 0 F.THM_PSTATUS_phase = 2 ∧
    State.reset.rd 0 F.FRM_STATUS_stopping = 0 ∧ State.reset.rd 0 F.THM_PSTATUS_phase < 2 ∧ (State.reset.cue 7).armQ.head? = none ∧
    (tst [(0, F.FRM_STATUS_stopping, 1)]).rd 0 F.FRM_STATUS_stopping = 1 ∧ State.reset.vel = 0 ∧
    ((State.reset.modCue 7 fun c => { c with missed := some 1 }).cue 7).missed = some 1 ∧ State.reset.scRuns 7 = false ∧ State.reset.hasDie 7 = true ∧
    ((State.reset.modCue 7 fun c => { c with armQ := [1] }).cue 7).armQ.head? = some 1 ∧ State.reset.rd 7 F.CUE_BANK_STATUS_armed = 0 ∧
    (State.reset.cue 7).swDone = none ∧ (State.reset.cue 7).missed ≠ some 1 ∧
    ((State.reset.modCue 7 fun c => { c with swDone := some 1 }).cue 7).swDone = some 1 := by decide

/-- A frame that every check of admission passes: station 1 runs, locked, with a resident set that is sealed. -/
def tstAdmit : State :=
  let set := [0x40000, 0, 820, 1, 64, 0, 0, 0]
  let s := (tst [(0, F.FRM_CTRL_admit_en, 1), (0, F.WTB_STATUS_tb_ok, 1), (0, F.FRM_SUB_W_word 0, 1), (0, F.FRM_SUB_W_word 2, 0x1000),
        (0, F.FRM_SUB_W_word 3, 64)]).modMirror 1 fun m => { m with kind := 0, running := true, lockOk := 1, forbid := false, desc := [(0, set)], sealedSets := [0] }
  { s with rsets := { s.rsets with sealedSets := [0] } }

/-- The same with a frame of its job admitted before it. -/
def tstAdmitJob : State := tstAdmit.modFrm fun m => { m with jobs := [(0, tstAdmit.desc.job, 0)] }

theorem test_witness_Admission_passes : tstAdmit.admission tstAdmit.desc (tstAdmit.frameOf tstAdmit.desc) = 0 ∧
    (tstAdmit.frameOf tstAdmit.desc).sw = some 0 ∧ (tstAdmitJob.frameOf tstAdmitJob.desc).sw = none := by decide

/-- A station 1 with a stream set, a resident set and a patch set. -/
def tstRin : State :=
  (tst [(1, F.RIN_CTX_STATE_kind 0, 1), (1, F.RIN_CTX_STATE_rset 0, 0), (1, F.RIN_CTX_COMMIT_commit 0, 5), (0, F.RIN_WIN_CFG_en 0, 1),
        (0, F.RIN_WIN_CFG_en 1, 1), (0, F.RIN_WIN_CFG_die 1, 1)]).modRin 1 fun r =>
    { r with desc := [(0, [0, 0, 64, 1, 100, 0, 0, 0]), (1, [0x40000, 0, 820, 1, 64, 0, 0, 0])], sealedSets := [1],
             tiles := [{ group := 0, ctx := 0, rset := 1, x0 := 0, w := 8, y0 := 0, h := 1, addr := 4096, last := true }] }

theorem test_witness_Descriptors : State.reset.hasStn 7 = true ∧ 7 < State.reset.rins.length ∧ State.reset.memErr 7 2 0 = 0 ∧ State.reset.memErr 7 2 1 = 0 ∧
    (tstRin.rin 1).sealedSets.contains 1 = true ∧ tstRin.descCheck 1 1 ((List.range 8).map fun w => tstRin.rd 1 (F.RIN_DESC_W_word w)) = 1 ∧
    State.reset.descCheck 7 0 ((List.range 8).map fun w => State.reset.rd 7 (F.RIN_DESC_W_word w)) ≠ 1 := by decide

theorem test_witness_Seals : 255 < 256 ∧ State.reset.nStn ≤ 7 ∧ State.reset.nStn < State.reset.rins.length ∧ (tstRin.rdesc 1 0).mode ≠ 3 ∧ (tstRin.rdesc 1 0).mode = 0 ∧
    (tstRin.rin 1).sealedSets.contains 0 = false ∧ (tstRin.rdesc 2 0).mode = 3 ∧
    ({ State.reset with rsets := { State.reset.rsets with pend := some (0, [1]) } }).rsets.pend.isSome = true ∧ State.reset.useCount 0 = 0 ∧
    tstRun.useCount 0 ≠ 0 ∧ State.reset.rsets.pend = none ∧ 7 < State.reset.mirrors.length ∧ State.reset.memErr 7 2 511 = 0 ∧
    (tstRin.rin 1).sealedSets.contains 1 = true ∧ ((tstRin.rdesc 1 0).mode = 0 ∨ (tstRin.rdesc 1 0).mode = 2) := by decide

def tstRel : State := { tstRin with boot := { tstRin.boot with phase := .released, held := [] } }

/-- Hub channel 0 runs a paced descriptor for context 0 of station 1, which has filled its ring since its last report. -/
def tstXReq : State :=
  let s := (tst [(0, F.XFR_CH_STATUS_state 0, 1), (0, F.XFR_CH_CFG_req_sel 0, 1), (1, F.RIN_CTX_COMMIT_commit 0, 100)]).modRin 1 fun r =>
    { r with desc := [(0, [0, 0, 64, 1, 100, 0, 0, 0])] }
  let s := (s.modMirror 1 fun m => { m with desc := [(0, [0, 0, 64, 1, 100, 0, 0, 0])] }).modRsets fun r => { r with sealedSets := [0] }
  s.modXch 0 0 fun x => { x with desc := [4, 0, 0, 0, 0, 0, 0, 0, 0, 0, 0, 0, 0, 0, 0, 0], burst := some ⟨0, 1, 0, false, 0⟩ }

theorem test_witness_StreamsAndWindows :
    tstXReq.xRuns 0 0 = true ∧ XDesc.paced (tstXReq.xch 0 0).desc = true ∧ tstXReq.xRequest 0 0 = true ∧
    (match exec (.mirrorUpdate 1) tstXReq with
      | .next t => t.xRequest 0 0
      | _ => true) = false ∧ (tstXReq.xch 0 0).burst = some ⟨0, 1, 0, false, 0⟩ ∧
    tstRin.hasStn 1 = true ∧ tstRin.rd 1 (F.RIN_CTX_STATE_kind 0) ≠ 0 ∧ seqDiff 5 (tstRin.rd 1 (F.RIN_CTX_COMMIT_commit 0)) ≤ 0 ∧
    0 < seqDiff 6 (tstRin.rd 1 (F.RIN_CTX_COMMIT_commit 0)) ∧ tstRin.rd 1 (F.RIN_CTX_STATE_kind 7) = 0 ∧
    seqDiff 6 (tstRin.rd 1 (F.RIN_CTX_REL_release 0)) ≤ ((tstRin.rdesc 1 (tstRin.rd 1 (F.RIN_CTX_STATE_rset 0))).lines : Nat) ∧
    (((tstRin.rdesc 1 (tstRin.rd 1 (F.RIN_CTX_STATE_rset 0))).lines : Nat) : Int) < seqDiff 0x60000 (tstRin.rd 1 (F.RIN_CTX_REL_release 0)) ∧
    tstRel.boot.phase = .released ∧ tstRel.bar2Target 0x4000000 = none ∧ tstRel.bar2Target 0 = some (0, 0) ∧ tstRel.hostHeld 0 = false ∧
    0 + 10 ≤ bufSize 0 ∧ (tstRel.mem 0).merge = [] ∧ (wordsOf 0 10).all (fun w => tstRel.memErr 0 0 w == 0) = true ∧
    tstRel.bar2Target (0x2000000 + 65600) = some (1, 65600) ∧ tstRel.hostHeld 1 = false ∧ 65600 + [1].length ≤ bufSize 1 ∧
    (tstRel.mem 1).flip = none ∧ State.reset.rins.length = 8 ∧ ((State.reset.rin 7).tiles.find? fun x => State.reset.tileFree 7 x) = none ∧
    tstRin.memErr 1 2 0 = 0 ∧ (tstRel.guarded 1) = [(65600, 4096)] ∧ ((tstRel.rin 1).tiles.find? fun x => tstRel.tileFree 1 x).isSome = true ∧ 1 < tstRel.mirrors.length := by decide

def tstMerge (n : Nat) (e : Nat) : State :=
  State.reset.modMem 7 fun m => { m with merge := [⟨0, 3, (List.range n).map fun i => (i, 255), false, 0⟩], errs := m.errs.set 0 (if e = 0 then [] else [(3, e)]) }

theorem test_witness_MemoryIntegrity :
    7 < State.reset.mems.length ∧ (State.reset.mem 7).merge = [] ∧ State.reset.boot.phase ≠ .released ∧
    ((tstMerge 10 0).mem 7).merge.head?.map (·.at_) = some 0 ∧ 0 + 64 ≤ { tstMerge 10 0 with now := 64 }.now ∧ (tstMerge 10 0).now < 0 + 64 ∧
    (State.reset.modBoot fun b => { b with phase := .released }).boot.phase = .released ∧ ((tstMerge 10 0).mem 7).merge.head?.map (·.word) = some 3 ∧ (∀ b ∈ (List.range 10).map fun i => (i, 255), b.1 < 10) ∧
    (((List.range 10).map fun i => (i, 255)).map (·.1)).Nodup ∧ ((tstMerge 9 3).mem 7).flip = none ∧ 0 < ((tstMerge 9 3).mem 7).errs.length ∧
    (tstMerge 9 3).memErr 7 0 3 = 3 ∧
    (if ((State.reset.mem 7).scrub.getD 6 (0, 0)).1 = 0 then State.reset.rd 7 (F.MEM_M_SCRUB_scrub_period 6) else (State.reset.mem 7).pass.getD 6 0) ≠ 0 ∧ 6 < (State.reset.mem 7).scrub.length ∧ 6 < (State.reset.mem 7).errs.length ∧
    State.reset.memErr 7 6 ((State.reset.mem 7).scrub.getD 6 (0, 0)).1 = 0 ∧ memWords 7 6 = none ∧ State.reset.frmRuns = false ∧ tstRun.frmRuns = true ∧
    State.reset.scrubTime 7 6 ≤ State.reset.now ∧ (∀ x ∈ (tstMerge 10 0).mem 7 |>.merge, x.mem ≠ 6) ∧
    { State.reset with boot := { State.reset.boot with phase := .released } }.now <
      ({ State.reset with boot := { State.reset.boot with phase := .released } }.modMem 7 fun m => { m with scrub := m.scrub.set 6 (0, 1) }).scrubTime 7 6 ∧
    (State.reset.on 7 F.MEM_FLIP_A_en && State.reset.on 7 F.MEM_FLIP_B_en) = false ∧
    ((State.reset.modMem 0 fun m => { m with flip := some (0, 1) }).mem 0).flip.isSome = true := by decide

theorem test_double_error : eccClass 3 = .uncorrectable := by decide

/-- A descriptor that moves 64 bytes inside station 1's buffer, with some bits of word 0. -/
def tstDesc (w0 : Nat) : List Nat := [0xA2400 + w0, 0, 0, 0, 0x1000, 0, 0, 63, 0, 0, 63, 0, 0, 0, 0, 5]

/-- Channel 0 of station 1 in a state, with what stands behind its registers. -/
def tstXch (st : Nat) (x : XCh) : State :=
  (tst [(1, F.XFR_CH_STATUS_state 0, st)]).modXfr 1 fun t => { t with chans := t.chans.set 0 x, sdesc := [(0, tstDesc 0)] }

theorem test_witness_TransferChannels :
    State.reset.hasXch 1 0 = true ∧ State.reset.hasXch 0 31 = true ∧ State.reset.hasXch 7 7 = true ∧ (tstXch 1 {}).xRuns 1 0 = true ∧ (tstXch 0 {}).xState 1 0 ≠ 3 ∧
    0 < ((tstXch 0 {}).xfrs.getD 1 {}).chans.length ∧ (tstXch 0 {}).xRuns 1 0 = false ∧
    (tstXch 0 {}).xdescBad 1 ((tstXch 0 {}).fetchDesc 1 ((tstXch 0 {}).rd 1 (F.XFR_CH_DESC_first 0))).1 = false ∧
    State.reset.xdescBad 1 (State.reset.fetchDesc 1 (State.reset.rd 1 (F.XFR_CH_DESC_first 0))).1 = true ∧
    (tstXch 3 { desc := tstDesc 0 }).xState 1 0 = 3 ∧ (tstXch 3 { desc := tstDesc 0 }).xdescBad 1 ((tstXch 3 { desc := tstDesc 0 }).xch 1 0).desc = false ∧
    ((tstXch 1 { desc := tstDesc 0, burst := some { start := 0, len := 64, fails := 0 } }).xch 1 0).burst.isSome = true ∧
    ((tstXch 3 {}).xch 1 0).burst = none ∧ ((tstXch 1 { hold := [(1, false)] }).xch 1 0).hold.length = 1 ∧
    ((tstXch 1 { hold := [(1, false)] }).xch 1 0).burst = none ∧ (tstXch 1 { hold := [(1, false)] }).xState 1 0 ≠ 0 ∧ (tstXch 0 {}).xState 1 0 = 0 ∧
    (tstXch 3 { desc := (tstDesc 0).set 0 0 }).xdescBad 1 ((tstXch 3 { desc := (tstDesc 0).set 0 0 }).xch 1 0).desc = true ∧
    (tstXch 1 { desc := tstDesc 0, hold := [(1, false)] }).xState 1 0 ≠ 3 ∧ 0 < XDesc.dstLen ((tstXch 1 { desc := tstDesc 0, hold := [(1, false)] }).xch 1 0).desc := by decide

/-- Hub channel 0 runs with a reservation of 1,000 MB/s and has earned credit. -/
def tstRsv : State :=
  { (tst [(0, F.XFR_CH_STATUS_state 0, 1), (0, F.XFR_CH_RES_res_mbps 0, 1000)]).modXch 0 0 fun x => { x with desc := tstDesc 0 } with now := 1000000 }

theorem test_witness_TransferBursts :
    XDesc.paced (tstDesc 4) = true ∧ XDesc.paced (tstDesc 0) = false ∧ 0 < XDesc.total (tstDesc 0) ∧
    ((tst [(0, F.XFR_CH_CFG_req_sel 31, 1)]).xRequest 0 31) = false ∧ (tstXch 1 {}).xRequest 1 0 = true ∧
    ((tstXch 1 { desc := tstDesc 0 }).xch 1 0).hold.length + (tstXch 1 { desc := tstDesc 0 }).burstLen 1 0 ≤ 128 ∧
    128 < ((tstXch 1 { desc := tstDesc 0, hold := List.replicate 100 (0, false) }).xch 1 0).hold.length +
      (tstXch 1 { desc := tstDesc 0, hold := List.replicate 100 (0, false) }).burstLen 1 0 ∧
    ((tstXch 1 { desc := tstDesc 0, burst := some ⟨0, 64, 0, false, 0⟩, aborting := true }).xch 1 0).aborting = true ∧
    0 < (tst [(1, F.XFR_CH_CFG_retry_max 0, 1)]).rd 1 (F.XFR_CH_CFG_retry_max 0) ∧ (tst [(1, F.XFR_CH_CFG_retry_max 0, 0)]).rd 1 (F.XFR_CH_CFG_retry_max 0) ≤ 0 ∧
    (tstXch 1 { desc := tstDesc 0 }).xWins 1 0 = true ∧ (tstXch 1 { desc := tstDesc 0 }).xRes 1 0 = 0 ∧
    (tstRsv.xRes 0 0 ≠ 0 ∧ tstRsv.xWins 0 0 = true ∧ tstRsv.xRuns 0 0 = true) ∧ { tstRsv with now := 0 }.xWins 0 0 = false ∧
    (0 : Nat) < 1 ∧ 0 + 64 ≤ 128 ∧ (tstXch 1 { desc := tstDesc 0, written := 64 }).xRuns 1 0 = true ∧ tstDesc 0 ≠ [] ∧
    XDesc.total (tstDesc 0) ≤ 64 ∧ 2 ≤ XDesc.doneAct (tstDesc 2) ∧ XDesc.chain (tstDesc 0) = false ∧ XDesc.chain (tstDesc 8) = true ∧
    XDesc.next (tstDesc 8) < 0x80000 := by decide

theorem test_witness_TransferTables :
    State.reset.hasStn 7 = true ∧ 7 < State.reset.xfrs.length ∧
    ((List.range 7).any fun c => (tstXch 1 {}).xRuns 1 c && (tstXch 1 {}).rd 1 (F.XFR_CH_CUR_DESC_cur c) == 0) = true ∧
    ((List.range 7).any fun c => (tstXch 0 {}).xRuns 1 c && (tstXch 0 {}).rd 1 (F.XFR_CH_CUR_DESC_cur c) == 0) = false ∧
    16383 ≠ State.reset.rd 0 (F.XFR_CH_RES_res_mbps 31) ∧
    (State.reset.xRuns 0 31 || decide (State.reset.rd 0 F.XFR_RES_LIMIT_res_limit < State.reset.resSum 31 (fun _ => true) + 16383)) = true ∧
    (State.reset.xRuns 0 31 || decide (State.reset.rd 0 F.XFR_RES_LIMIT_res_limit < State.reset.resSum 31 (fun _ => true) + 1)) = false ∧
    63 ≠ State.reset.rd 0 (F.XFR_CH_CFG_req_sel 31) ∧ 57 ≤ 63 ∧ ¬57 ≤ 56 ∧
    1 ≠ State.reset.rd 0 F.XFR_RES_LIMIT_res_limit ∧ (tst [(0, F.XFR_RES_SUM_res_sum, 2)]).rd 0 F.XFR_RES_SUM_res_sum = 2 := by decide

/-- Station 1 with a scanner of a kind in a state, and what stands behind its registers. -/
def tstScn (kind st : Nat) (x : Scn) (l : List (Nat × Fld × Nat) := []) : State :=
  (tst ([(1, F.SCN_CFG_kind, kind), (1, F.SCN_STATUS_state, st), (1, F.SCN_STATUS_running, if scSearch < st ∧ st < scHalt then 1 else 0)] ++ l)).modScn 1 fun _ => x

theorem test_witness_ScannerCommands :
    (tstScn 0 scOff {}).hasStn 1 = true ∧ 1 < State.reset.scns.length ∧ (tstScn 0 scOff {}).stnPowered 1 = true ∧
    ((tstScn 0 scOff {}).modBoot fun b => { b with phase := .released }).stnPowered 1 = false ∧ (tstScn 0 scOff {}).scState 1 = scOff ∧
    (tstScn 1 scSearch { cmd := 1000000000 } [(1, F.SCN_RES_FN_f_n, 1000)]).speedLimit 1 1000000000 = 1000000000 ∧
    (tstScn 1 scSearch {} [(1, F.SCN_RES_FN_f_n, 1000)]).speedLimit 1 0 ≠ 0 ∧ State.reset.pull 1 ≤ 1000 ∧
    (tstScn 0 scLocked { inSweep := true } [(1, F.LSR_STATUS_scan_ok, 1)]).on 1 F.LSR_STATUS_scan_ok = true ∧
    ends (.polyRampStep 1) (tstScn 0 scLocked { inSweep := true } [(1, F.LSR_STATUS_scan_ok, 1)]) (fun t => t.rd 1 F.SCN_STATUS_scan_ok == 0) = true ∧
    ((tstScn 0 scSpinup {}).scn 1).spinAt + 1000000 * (tstScn 0 scSpinup {} [(1, F.SCN_SPIN_TMO_spin_tmo, 0)]).rd 1 F.SCN_SPIN_TMO_spin_tmo <
      { tstScn 0 scSpinup {} with now := 1 }.now ∧
    ((tstScn 0 scSpinup {}).rdS 1 (F.MDR_CH_SPEED_speed 4)).natAbs < 8 * (tstScn 0 scSpinup {}).rpmMin 1 ∧ ((tstScn 0 scSpinup {}).scn 1).intervals = [] ∧ ((tstScn 1 scOff {}).isPolygon 1 || (tstScn 1 scOff {}).isResonant 1) = true ∧
    ((tstScn 2 scOff {}).isPolygon 1 || (tstScn 2 scOff {}).isResonant 1) = false ∧ (tstScn 0 scHalt {}).scState 1 = scHalt ∧ tstRun.frmRuns = true ∧
    (tstScn 0 scLocked {}).frmRuns = false ∧ (tstScn 0 scLocked {}).scState 1 ≠ scHalt ∧ (tstScn 0 scSpinup {}).scState 1 = scSpinup ∧
    (tstScn 0 scSearch {}).scState 1 = scSearch ∧ (State.reset.cue 1).swPend = none ∧ (tstScn 0 scSpinup {}).isPolygon 1 = true ∧
    8 * (tstScn 0 scSpinup {} [(1, F.MDR_CH_SPEED_speed 4, 0x60000)]).rpmMin 1 ≤
      ((tstScn 0 scSpinup {} [(1, F.MDR_CH_SPEED_speed 4, 0x60000)]).rdS 1 (F.MDR_CH_SPEED_speed 4)).natAbs := by decide

theorem test_witness_BeamDetect :
    (tstScn 0 scAcquire {}).isPolygon 1 = true ∧ scSearch ≤ (tstScn 0 scAcquire {}).scState 1 ∧ (tstScn 0 scAcquire {}).scState 1 < scHalt ∧
    ((tstScn 0 scAcquire {}).scn 1).refAt = none ∧ (tstScn 0 scAcquire {}).inWindow 1 0 = true ∧ (tstScn 0 scAcquire {} [(1, F.SCN_CFG_fid_mode, 2)]).fidSignature 1 = false ∧
    (tstScn 0 scAcquire {} [(1, F.SCN_CFG_fid_mode, 2)]).fidIndex 1 = false ∧
    (tstScn 0 scAcquire { bd0 := some 0, intervals := [40000, 40000, 40000, 40000, 40000, 40000, 40000, 40000, 40000, 40000] }).inWindow 1 100 = false ∧
    ((tstScn 0 scAcquire { refAt := some 0 }).scn 1).refAt.isSome = true ∧ (tstScn 1 scAcquire {}).isResonant 1 = true ∧
    ((tstScn 0 scAcquire { bd0 := some 0 }).nextBd0 1).isSome = true ∧
    0 + 1 < max 1 ((tstScn 0 scAcquire {} [(1, F.SCN_BD_bd_miss_n, 2)]).rd 1 F.SCN_BD_bd_miss_n) ∧
    max 1 ((tstScn 0 scAcquire {} [(1, F.SCN_BD_bd_miss_n, 1)]).rd 1 F.SCN_BD_bd_miss_n) ≤ 0 + 1 ∧
    (tstScn 0 scSearch { bd0 := some 0 }).scState 1 = scSearch ∧ ((tstScn 0 scAcquire { bd0 := some 0 }).scn 1).bd1At = none ∧
    ((tstScn 0 scAcquire { bd0 := some 0, facetKnown := true }).scn 1).facetKnown = true ∧ ((tstScn 0 scAcquire { bd0 := some 0 }).scn 1).facetKnown = false ∧
    (tstScn 0 scAcquire {} [(1, F.SCN_CFG_bd1_use, 1)]).rd 1 F.SCN_CFG_bd1_use = 1 ∧ (tstScn 0 scAcquire {}).isResonant 1 = false ∧
    (tstScn 0 scAcquire {} [(1, F.SCN_CFG_bd1_use, 2)]).rd 1 F.SCN_CFG_bd1_use = 2 ∧ (tstScn 0 scAcquire {} [(1, F.SCN_CFG_bd1_use, 3)]).rd 1 F.SCN_CFG_bd1_use ≠ 2 ∧
    (tstScn 1 scSpinup {}).scState 1 = scSpinup ∧ 500 ≤ 500 ∧ 499 < 500 ∧ (tstScn 1 scSpinup {}).scState 1 ≠ scOff ∧ (tstScn 1 scSpinup {}).scState 1 ≠ scHalt := by decide

/-- A polygon of six facets and 32 lines, locked, that has made a sweep 1 µs ago at a web velocity inside its range. -/
def tstSweeping (st : Nat) : State :=
  tstScn 0 st { refAt := some 16000, startAt := 16000, grid := some ⟨0, 32, 0⟩, err := some 0, lastStart := some (0, 0), lockNext := true }
    [(1, F.CUE_REP_STATUS_rep_ok, 1), (1, F.CUE_REP_VEL_rep_vel, 60000), (1, F.SCN_GEOM_lines 0, 32), (1, F.SCN_DUTY_duty, 500),
      (1, F.SCN_RPM_MIN_rpm_min, 1000), (1, F.SCN_RPM_MAX_rpm_max, 60000), (1, F.LPL_ACTIVE_PX_active_px, 5000)]

/-- A station that holds one stream frame, of which the sweep in progress carries lines. -/
def tstSwEnd : State :=
  ((tstScn 0 scLocked { inSweep := true }).modRin 1 fun r => { r with frames := [{ tstSFrame with started := true }] }).modSweep 1 fun w =>
    { w with base := 102400000 + 40 * pitchOf 0, lines := 32, addr := 0 }

def tstSwp : State := tstScn 0 scLocked { refAt := some 16000, startAt := 16000, grid := some ⟨0, 32, 0⟩, err := some 0, lastStart := some (0, 0) }

theorem test_witness_Sweeps :
    tstSwp.scRuns 1 = true ∧ (tstSwp.scn 1).refAt = some 16000 ∧ (tstSwp.scn 1).inSweep = false ∧ (tstSwp.scn 1).grid = some ⟨0, 32, 0⟩ ∧
    (tstSwp.cue 1).issued = [] ∧ (tstSwp.cue 1).swPend = none ∧ tstSwp.scState 1 = scLocked ∧ (tstSwp.scn 1).shift = 0 ∧ tstSwp.waitingFrames 1 = [] ∧
    State.reset.scRuns 1 = false ∧ (tstScn 0 scLocked { inSweep := true }).scState 1 = scLocked ∧ ((tstScn 0 scLocked { inSweep := true }).scn 1).inSweep = true ∧
    ((tstScn 0 scAcquire { lockNext := true }).scn 1).lockNext = true ∧ 1 < State.reset.sweeps.length ∧
    (tstSwp.sweepSpeed 1).vInside 1 (tstSwp.curAddr 1) = false ∧
    withinLine (((tstSwp.scn 1).err).getD 0) (64 * tstSwp.lockWin 1) (tstSwp.curAddr 1) = true ∧
    ((tstSweeping scLocked).sweepSpeed 1).vInside 1 ((tstSweeping scLocked).curAddr 1) = true ∧ (tstSweeping scAcquire).scState 1 = scAcquire ∧
    ((tstSweeping scAcquire).scn 1).lockNext = true ∧ (tstSwEnd.cue 1).swPend = none ∧ (tstSwEnd.rin 1).frames = [{ tstSFrame with started := true }] ∧
    tstSFrame.mode = 0 ∧ tstSFrame.addr = (tstSwEnd.sweep 1).addr ∧ tstSFrame.ctx < 8 ∧
    (tstSFrame.lines : Int) ≤ tstSFrame.lineAt (tstSwEnd.sweep 1).base + (tstSwEnd.sweep 1).lines ∧
    0 < tstSFrame.lineAt (gridAdd (tstSwEnd.sweep 1).base ((((tstSwEnd.sweep 1).lines - 1) * pitchOf 0 : Nat) : Int)) := by decide

theorem test_witness_Power :
    State.reset.stnPowered 1 = true ∧ (State.reset.modBoot fun b => { b with phase := .released }).stnPowered 1 = false ∧
    (State.reset.mem 1).errs.getD 5 [] = [] ∧ (State.reset.mem 1).flip = none ∧ (State.reset.mem 7).errs.getD 4 [] = [] ∧
    (State.reset.mem 7).flip = none := by decide

theorem test_witness_PlacementCorrections :
    State.reset.steerBad 1 (State.reset.limWeb 1) (State.reset.trimShadow 1) = false ∧ (tstScn 0 scLocked {}).rd 1 F.SCN_STATUS_running = 1 ∧
    State.reset.rd 1 F.SCN_STATUS_running = 0 ∧
    (tst [(1, F.SCN_GEOM_lines 0, 32)]).steerBad 1 (256 * (1023 % 1024)) ((tst [(1, F.SCN_GEOM_lines 0, 32)]).trimShadow 1) = true ∧
    State.reset.limWeb 1 < (sgn 20 0x80000).natAbs ∧ (sgn 20 0).natAbs ≤ State.reset.limWeb 1 ∧
    State.reset.rd 1 F.LPL_REG_LIM_lim_scan < (sgn 20 0x7FFFF).natAbs := by decide

/-- Station 1 with a pixel clock at a step, and registers. -/
def tstCks (px : Nat) (l : List (Nat × Fld × Nat)) (f : Scn := {}) : State :=
  ((tst l).modCks 1 fun c => { c with px := px, fpx := 80000000000 }).modScn 1 fun _ => f

theorem test_witness_PixelClock :
    1 < State.reset.ckss.length ∧ 2 ≤ ((tstCks 2 []).cks 1).px ∧ ((tstCks 0 []).cks 1).px < 2 ∧ (tstCks 0 []).rd 1 F.CKS_PX_STATUS_locked = 0 ∧
    (tstCks 0 [(1, F.CKS_PX_STATUS_locked, 1)]).rd 1 F.CKS_PX_STATUS_locked = 1 ∧
    (tstCks 0 [(1, F.SCN_STATUS_running, 1)] { inSweep := true }).rd 1 F.SCN_STATUS_running = 1 ∧ ((tstCks 0 [] { inSweep := true }).scn 1).inSweep = true ∧
    (tstCks 0 []).linesCarried 1 = [] ∧ (tstCks 0 []).rateOk 1 ((tstCks 0 []).cks 1).fpx = true ∧ ((tstCks 1 []).cks 1).px = 1 ∧ 5 ≤ ((tstCks 5 []).cks 1).px ∧
    (((tstCks 5 [] { refAt := some 0, startAt := 0 }).scn 1).refAt.isSome && decide (((tstCks 5 [] { refAt := some 0, startAt := 0 }).scn 1).startAt < 16 * 0 + 32000)) = true ∧
    ((State.reset.scn 1).refAt.isSome && decide ((State.reset.scn 1).startAt < 16 * 0 + 32000)) = false ∧
    ((tst [(1, F.CKS_PX_STATUS_bypass, 0), (1, F.CKS_PX_STATUS_locked, 1)]).modScn 1 fun _ => { inSweep := true }).onBypass 1 = false ∧
    ((State.reset.scn 1).inSweep = false ∧ 1 < State.reset.sweeps.length) ∧ (tstCks 1 []).now < ((tstCks 2 []).cks 1).pxSince + 2560 ∧
    ((tstCks 1 []).cks 1).pxSince + 10240 ≤ { tstCks 1 [] with now := 10240 }.now ∧ { tstCks 1 [] with now := 10239 }.now < ((tstCks 1 []).cks 1).pxSince + 10240 ∧
    ((tstCks 5 []).cks 1).pxSince + 2560 ≤ { tstCks 5 [] with now := 2560 }.now ∧ ((tstCks 0 []).cks 1).px ≠ 1 ∧
    State.reset.promotes 1 5 = false ∧ State.reset.rd 1 F.SCN_STATUS_running = 0 := by decide

def tstSys (d sys : Nat) (l : List (Nat × Fld × Nat)) : State := (tst l).modCks d fun c => { c with sys := sys }

theorem test_witness_FabricClocks :
    0 < State.reset.ckss.length ∧ ((tstSys 0 0 [(0, F.CKS_SYS_STATUS_locked, 1)]).cks 0).sys < 2 ∧ (tstSys 0 0 [(0, F.CKS_SYS_STATUS_locked, 1)]).rd 0 F.CKS_SYS_STATUS_locked = 1 ∧
    (State.reset.scn 1).inSweep = false ∧ 2 ≤ ((tstSys 0 2 []).cks 0).sys ∧ (tstSys 7 0 [(7, F.CKS_SYS_STATUS_locked, 1)]).rd 7 F.CKS_SYS_STATUS_locked = 1 ∧
    ((tstSys 7 0 []).cks 7).sys < 2 ∧ 7 < State.reset.links.length ∧ (tstSys 0 0 [(0, F.CKS_SYS_STATUS_locked, 0), (0, F.CKS_SYS_STATUS_ramp, 0)]).rd 0 F.CKS_SYS_STATUS_locked = 0 ∧
    (tstSys 0 0 [(0, F.CKS_SYS_STATUS_ramp, 0)]).rd 0 F.CKS_SYS_STATUS_ramp = 0 ∧ ((tstSys 7 1 []).cks 7).sys = 1 ∧
    ((tstSys 7 1 []).cks 7).since + 10240 ≤ { tstSys 7 1 [] with now := 10240 }.now ∧ { tstSys 7 1 [] with now := 10239 }.now < ((tstSys 7 1 []).cks 7).since + 10240 ∧ ((tstSys 7 4 []).cks 7).sys < 5 ∧
    5 ≤ ((tstSys 7 5 []).cks 7).sys ∧ ((tstSys 0 0 []).cks 0).since + 1000000 ≤ { tstSys 0 0 [] with now := 1000000 }.now ∧
    State.reset.now < (State.reset.cks 0).since + 1000000 ∧ ((tstSys 7 5 []).cks 7).since + 2560 ≤ { tstSys 7 5 [] with now := 2560 }.now ∧
    (tstSys 7 5 []).now < ((tstSys 7 5 []).cks 7).since + 2560 ∧ 2 ≤ ((tstSys 7 2 []).cks 7).sys ∧ ((tstSys 7 0 []).cks 7).sys ≠ 1 ∧
    7 ∈ State.reset.stns ∧ 7 < State.reset.sweeps.length ∧ ((State.reset.modScn 7 fun x => { x with inSweep := true }).scn 7).inSweep = true ∧
    (tstSys 7 0 [(7, F.CKS_SYS_STATUS_locked, 0)]).rd 7 F.CKS_SYS_STATUS_locked = 0 := by decide

def tstLsr (x : Lsr) (l : List (Nat × Fld × Nat) := []) (f : Scn := {}) : State :=
  (((tst l).modLsr 1 fun _ => x).modScn 1 fun _ => f).modStn 1 fun y => { y with line := [] }

theorem test_witness_LaserLink :
    1 < State.reset.lsrs.length ∧ 1 < State.reset.stations.length ∧ tstRun.frmRuns = true ∧ (tst [(1, F.LSR_STATUS_link_up, 1)]).rd 1 F.LSR_STATUS_link_up = 1 ∧
    State.reset.rd 1 F.LSR_STATUS_link_up = 0 ∧ ((tstLsr { train := 1 }).lsr 1).train = 1 ∧ (tstLsr { train := 1 }).ownCauses 1 = [] ∧
    (tstLsr { train := 2 }).setsSent 1 = true ∧ (State.reset.modStn 1 fun y => { y with line := [.beam] }).ownCauses 1 ≠ [] ∧
    ((tstLsr { train := 3 } [(1, F.LSR_STATUS_lso, 0)]).lsr 1).train = 3 ∧ (tstLsr { train := 3 } [(1, F.LSR_STATUS_lso, 0)]).rd 1 F.LSR_STATUS_lso = 0 ∧
    ((tstLsr { train := 4 }).lsr 1).train = 4 ∧ (tst [(1, F.SCN_STATUS_running, 1)]).rd 1 F.SCN_STATUS_running = 1 ∧ State.reset.frmRuns = false ∧
    (tst [(1, F.CUE_BANK_STATUS_armed, 1)]).rd 1 F.CUE_BANK_STATUS_armed = 1 ∧ ((tstLsr {}).lsr 1).pageSent = false ∧ ((tstLsr {}).lsr 1).pageOwed = false ∧
    { tstLsr { train := 1 } with now := 20000 }.setsSent 1 = true ∧ (tstLsr { train := 1 }).setsSent 1 = false ∧
    { tstLsr { train := 1, tmo := 1 } with now := 1020000 }.setsSent 1 = true ∧ 0 + 20000 + 1000000 * 1 ≤ 1020000 ∧
    ({ tstLsr { train := 1, tmo := 1 } with now := 20000 }.now < 0 + 20000 + 1000000 * 1) ∧
    ((tstLsr { train := 3 }).lsr 1).highAt + 1000 ≤ { tstLsr { train := 3 } with now := 1000 }.now ∧ (tstLsr { train := 3 }).now < 0 + 1000 ∧
    ((tstLsr {}).lsr 1).train ≠ 3 ∧ ((tstLsr { pageOwed := true }).lsr 1).pageOwed = true ∧ ((tstLsr { pageSent := true }).lsr 1).pageSent = true ∧
    ((tstLsr { test := some 1 }).lsr 1).test ≠ none ∧ State.reset.rd 1 F.SCN_STATUS_running = 0 ∧ (State.reset.scn 1).inSweep = false := by decide

/-- A state in which power control may send a pair: a sweep ended at time 0, and the next BD0 window is far. -/
def tstApc : State :=
  { tstLsr { endAt := some 0, apcDly := 2000, pulseUs := some 2 } [(1, F.LSR_STATUS_link_up, 1), (1, F.LSR_STATUS_scan_ok, 1), (1, F.LSR_STATUS_lso, 0),
      (1, F.LSR_STATUS_forbid, 0), (1, F.LSR_APC_CFG_per_sweep, 1)] { bd0 := some 0, intervals := [1600000] } with now := 1360 }

/-- A context slot of station 1 that beam 39's measurement triggers. -/
def tstApcSlot : State :=
  tst [(1, F.LSR_APC_CFG_slot1, 23), (1, F.LPE_SLOT_CFG_ctx 23, 1), (1, F.LPE_SLOT_CFG_trig 23, 2), (1, F.LPE_SLOT_STATUS_state 23, slotRun)]

theorem test_witness_SweepFramesAndPower :
    (tstLsr {} [(1, F.LSR_STATUS_link_up, 1)] { inSweep := true }).rd 1 F.LSR_STATUS_link_up = 1 ∧ ((tstLsr {} [] { inSweep := true }).scn 1).inSweep = true ∧
    ((tstLsr {}).lsr 1).launched = false ∧ ((tstLsr { launched := true }).lsr 1).launched = true ∧
    tstApc.apcMay 1 = true ∧ { tstApc with now := 1359 }.apcMay 1 = false ∧
    ((tstLsr { apcWait := [39] }).lsr 1).apcWait.contains 39 = true ∧ (tst [(1, F.LSR_APC_CFG_slot0, 23)]).rd 1 F.LSR_APC_CFG_slot0 < 24 ∧
    (tst [(1, F.LPE_SLOT_CFG_ctx 23, 1)]).rd 1 (F.LPE_SLOT_CFG_ctx 23) = 1 ∧ (tst [(1, F.LPE_SLOT_STATUS_state 23, slotRun)]).slotState 1 23 = slotRun ∧
    tstApcSlot.slotLive 1 23 = true ∧ tstApcSlot.rd 1 F.LSR_APC_CFG_slot1 = 23 ∧ tstApcSlot.rd 1 (F.LPE_SLOT_CFG_ctx 23) = 1 ∧
    tstApcSlot.rd 1 (F.LPE_SLOT_CFG_trig 23) = 2 ∧ (tstApcSlot.slot 1 23).held = none ∧ (tstApcSlot.slot 1 23).ready = none ∧
    (tstApcSlot.slot 1 23).lastTrig = none ∧ 1 < State.reset.lpes.length ∧ State.reset.promotes 1 6 = false ∧
    ((tstLsr {} [(1, F.LSR_STATUS_lso, 1)]).on 1 F.LSR_STATUS_lso) = true ∧ ((State.reset.modSweep 1 fun w => { w with blank := false }).sweep 1).blank = false ∧
    (tst [(1, F.LSR_DRV_drv 39, 4095), (1, F.LSR_DRV_MAX_drv_max, 4095)]).rd 1 (F.LSR_DRV_drv 39) =
      (tst [(1, F.LSR_DRV_drv 39, 4095), (1, F.LSR_DRV_MAX_drv_max, 4095)]).rd 1 F.LSR_DRV_MAX_drv_max ∧ max 1 1 ≤ 0 + 1 ∧ ¬max 1 2 ≤ 0 + 1 := by decide

/-- A sweep frame whose first column lights beam 0 for 65,535/64 ns, past a bound of 0. -/
def tstLit : State :=
  { (tstLsr { launched := true, columns := [[0, 0, 16], [255, 255, 0]] } [(1, F.LPL_LUT_start 0 1, 0), (1, F.LPL_LUT_width 0 1, 64)] { inSweep := true }).modSweep 1
      fun w => { w with firstAt := 0, bound := 0 } with now := 10 }

theorem test_witness_LaserSafety :
    1 < State.reset.sweeps.length ∧ (tst [(1, F.LSR_STATUS_lso, 0)]).rd 1 F.LSR_STATUS_lso = 0 ∧ ((tstLsr {} [] { inSweep := true }).scn 1).inSweep = true ∧
    (State.reset.scn 1).inSweep = false ∧ State.reset.shadowed (.strayLight 1) = false ∧
    ({ State.reset with flt := { State.reset.flt with shadows := [.lsoAsserted 1] } }).shadowed (.strayLight 1) = true ∧
    (tst [(1, F.LSR_STATUS_reentry, 1), (1, F.LSR_STATUS_write_ok, 1)]).rd 1 F.LSR_STATUS_reentry = 1 ∧ (tst [(1, F.LSR_STATUS_write_ok, 1)]).rd 1 F.LSR_STATUS_write_ok = 1 ∧
    State.reset.rd 1 F.LSR_STATUS_reentry = 0 ∧ tstLit.beamOver 1 = true ∧ (tstLit.scn 1).inSweep = true ∧
    (tstLsr {} [] { inSweep := true }).beamOver 1 = false ∧ (tst [(1, F.LSR_STATUS_lso, 1)]).rd 1 F.LSR_STATUS_lso = 1 ∧
    ((∀ p ∈ (tstLsr { pulses := [(0, 10), (1011, 1020)] }).lsr 1 |>.pulses, 1010 < p.1 ∨ p.2 + 1000 ≤ 1010) ∧ 100 ≤ 100 ∧
      (State.reset.lsr 1).strayThr.getD (State.reset.rd 1 F.LSR_WD_stray_thr) < 4095) ∧
    ¬(∀ p ∈ (tstLsr { pulses := [(0, 10)] }).lsr 1 |>.pulses, 1009 < p.1 ∨ p.2 + 1000 ≤ 1009) ∧
    ¬(∀ p ∈ (tstLsr { pulses := [(1010, 1020)] }).lsr 1 |>.pulses, 1010 < p.1 ∨ p.2 + 1000 ≤ 1010) ∧
    (((tstLsr { okSince := some 0, reentry := 1 }).lsr 1).okSince = some 0 ∧ 0 + 1000000 * 1 ≤ { tstLsr {} with now := 1000000 }.now) := by decide

theorem test_witness_Registration :
    State.reset.rd 0 (F.RGC_SENS_CFG_en 7) = 0 ∧ (tst [(0, F.RGC_SENS_CFG_en 7, 1)]).rd 0 (F.RGC_SENS_CFG_en 7) = 1 ∧
    (tstMark (tstAct 0 7 3) true).rgc.wins[0]? = some ⟨3, some tstGeo, [], false⟩ ∧ State.reset.vel = 0 ∧ State.reset.hasStn 7 = true ∧ 7 < State.reset.rgc.stns.length ∧
    State.reset.rgcOwned 1 = false ∧ (tst [(0, F.RGC_CTRL_en, 1), (0, F.RGC_CTRL_ref_stn, 1), (0, F.RGC_MARK_W_word 2 0, 0x80000)]).rgcOwned 2 = true ∧
    (State.reset.modRgc fun r => { r with raw := [[1, 2, 3], [4, 5, 6]] }).rgc.raw = [[1, 2, 3], [4, 5, 6]] ∧ State.reset.rgc.raw.length ≤ 256 ∧
    ((tst [(0, F.RGC_SENS_CFG_en 7, 1), (0, F.RGC_SENS_CFG_glitch_ns 7, 500)]).rd 0 (F.RGC_SENS_CFG_glitch_ns 7) ≤ 500 ∧
      (tst []).rgc.levels.getD 7 none ≠ some true ∧ ¬500 ≤ 499) ∧
    (State.reset.modRgc fun r => { r with levels := r.levels.set 7 (some true) }).rgc.levels.getD 7 none = some true ∧
    State.reset.rgc.strNext ≤ State.reset.now ∧ State.reset.now < (State.reset.modRgc fun r => { r with strNext := 1 }).rgc.strNext ∧
    ((tst [(0, F.RGC_CTRL_en, 1), (0, F.RGC_CTRL_ref_stn, 1), (0, F.RGC_MARK_W_word 2 0, 0x80000), (0, F.RGC_STATE_loss 2, 0)]).rd 0 F.FRM_STATUS_stopping = 0 ∧
      (tst [(0, F.RGC_STATE_loss 2, 1)]).rd 0 (F.RGC_STATE_loss 2) ≠ 0 ∧ 2 ∈ State.reset.stns ∧ 2 < State.reset.rgc.stns.length) ∧
    (∀ n ∈ State.reset.stns, State.reset.promotes n 4 = false) ∧ 0xFFFFF < 0x100000 := by decide

/-- A die with one slot: its configuration, state and what stands behind its registers. -/
def tstSlot (d i : Nat) (x : Slot) (l : List (Nat × Fld × Nat)) : State := (tst l).modLpe d fun p => { p with slots := [(i, x)] }

theorem test_witness_SlotTriggers :
    State.reset.hasSlot 7 23 = true ∧ 7 < State.reset.lpes.length ∧ (tst [(7, F.LPE_SLOT_CFG_trig 23, 1)]).rd 7 (F.LPE_SLOT_CFG_trig 23) = 1 ∧
    State.reset.slotSampling 7 23 = false ∧ (tst [(7, F.LPE_SLOT_STATUS_state 23, slotForced)]).slotSampling 7 23 = true ∧
    ((tstSlot 7 23 { ready := some 0 } []).slot 7 23).ready.isSome = true ∧ ((tstSlot 7 23 {} []).slot 7 23).ready = none ∧
    (tst [(7, F.LPE_SLOT_CFG_trig 23, 2)]).rd 7 (F.LPE_SLOT_CFG_trig 23) = 2 ∧ (tst [(7, F.LPE_SLOT_STATUS_state 23, slotRamp)]).slotState 7 23 = slotRamp ∧
    State.reset.slotState 7 23 ≠ slotRamp ∧ (tstSlot 7 23 { lastTrig := some 0 } []).now < 0 + 10000 ∧
    ((tstSlot 7 23 { lastTrig := some 0 } []).modNow fun _ => 10000).now = 0 + 10000 ∧ ((tstSlot 7 23 { held := some 0 } []).slot 7 23).held.isSome = true ∧
    State.reset.slotDue 7 23 ≤ State.reset.now ∧ (tstSlot 7 23 { lastTrig := some 0 } []).now < (tstSlot 7 23 { lastTrig := some 0 } []).slotDue 7 23 ∧
    (tst [(7, F.LPE_SLOT_CFG_trig 23, 2)]).rd 7 (F.LPE_SLOT_CFG_trig 23) ≠ 1 ∧ (State.reset.slot 7 23).held = none ∧
    ((tstSlot 7 23 { held := some 0, lastTrig := some 0 } []).slot 7 23).lastTrig.getD 0 + 10000 ≤ 10000 ∧
    (tstSlot 7 23 { lastTrig := some 0 } []).now < ((tstSlot 7 23 { lastTrig := some 0 } []).slot 7 23).lastTrig.getD 0 + 10000 := by decide

theorem test_witness_Overruns :
    (tstSlot 0 47 { ready := some 0, ovrRun := 3 } [(0, F.LPE_SLOT_CFG_trig 47, 1), (0, F.LPE_SLOT_STATUS_state 47, slotRun)]).slotSampling 0 47 = true ∧
    State.reset.hasSlot 0 47 = true ∧ ((tstSlot 0 47 { ready := some 0, ovrRun := 3 } []).slot 0 47).ready.isSome = true ∧
    3 ≤ ((tstSlot 0 47 { ready := some 0, ovrRun := 3 } []).slot 0 47).ovrRun ∧ ((tstSlot 0 47 { ready := some 0, ovrRun := 2 } []).slot 0 47).ovrRun < 3 ∧
    State.reset.shadowed .lpeOverrun = false ∧ (tst [(0, F.LPE_SLOT_CFG_trig 47, 2), (0, F.LPE_SLOT_STATUS_state 47, slotRun)]).slotState 0 47 = slotRun ∧
    (tst [(0, F.LPE_SLOT_CFG_fclass 47, 1)]).slotClass 0 47 ≠ .c ∧ State.reset.slotState 0 47 ≠ slotForced ∧
    ((tstSlot 0 47 { held := some 0, lastTrig := some 0 } []).slot 0 47).held.isSome = true ∧
    ((tstSlot 0 47 { ready := some 0 } []).slot 0 47).lastTrig = none ∧ (tstSlot 0 47 { ready := some 0 } []).nextSlot 0 = some 47 ∧
    (tstSlot 0 47 { ready := some 0 } []).slotDue 0 47 ≤ 0 ∧ State.reset.promotes 0 (fltPos 0 .lpe) = false ∧
    ((State.reset.lpeRecent 0).length < lpeCapacity 0) := by decide

def tstUpd (seeded : Bool) (ok : Nat) : State :=
  tstSlot 7 23 { ready := some 0, seeded := seeded } [(7, F.LPE_SLOT_STATUS_state 23, slotRun), (7, F.LPE_SLOT_SLOPE_slope 23, ok), (7, F.LPE_SLOT_LIM_HI_lim_hi 23, 0x7FFFF), (7, F.LPE_SLOT_SRC_fb_src 23, 0)]

theorem test_witness_SlotUpdates :
    State.reset.nextSlot 7 = none ∧ (tstUpd true 1).nextSlot 7 = some 23 ∧ (tstUpd true 1).slotState 7 23 = slotRun ∧ (tstUpd true 1).rd 7 (F.LPE_SLOT_CFG_ctx 23) = 0 ∧
    ((tstUpd true 1).slotFeedback 7 23 0 true).2 = true ∧ ((tstUpd true 1).slotFeedback 7 23 0 false).2 = false ∧ ((tstUpd true 1).slot 7 23).seeded = true ∧
    ((tstUpd false 1).slot 7 23).seeded = false ∧ (tstUpd true 1).rd 7 (F.LPE_SLOT_SLOPE_slope 23) ≠ 0 ∧
    ((tstUpd true 1).slotLimits 7 23).1 ≤ ((tstUpd true 1).slotLimits 7 23).2 ∧
    ((tstUpd true 1).lpeRecent 7).length < lpeCapacity 7 ∧
    lpeCapacity 7 ≤ ((State.reset.modLpe 7 fun p => { p with updates := List.replicate 6 0 }).lpeRecent 7).length ∧
    ((tstSlot 7 23 { ready := some 0, chan := some 39 } [(7, F.LPE_SLOT_STATUS_state 23, slotRun), (7, F.LPE_SLOT_CFG_ctx 23, 1)]).slot 7 23).chan = some 39 ∧
    (tstSlot 7 23 { ready := some 0, chan := some 39 } [(7, F.LPE_SLOT_STATUS_state 23, slotRun), (7, F.LPE_SLOT_CFG_ctx 23, 1)]).nextSlot 7 = some 23 ∧
    (tst [(7, F.LPE_SLOT_CFG_ctx 23, 1)]).rd 7 (F.LPE_SLOT_CFG_ctx 23) = 1 ∧ 7 < State.reset.lsrs.length ∧
    (tst [(7, F.LPE_SLOT_STATUS_state 23, slotRun)]).slotState 7 23 = slotRun ∧ (tstUpd true 0).rd 7 (F.LPE_SLOT_SLOPE_slope 23) = 0 := by decide

theorem test_witness_SlotCommands :
    State.reset.slotMayStart 7 23 = true ∧ (tst [(7, F.LPE_SLOT_STATUS_state 23, slotFaulted)]).slotMayStart 7 23 = false ∧
    (tst [(7, F.LPE_SLOT_STATUS_state 23, slotFaulted)]).slotState 7 23 = slotFaulted ∧ State.reset.slotState 7 23 ≠ slotFaulted ∧ 0xFFFFF < 0x100000 ∧
    clampI (State.reset.slotHard 7 23).1 (State.reset.slotHard 7 23).2 (sgn 20 0) < (tst [(7, F.LPE_SLOT_LIM_LO_lim_lo 23, 1)]).rdS 7 (F.LPE_SLOT_LIM_LO_lim_lo 23) ∧
    ¬clampI (State.reset.slotHard 7 23).1 (State.reset.slotHard 7 23).2 (sgn 20 0) < State.reset.rdS 7 (F.LPE_SLOT_LIM_LO_lim_lo 23) ∧
    (tst [(7, F.LPE_SLOT_LIM_HI_lim_hi 23, 0xFFFFF)]).rdS 7 (F.LPE_SLOT_LIM_HI_lim_hi 23) <
      clampI (State.reset.slotHard 7 23).1 (State.reset.slotHard 7 23).2 (sgn 20 0) := by decide

def tstHv (w : List (Nat × Nat)) (r : Option Nat) (l : List (Nat × Fld × Nat)) : State := (tst l).modHvc 7 fun h => { h with watch := w, rerun := r }

theorem test_witness_HighVoltage :
    7 < State.reset.hvcs.length ∧ ((tstHv [(7, 0)] none []).hvc 7).watch.any (fun w => w.1 == 7 && decide (w.2 + 1000000 * ((tstHv [(7, 0)] none []).hvc 7).disMs ≤ 500000000)) = true ∧
    ((tstHv [(7, 0)] none []).hvc 7).watch.any (fun w => w.1 == 7 && decide (w.2 + 1000000 * ((tstHv [(7, 0)] none []).hvc 7).disMs ≤ 499999999)) = false ∧
    (State.reset.hvc 7).disThr = 50 ∧ 50 * 524288 ≤ (satS 20 (-26215)).natAbs * 1000 ∧ ¬(50 * 524288 ≤ (satS 20 26214).natAbs * 1000) ∧
    State.reset.promotes 7 (fltPos 7 .hvc) = false ∧
    ((tstHv [] (some 0) [(7, F.HVC_STATUS_chg_forbid, 1), (7, F.HVC_STATUS_charge_ok, 1)]).hvc 7).rerun = some 0 ∧
    (tstHv [] (some 0) [(7, F.HVC_STATUS_chg_forbid, 1), (7, F.HVC_STATUS_charge_ok, 1)]).rd 7 F.HVC_STATUS_chg_forbid = 1 ∧
    (tstHv [] (some 0) [(7, F.HVC_STATUS_chg_forbid, 1), (7, F.HVC_STATUS_charge_ok, 1)]).rd 7 F.HVC_STATUS_charge_ok = 1 ∧
    (tstHv [] (some 0) []).gatedSlots 7 = [] ∧
    (((State.reset.hvc 7).arc * 64 : Nat) : Int) ≤ posDiff (((tst []).modLink 7 fun l => { l with rep := 0x7FFFFFF * 4096000 }).tbTick 7) 0 ∧
    (tstHv [] (some 0) []).rd 7 F.HVC_STATUS_chg_forbid = 0 := by decide

/-- The fuser in a state, with registers and frames in progress. -/
def tstFsr (st : Nat) (l : List (Nat × Fld × Nat)) (run : Bool := false) (bad : List Nat := []) : State :=
  ((tst ([(0, F.FSR_STATUS_state, st)] ++ l)).modFsr fun f => { f with bad := bad }).modFrm fun m => { m with frames := [{ tstFrame with started := run }] }

/-- A phase heater whose firing the last crossing decided, at its delay. -/
def tstFires : State :=
  (tstFsr fsrReady [(0, F.FSR_HTR_CFG_mode 3, 2), (0, F.FSR_STATUS_mains_ok, 1)]).modFsr fun f => { f with phase := [false, false, false, true] }

/-- A fuser some seconds after its zones were in their bands, one left its band and the last frame closed; and one early in a half-cycle. -/
def tstBands : State :=
  { (tstFsr fsrReady []).modFsr fun f => { f with inAt := some 0, readyMs := 1000, outAt := [none, none, none, some 0], idleAt := 0, idleS := 1 } with
    now := 1000000000 }
def tstHalf : State := (tst []).modWtb fun w => { w with mainsPeriod := 20000000 }

theorem test_witness_Fuser :
    State.reset.fsr.out.length = 4 ∧ (tstFsr fsrStandby []).fsrState = fsrStandby ∧ (tstFsr fsrOff []).fsrState = fsrOff ∧ (tstFsr fsrReady []).fsrState = fsrReady ∧
    (tstFsr fsrTrip []).fsrState = fsrTrip ∧ (tstFsr fsrTrip []).fsrAnyHot = false ∧
    (tstFsr fsrTrip [(0, F.FSR_TEMP_temp 5, 0x7FFFF)]).fsrAnyHot = true ∧
    ends (.fuserTempSample 0 0x7FFFF true) (tstFsr fsrReady []) (·.fsrTooHot) = true ∧ ends (.fuserTempSample 0 0 true) (tstFsr fsrReady []) (·.fsrTooHot) = false ∧
    (tstFsr fsrWarmup []).fsrState = fsrWarmup ∧ (tstFsr fsrWarmup [(0, F.FSR_HTR_CFG_zone 0, 0), (0, F.FSR_HTR_CFG_zone 1, 0), (0, F.FSR_HTR_CFG_zone 2, 0), (0, F.FSR_HTR_CFG_zone 3, 0)]).zonesInBand = true ∧
    (tstFsr fsrReady [(0, F.FSR_HTR_CFG_zone 3, 1), (0, F.FSR_TEMP_temp 3, 0x7FFFF), (0, F.FSR_HTR_CFG_temp_in 3, 3)] true).zonesInBand = false ∧
    (tstFsr fsrReady [] true).framesInProgress ≠ [] ∧ (tstFsr fsrReady []).framesInProgress = [] ∧
    ((tstFsr fsrReady [(0, F.FSR_CTRL_auto_stby, 1)]).fsrTakeAuto).fsr.autoStby = true ∧ (tstFsr fsrReady []).fsr.autoStby = false ∧
    tstFires.heaterMode 3 = 2 ∧ tstFires.rd 0 F.FSR_STATUS_mains_ok = 1 ∧ tstFires.heaterHeld 3 = false ∧ tstFires.fsr.phase.getD 3 false = true ∧
    tstFires.fsr.halfAt * 1048576 + tstFires.fsr.delay.getD 3 0 * tstFires.wtb.mainsPeriod ≤ tstFires.now * 1048576 ∧
    (∃ a, tstBands.fsr.inAt = some a ∧ a + 1000000 * tstBands.fsr.readyMs ≤ tstBands.now) ∧
    (∃ o ∈ tstBands.fsr.outAt, ∃ a, o = some a ∧ a + 100000000 ≤ tstBands.now) ∧
    tstBands.fsr.idleAt + 1000000000 * max 1 tstBands.fsr.idleS ≤ tstBands.now ∧
    2 * (tstHalf.now + 1000 * tstHalf.fsr.guard) < 2 * tstHalf.fsr.halfAt + tstHalf.wtb.mainsPeriod ∧
    2 * tstBands.fsr.halfAt + tstBands.wtb.mainsPeriod ≤ 2 * (tstBands.now + 1000 * tstBands.fsr.guard) ∧
    (tstFsr fsrReady [(0, F.FSR_HTR_CFG_mode 3, 1)]).heaterMode 3 = 1 ∧ (tstFsr fsrReady [(0, F.FSR_HTR_CFG_mode 3, 3)]).heaterMode 3 ≠ 1 ∧
    (tstFsr fsrReady [] false [5]).fsr.bad.contains 5 = true ∧ (tstFsr fsrReady []).fsr.bad.contains 5 = false ∧
    (tstFsr fsrReady [(0, F.FSR_HTR_CFG_temp_in 3, 5)]).rd 0 (F.FSR_HTR_CFG_temp_in 3) = 5 := by decide

/-- A channel in a state, what stands behind it, and registers. -/
def tstCh (d k st : Nat) (x : Chan) (l : List (Nat × Fld × Nat)) : State := (tst ([(d, F.MDR_CH_STATUS_state k, st)] ++ l)).modChan d k fun _ => x

/-- A channel that caught its motor: four estimates of 1,000 units that agree. -/
def tstCaught : Chan := { bemfMin := 100, ests := [(200, 1000, 0), (200, 1000, 0), (200, 1000, 0), (200, 1000, 0)] }

theorem test_witness_MotorChannels :
    State.reset.hasChan 7 4 = true ∧ 4 < (State.reset.chans.getD 7 []).length ∧ State.reset.chState 7 4 = chOff ∧
    roleMode (State.reset.role 7 4) (State.reset.rd 7 (F.MDR_CH_CFG_ref_mode 4)) = true ∧ ¬(tstCh 7 4 chRun {} []).chState 7 4 = chOff ∧
    (tst [(7, F.MDR_CH_CFG_catch_en 4, 1)]).rd 7 (F.MDR_CH_CFG_catch_en 4) = 1 ∧ (tst [(7, F.MDR_CH_CFG_catch_en 4, 0)]).rd 7 (F.MDR_CH_CFG_catch_en 4) = 0 ∧
    (tstCh 7 4 chCatch {} []).chState 7 4 = chCatch ∧ (tstCh 7 4 chAlign {} []).chState 7 4 = chAlign ∧ (tstCh 7 4 chHold {} []).chState 7 4 = chHold ∧
    (tstCh 0 3 chRun { fStop := true } [(0, F.MDR_CH_CFG_role 3, 1)]).tensionRests 0 3 = true ∧ State.reset.tensionRests 7 4 = false ∧
    (tstCh 7 4 chCoast {} []).chState 7 4 = chCoast ∧ (tstCh 7 4 chBrake {} []).chState 7 4 = chBrake ∧
    (((tst [(7, F.MDR_STATUS_bus_ok, 0)]).modBus 7 fun b => { b with sampled := true }).bus 7).sampled = true ∧ (tst [(7, F.MDR_STATUS_bus_ok, 0)]).rd 7 F.MDR_STATUS_bus_ok = 0 ∧
    ¬((State.reset.bus 7).sampled = true ∧ State.reset.rd 7 F.MDR_STATUS_bus_ok = 0) ∧
    0 < ((tstCh 7 4 chCatch { bemfMin := 100 } []).chan 7 4).bemfMin ∧ ((tstCh 7 4 chCatch { bemfMin := 100 } []).chan 7 4).bemfMin ≤ 100 ∧
    0 < (tstCh 0 3 chCatch {} [(0, F.MDR_CH_REF_ref 3, 100), (0, F.MDR_CH_CFG_ref_mode 3, 0), (0, F.MDR_CH_CFG_role 3, 1)]).chReference 0 3 ∧
    ¬(-0x100000 : Int).natAbs ≤ 8 * (tst [(0, F.MDR_CH_REV_MAX_rev_max 3, 1)]).rd 0 (F.MDR_CH_REV_MAX_rev_max 3) ∧
    (-8 : Int).natAbs ≤ 8 * (tst [(0, F.MDR_CH_REV_MAX_rev_max 3, 1)]).rd 0 (F.MDR_CH_REV_MAX_rev_max 3) ∧
    State.reset.hasChan 7 2 = false ∧ (tst [(0, F.BAY_STATUS_trip, 1)]).rd 0 F.BAY_STATUS_trip = 1 ∧ State.reset.rd 0 F.BAY_STATUS_trip = 0 ∧
    (tstCh 7 4 chCatch tstCaught []).chState 7 4 = chCatch ∧ estsAgree ((tstCh 7 4 chCatch tstCaught []).chan 7 4).ests = true ∧
    ((tstCh 7 4 chCatch tstCaught []).chan 7 4).bemfMin ≤ (tstCaught.ests.headD (0, 0, 0)).1 ∧ estsAgree (State.reset.chan 7 4).ests = false ∧
    (State.reset.chan 7 4).catchAt + 100000 * (State.reset.chan 7 4).catchMs ≤ 2000000 ∧
    ((tstCh 7 4 chAlign { periods := 6250 } []).chan 7 4).periods * (tst []).pwmPeriod 7 4 ≥ 100000000 ∧
    (∃ a, ((tstCh 7 4 chHold { holdAt := some 0, holdMs := 0 } []).chan 7 4).holdAt = some a ∧
      a + 1000000 * ((tstCh 7 4 chHold { holdAt := some 0, holdMs := 0 } []).chan 7 4).holdMs ≤ State.reset.now) ∧
    ((tstCh 7 4 chCoast { gateLow := true } []).chan 7 4).gateLow = true ∧ ((tstCh 7 4 chCoast { fbBad := true } []).chan 7 4).fbBad = true ∧
    (tst [(7, F.MDR_CH_CFG_fb_kind 4, 3)]).rd 7 (F.MDR_CH_CFG_fb_kind 4) = 3 ∧ (tst [(7, F.MDR_CH_CFG_fb_kind 4, 1)]).rd 7 (F.MDR_CH_CFG_fb_kind 4) ≠ 0 := by decide

theorem test_witness_MotorLoops :
    (tstCh 0 3 chOff {} []).chState 0 3 = chOff ∧ (tstCh 0 3 chCatch {} []).chState 0 3 ≠ chOff ∧ (tstCh 0 3 chRun {} []).chState 0 3 = chRun ∧
    (tstCh 0 3 chStopping {} []).chState 0 3 = chStopping ∧ (tstCh 0 3 chRun {} []).chState 0 3 ≠ chCatch ∧ (tst [(0, F.MDR_STATUS_clamp, 0)]).rd 0 F.MDR_STATUS_clamp = 0 ∧
    (tst [(0, F.MDR_CH_CFG_ref_mode 3, 0)]).rd 0 (F.MDR_CH_CFG_ref_mode 3) ≠ 2 ∧ (tstCh 0 3 chRun { folAt := some 0, folMs := 0 } []).chFollowing 0 3 = true ∧ (tstCh 0 3 chRun { folAng := true } []).chFollowing 0 3 = true ∧
    (tst [(0, F.MDR_CH_CFG_ref_mode 3, 0)]).chFollowing 0 3 = false ∧ (tstCh 0 3 chCoast {} []).chState 0 3 = chCoast ∧ chRun ≠ chOff ∧
    (match exec (.speedSample 0 3) (tstCh 0 3 chStopping {} [(0, F.MDR_CH_DEC_MAX_dec_max 3, 1)]) with | .next t => (t.chan 0 3).lim | _ => 1) = 0 ∧
    State.reset.hasChan 7 4 = true ∧ State.reset.hasChan 7 1 = true ∧ 1 ≠ 4 ∧ 7 < State.reset.stations.length ∧
    (State.reset.chan 7 4).since < max 1 (State.reset.rd 7 (F.MDR_CH_SPD_DIV_spd_div 4)) ∧
    max 1 ((tstCh 7 4 chRun { since := 1 } [(7, F.MDR_CH_SPD_DIV_spd_div 4, 0)]).rd 7 (F.MDR_CH_SPD_DIV_spd_div 4)) ≤
      ((tstCh 7 4 chRun { since := 1 } []).chan 7 4).since ∧
    (((tstCh 7 4 chCatch { hall := 7 } [(7, F.MDR_CH_CFG_fb_kind 4, 0)]).chAngle 7 4 {}).chan 7 4).fbBad = false ∧
    (((tstCh 7 4 chRun { hall := 7, hallBad := true } [(7, F.MDR_CH_CFG_fb_kind 4, 0)]).chAngle 7 4 {}).chan 7 4).fbBad = true ∧

    ((tstCh 0 3 chStopping {} []).chan 0 3).unload = none := by decide

def tstBus (d : Nat) (b : Bus) (l : List (Nat × Fld × Nat)) : State := (tst l).modBus d fun _ => b

theorem test_witness_MotorBus :
    State.reset.hasDie 7 = true ∧ 7 < State.reset.buses.length ∧ 0xFFFFF < 0x100000 ∧ (tst [(0, F.MDR_STATUS_chop_on, 0)]).rd 0 F.MDR_STATUS_chop_on = 0 ∧
    (State.reset.bus 0).chopFault = false ∧ State.reset.rd 0 F.MDR_CHOP_ON_chop_on < 0xFFFFF ∧ (State.reset.bus 0).lastSwitch = 0 ∧
    (tst [(0, F.MDR_STATUS_chop_on, 1)]).rd 0 F.MDR_STATUS_chop_on = 1 ∧ 0 < min (State.reset.rd 0 F.MDR_CHOP_ON_chop_on) (State.reset.rd 0 F.MDR_CHOP_OFF_chop_off) ∧
    ¬(((tstBus 0 { lastSwitch := 1 } []).bus 0).lastSwitch = 0 ∨ ((tstBus 0 { lastSwitch := 1 } []).bus 0).lastSwitch + 10000 ≤ (tstBus 0 { lastSwitch := 1 } []).now) ∧
    ((tstBus 0 { chopFault := true } []).bus 0).chopFault = true ∧ State.reset.rd 7 F.MDR_BUS_TRIP_trip < 0xFFFFF ∧
    State.reset.rd 7 F.MDR_BUS_V_v ≤ State.reset.rd 7 F.MDR_BUS_TRIP_trip ∧ 0 ≤ State.reset.rd 7 F.MDR_BUS_TRIP_trip ∧
    (tst [(7, F.MDR_BUS_UV_uv, 1)]).rd 7 F.MDR_BUS_V_v < (tst [(7, F.MDR_BUS_UV_uv, 1)]).rd 7 F.MDR_BUS_UV_uv ∧
    (tst [(7, F.MDR_BUS_UV_uv, 0)]).rd 7 F.MDR_BUS_UV_uv ≤ (tst [(7, F.MDR_BUS_UV_uv, 0)]).rd 7 F.MDR_BUS_V_v ∧ ¬(State.reset.bus 0).det ≤ (State.reset.bus 0).shortRun ∧ (tstBus 0 { shortRun := 100, det := 100 } []).chopFaulty .shorted = true ∧
    (tstBus 0 { openRun := 100, det := 100 } []).chopFaulty .openCircuit = true ∧ (tstBus 0 { slopeRun := 100, det := 100 } []).chopFaulty .slope = true ∧
    (State.reset.bus 7).uvRun < 1000 ∧ 1000 ≤ ((tstBus 7 { uvRun := 1000 } []).bus 7).uvRun ∧ 0 < State.reset.buses.length ∧
    (tst [(0, F.MDR_CHOP_ON_chop_on, 9), (0, F.MDR_BUS_V_v, 10)]).rd 0 F.MDR_CHOP_ON_chop_on < (tst [(0, F.MDR_BUS_V_v, 10)]).rd 0 F.MDR_BUS_V_v ∧
    State.reset.rd 0 F.MDR_BUS_V_v ≤ State.reset.rd 0 F.MDR_CHOP_ON_chop_on := by decide

def tstReleased (l : List (Nat × Fld × Nat)) : State := (tst l).modBoot fun b => { b with phase := .released }

theorem test_witness_ProfileStep :
    State.reset.boot.phase ≠ .released ∧ (tstReleased []).boot.phase = .released ∧ (tst [(0, F.AXS_WEB_JERK_web_jerk, 0)]).rd 0 F.AXS_WEB_JERK_web_jerk = 0 ∧
    State.reset.rd 0 F.MDR_STATUS_clamp = 0 ∧ State.reset.axState 7 ≠ axMove ∧ (tst [(0, F.AXS_AX_STATUS_state 7, axHold)]).axState 7 = axHold ∧
    (State.reset.axis 7).newTgt = false ∧ (tst [(0, F.AXS_CTRL_bus_en, 0)]).rd 0 F.AXS_CTRL_bus_en = 0 ∧ (tst [(0, F.AXS_CTRL_bus_en, 1)]).rd 0 F.AXS_CTRL_bus_en = 1 := by decide

theorem test_witness_AxisCommands :
    7 < State.reset.axes.length ∧ State.reset.axState 7 = axOff ∧ (tst [(0, F.AXS_AX_STATUS_state 7, axFault)]).axState 7 = axFault ∧
    (tst [(0, F.AXS_AX_STATUS_state 7, axHold)]).axState 7 = axHold ∧ (tst [(0, F.AXS_AX_STATUS_state 7, axMove)]).axState 7 = axMove ∧ axMove ≤ axMove ∧ axHold < axMove ∧
    State.reset.axState 7 ≠ axFault := by decide

def tstThm (d : Nat) (x : ThmDie) (l : List (Nat × Fld × Nat)) : State := (tst l).modThmDie d fun _ => x

theorem test_witness_Temperatures :
    State.reset.hasDie 7 = true ∧ 7 < State.reset.thms.length ∧ State.reset.variantOk = true ∧ thmValid (-551) = false ∧ thmValid (-550) = true ∧ thmValid 1500 = true ∧
    thmValid 1501 = false ∧ State.reset.rd 7 (F.THM_SENS_fail 7) = 0 ∧ State.reset.thmLive 7 ≠ [] ∧ (tst [(7, F.THM_EXT_CFG_role 3, 1)]).rd 7 (F.THM_EXT_CFG_role 3) ≠ 0 ∧
    fracValid 0 = false ∧ (tst [(7, F.THM_STATUS_write_ok, 1)]).rd 7 F.THM_STATUS_write_ok = 1 ∧ (tst [(7, F.THM_DIE_max, 1001)]).writeInside 7 0 = false ∧
    (tst [(7, F.THM_EXT_CFG_role 3, 2), (7, F.THM_EXT_TEMP_temp 3, 1000)]).chargeInside 7 0 = false ∧ (tst [(7, F.THM_STATUS_charge_ok, 1)]).rd 7 F.THM_STATUS_charge_ok = 1 ∧
    (tstThm 7 { wrGood := 15, chgGood := 15 } []).rd 7 F.THM_STATUS_write_ok = 0 ∧ (tstThm 7 { wrGood := 15, chgGood := 15 } []).thmConf ≤ ((tstThm 7 { wrGood := 15, chgGood := 15 } []).thmDie 7).wrGood ∧
    (tstThm 7 { wrGood := 15, chgGood := 15 } []).rd 7 F.THM_STATUS_charge_ok = 0 ∧ (tstThm 7 { wrGood := 15, chgGood := 15 } []).thmConf ≤ ((tstThm 7 { wrGood := 15, chgGood := 15 } []).thmDie 7).chgGood := by decide

/-- Every die has seen enough conversions for each decision. -/
def tstRuns (x : ThmDie) (l : List (Nat × Fld × Nat)) : State := { tst l with thms := List.replicate 8 x }

/-- A state with a frame in progress and a speed of the web. -/
def tstFin (v budget : Nat) : State :=
  (tstRuns { critRun := 16 } [(0, F.WTB_VEL_vel, v), (0, F.THM_CRIT_BUDGET_crit_budget, budget)]).modFrm fun m => { m with frames := [{ tstFrame with started := true }] }

/-- The same at rest, with the frame's end behind the web. -/
def tstFinPast : State := (tstFin 0 0).modFrm fun m => { m with frames := [{ tstFrame with started := true, stop := 0xFF00000000 }] }

/-- A web at rest for long enough. -/
def tstRest (l : List (Nat × Fld × Nat)) : State := (tst l).modWtb fun w => { w with zeroSince := some 0 }

theorem test_witness_ThermalPhases :
    (tstRuns { warnRun := 16 } []).rd 0 F.THM_PSTATUS_warn = 0 ∧ 0 ∈ (tstRuns { warnRun := 16 } []).dies ∧ (tstRuns { warnRun := 16 } []).thmConf ≤ ((tstRuns { warnRun := 16 } []).thmDie 0).warnRun ∧
    (tst [(0, F.THM_PSTATUS_warn, 1)]).rd 0 F.THM_PSTATUS_warn = 1 ∧ (tstRuns { coolRun := 16 } []).warnOver = true ∧ State.reset.warnOver = false ∧
    (tst [(0, F.THM_PSTATUS_grace_run, 1)]).rd 0 F.THM_PSTATUS_grace_run = 1 ∧ State.reset.rd 0 F.THM_PSTATUS_grace_run = 0 ∧
    (tst [(0, F.THM_SLOW_V_slow_v, 5), (0, F.WTB_VEL_vel, 6)]).rd 0 F.THM_SLOW_V_slow_v < (tst [(0, F.THM_SLOW_V_slow_v, 5), (0, F.WTB_VEL_vel, 6)]).vel ∧
    (tst [(0, F.THM_SLOW_V_slow_v, 5), (0, F.WTB_VEL_vel, 5)]).vel ≤ (tst [(0, F.THM_SLOW_V_slow_v, 5)]).rd 0 F.THM_SLOW_V_slow_v ∧
    (State.reset.modThm fun t => { t with releasing := true }).thm.releasing = true ∧
    (tstFin 5 0).rd 0 F.THM_PSTATUS_crit = 0 ∧ (tstFin 5 0).critDue = true ∧ (tstFin 5 0).rd 0 F.FLT_PKG_state = 0 ∧ (tstFin 5 0).rd 0 F.THM_PSTATUS_phase = 0 ∧
    (tstFin 5 0).framesInProgress ≠ [] ∧ ¬(tstFin 5 0).finishFits (tstFin 5 0).finishPoint = true ∧
    (tstFin 1048575 1048575).finishFits (tstFin 1048575 1048575).finishPoint = true ∧ 0 < (tstFin 1048575 1048575).finishPoint ∧
    (tstFinPast).finishFits tstFinPast.finishPoint = true ∧ tstFinPast.finishPoint ≤ 0 ∧ tstFinPast.framesInProgress ≠ [] ∧
    ((tst [(0, F.WTB_VEL_vel, 1)]).webDue 0 (tst []).thm.pfin).isSome = true ∧ (State.reset.webDue 0 State.reset.thm.pfin).isSome = false ∧ (tstRuns { critRun := 16 } []).framesInProgress = [] ∧
    (tst [(0, F.THM_PSTATUS_phase, 1)]).rd 0 F.THM_PSTATUS_phase = 1 ∧
    (tst [(0, F.THM_PSTATUS_phase, 2)]).rd 0 F.THM_PSTATUS_phase = 2 ∧ (tst []).vel = 0 ∧ (State.reset.hvc 7).causes ≠ [] ∧
    ((State.reset.modHvc 7 fun h => { h with causes := [] }).hvc 7).causes = [] ∧ (tst [(7, F.THM_STATUS_trip, 1)]).rd 7 F.THM_STATUS_trip = 1 ∧ State.reset.rd 0 F.BAY_STATUS_trip = 0 ∧
    (State.reset.modThm fun t => { t with graceAt := 0 }).thm.graceAt ≤ State.reset.now ∧ State.reset.now < (State.reset.modThm fun t => { t with graceAt := 1 }).thm.graceAt ∧
    (State.reset.modThm fun t => { t with releaseAt := 0 }).thm.releaseAt ≤ State.reset.now ∧ (State.reset.modWtb fun w => { w with zeroSince := none }).webRested = false ∧
    (tstRest [(0, F.THM_PSTATUS_phase, 2)]).webRested = true ∧ (tstRest [(0, F.THM_PSTATUS_phase, 2)]).rd 0 F.THM_PSTATUS_phase = 2 := by decide

def tstRep (cl : FClass) (busy : List (Nat × Nat × FClass × Nat)) : State :=
  State.reset.modFlt fun f => { f with inbox := [⟨7, 19, 0, cl, 0, [], 0, 0, false, false, false⟩], busy := busy }

theorem test_witness_FaultCollection :
    State.reset.flt.inbox = [] ∧ ((tstRep .c []).firstReport (tstRep .c []).flt.inbox).map (fun r => (r.die, r.pos, r.cls)) = some (7, 19, .c) ∧
    ((tstRep .u []).firstReport (tstRep .u []).flt.inbox).map (fun r => (((tstRep .u []).fltClass r).cls, ((tstRep .u []).oldReactions 0).busyClass r)) = some (.u, none) ∧
    ((tstRep .f []).firstReport (tstRep .f []).flt.inbox).map (fun r => (((tstRep .f []).fltClass r).cls, ((tstRep .f []).fltClass r).orderly)) = some (.f, false) ∧
    ((tstRep .u []).firstReport (tstRep .u []).flt.inbox).map (fun r => ((tstRep .u [(7, 19, .u, 0)]).oldReactions 0).busyClass r) = some (some .u) ∧
    ((tstRep .f []).firstReport (tstRep .f []).flt.inbox).map (fun r => ((tstRep .f [(7, 19, .f, 0)]).oldReactions 0).busyClass r) = some (some .f) ∧
    (tstRep .f []).flt.firstTaken = false ∧
    ((State.reset.modFlt fun f => { f with latched := f.latched ++ (tstRep .u []).flt.inbox }).flt.latched.find? fun r => r.die == 7 && r.pos == 19).map (·.cls) = some .u ∧
    (State.reset.flt.latched.find? fun r => r.die == 7 && r.pos == 19) = none := by decide

theorem test_witness_StopAndClear :
    (State.reset.modFlt fun f => { f with safeOffQ := [7] }).flt.safeOffQ = [7] ∧ State.reset.flt.safeOffQ = [] ∧
    ((State.reset.modHvc 7 fun h => { h with causes := [] }).hvc 7).causes = [] ∧ (tst [(0, F.FLT_PKG_state, 1)]).rd 0 F.FLT_PKG_state = 1 ∧
    (tstRest [(0, F.FLT_PKG_state, 1)]).webRested = true ∧ (tstRest [(0, F.FLT_PKG_state, 1)]).webHeld = false ∧
    (tstRest [(0, F.FLT_PKG_state, 1)]).rd 0 F.FLT_PKG_state = 1 ∧
    (State.reset.modFlt fun f => { f with shadows := [.lsoAsserted 7] }).flt.shadows.contains (.lsoAsserted 7) = true ∧
    (tst [(7, F.LSR_STATUS_lso, 1)]).shadowOver (.lsoAsserted 7) = false ∧
    ((State.reset.modFlt fun f => { f with held := [(.strayLight 7, ⟨7, 6, 0, .u, 0, [], 0, 0, false, false, false⟩)] }).shadowed (.strayLight 7) = false) ∧
    State.reset.promotes 7 6 = false ∧
    State.reset.flt.pulseAt + State.reset.flt.pulseNs ≤ { State.reset with now := State.reset.flt.pulseNs }.now ∧
    State.reset.now < (State.reset.modFlt fun f => { f with pulseNs := 1 }).flt.pulseAt + (State.reset.modFlt fun f => { f with pulseNs := 1 }).flt.pulseNs ∧ (State.reset.modPorts fun p => { p with motDly := true }).ports.motDly = true ∧
    (tst [(0, F.FSR_STATUS_state, fsrReady)]).fsrState = fsrReady ∧ (tst [(0, F.FLT_PKG_pin_mode, 1), (0, F.FLT_PIN_HOLD_hold, 0)]).rd 0 F.FLT_PKG_pin_mode = 1 ∧
    (tst [(0, F.FLT_PIN_HOLD_hold, 0)]).rd 0 F.FLT_PIN_HOLD_hold = 0 ∧ (tst [(7, F.FLT_F_ACTIVE_f_active, 1)]).rd 7 F.FLT_F_ACTIVE_f_active ≠ 0 ∧
    ¬(State.reset.rd 0 F.FLT_PKG_state = 1) ∧ (State.reset.dies.all fun d => decide (State.reset.rd d F.FLT_F_ACTIVE_f_active = 0)) = true ∧
    (State.reset.hvc 7).causes = [.fclass] ∧ ((State.reset.modStn 7 fun x => { x with line := [.fclass] }).stn 7).line = [.fclass] ∧
    State.reset.rd 0 F.THM_PSTATUS_phase = 0 := by decide

def tstEvr (e : Evr) (l : List (Nat × Fld × Nat) := []) : State := { tst l with evr := e }
def tstReq (crit : Bool) : EvrReq := ⟨1, crit, 5, 6, 7, 0, 8⟩

theorem test_witness_Recorder :
    State.reset.evr.queue = [] ∧ (tstEvr { frozen := true }).evr.frozen = true ∧ (tstEvr { queue := [tstReq true, tstReq false] }).evr.queue = tstReq true :: [tstReq false] ∧
    (tstEvr { queue := [tstReq true] }).evr.frozen = false ∧ State.reset.evr.pendLost = 0 ∧ (tstReq false).crit = false ∧ (tst [(0, F.EVR_CTRL_arc_en, 1)]).rd 0 F.EVR_CTRL_arc_en = 1 ∧
    (tstEvr { arcQ := List.replicate 7 [] }).evr.arcQ.length < 8 ∧ 8 ≤ (tstEvr { arcQ := List.replicate 8 [] }).evr.arcQ.length ∧ State.reset.evr.frzRefused = 0 ∧
    (tstEvr { frzRefused := 1 }).evr.frzRefused ≠ 0 ∧ (tst [(0, F.EVR_CURSOR_word, 7)]).rd 0 F.EVR_CURSOR_word = 7 ∧ (tst [(0, F.EVR_CURSOR_rec, 4095)]).rd 0 F.EVR_CURSOR_rec = 4095 ∧
    State.reset.rd 0 F.EVR_CURSOR_word = 0 ∧ State.reset.memErr 0 5 (2 * 4095) = 0 ∧ State.reset.memErr 0 5 (2 * 4095 + 1) = 0 ∧
    (tstEvr { latch := some [1, 2] }).evr.latch = some [1, 2] := by decide +kernel

/-- A store that writes, or holds a host append, with archive records waiting. -/
def tstLov (w : List LovWork) (h : Option JournalReq) (arc : List (List Nat)) (l : List (Nat × Fld × Nat) := []) : State :=
  { tst l with lov := { State.reset.lov with work := w, held := h }, evr := { State.reset.evr with arcQ := arc } }

/-- The reset state with a data record of a key in the journal. -/
def tstKeyed (part key : Nat) (pay : List (List Nat)) : State := State.reset.putAll ((⟨1, key, pay⟩ : JRec).writes part 0 1 0)

theorem test_witness_LovageStore :
    State.reset.evr.arcQ = [] ∧ State.reset.lov.work = [] ∧ State.reset.lovCut = false ∧
    { (State.reset : State) with bay := { State.reset.bay with failAt := some 0 }, now := 50000 }.lovCut = true ∧
    { (State.reset : State) with bay := { State.reset.bay with standby := true } }.bay.standby = true ∧ State.reset.bay.arcLeft = 0 ∧
    State.reset.bay.standby = false ∧ (tstLov [] none [[1]] [(0, F.LOV_STATUS_ready, 1)]).rd 0 F.LOV_STATUS_ready = 1 ∧
    (tstLov [] none [[1]]).evr.arcQ = [[1]] ∧ ((State.reset.curHalf 4).map fun h => decide ((State.reset.scanHalf 4 h).2 + 5 ≤ halfSize 4)) = some true ∧
    ((({ State.reset with lov := { State.reset.lov with cells := [] } } : State)).curHalf 4) = none ∧ (tstLov [.append 3 true [(0x60001, [1, 2, 3, 4])]] none []).lov.work = [.append 3 true [(0x60001, [1, 2, 3, 4])]] ∧
    (LovWork.append 3 true [(0x60001, [1, 2, 3, 4])]).next = some (0x60001, [1, 2, 3, 4]) ∧ State.reset.lovHost = false ∧ (tstLov [.append 3 true []] (some ⟨1, 0, []⟩) []).lovHost = true ∧ (tstLov [.append 3 true []] none []).lov.work ≠ [] ∧
    ((3 : Nat) ≠ 1 ∧ (3 : Nat) ≠ 2) ∧ State.reset.lovFull 64 = false ∧ State.reset.liveKey 3 (State.reset.rd40 0 P.LOV_JKEY) = none ∧
    (tstKeyed 3 0 [[1, 2, 3, 4]]).liveKey 3 ((tstKeyed 3 0 [[1, 2, 3, 4]]).rd40 0 P.LOV_JKEY) = some [[1, 2, 3, 4]] ∧
    State.reset.lovCompacts = none ∧ (tstLov [.compact 3 1 1 1 0 [] 0] none []).lovCompacts ≠ none ∧ 3 ≤ ({ State.reset with lov := { State.reset.lov with rdWord := 3 } } : State).lov.rdWord ∧
    State.reset.lov.rdWord < 3 ∧ halfSize 3 ≠ 0 := by decide +kernel

def tstBoot (p : Phase) (l : List (Nat × Fld × Nat) := []) : State := (tst l).modBoot fun b => { b with phase := p }

/-- The hub SRAM holds some bytes from address a on. -/
def tstSram (a : Nat) (b : List Nat) (s : State) : State := s.modMem 0 fun m => { m with bytes := (b.zipIdx a).filterMap fun x => if x.1 = 0 then none else some (x.2, x.1) }

theorem test_witness_Start :
    (499 : Nat) < 500 ∧ (1000 : Nat) ≤ 1000 ∧ State.reset.boot.phase = .reset ∧ (tstBoot .released).boot.phase ≠ .reset ∧
    min 15 ((tstBoot .reset [(0, F.BAY_RET_word 63, 2)]).rd 0 (F.BAY_RET_word 63) % 16 + 1) ≤ 3 ∧ 3 < min 15 ((tstBoot .reset [(0, F.BAY_RET_word 63, 3)]).rd 0 (F.BAY_RET_word 63) % 16 + 1) ∧
    State.reset.curHalf 5 ≠ none ∧ ({ State.reset with lov := { State.reset.lov with cells := [] } } : State).curHalf 5 = none ∧ (2 : Nat) % 4 = 2 ∧ (1 : Nat) % 4 < 2 ∧
    (tstBoot .window).boot.phase = .window ∧ ((tstBoot .window).sramBytes 0x1FFFF0 4).1 ≠ some [0x52, 0x55, 0x4E, 0x21] ∧
    ((tstSram 0x1FFFF0 [0x52, 0x55, 0x4E, 0x21] (tstBoot .window)).sramBytes 0x1FFFF0 4).1 = some [0x52, 0x55, 0x4E, 0x21] := by decide +kernel

/-- A message with a signature that stands for the key below it: r and s are both the message's own hash, so the key is the curve point of that hash less the base
point, and every step of the check has a small factor. -/
def tstSigned (m : List Nat) : List Nat := m ++ toBytesBE 32 (sha256 m) ++ toBytesBE 32 (sha256 m)

/-- The block of a signed command with nonce 0 and key slot 0, its last argument byte chosen so that the hash is on the curve. -/
def tstBlock (op : Nat) (arg : List Nat) (t : Nat) : List Nat :=
  tstSigned ([0x51, 0x47, 0x53, 0x43, op, 0, arg.length, 0, 0, 0, 0, 0] ++ arg ++ List.replicate (79 - arg.length) 0 ++ [t])

/-- An image of one target section and its signature: 200 bytes, serial 5. -/
def tstImage : List Nat :=
  let h := [0x51, 0x47, 0x49, 0x4D, 1, 0, 2, 0, 200, 0, 0, 0, 2, 0xB1, 0, 0, 5, 0, 0, 0] ++ List.replicate 43 0 ++ [1]
  let t := [1, 0, 0, 0, 96, 0, 0, 0, 36, 0, 0, 0, 0, 0, 0, 0, 0xFF, 0, 0, 0, 132, 0, 0, 0, 68, 0, 0, 0, 0, 0, 0, 0]
  let m := h ++ t ++ List.replicate 36 0
  m ++ [0, 0, 0, 0] ++ (tstSigned m).drop 132

/-- Key slot 0 holds a key. -/
def tstKey (x y : Nat) : State := (State.reset.bootAppend (keyRecord 0 (toBytesBE 32 x ++ toBytesBE 32 y) false) none).2

/-- A block in hub SRAM at CFG_UPD_SRC = 0 is read, has its form, the present nonce, and a signature of its key. -/
def tstAccepted (s : State) (op : Nat) (b : List Nat) : Bool :=
  let s := tstSram 0 b s
  let b := ((s.sramBytes s.updSrc 156).1).getD []
  let x := parseSigned b
  leAt b 4 1 == op && signedForm b && x.nonce == s.nonce && (match s.usableKey x.key with
    | some key => signatureOk (b.take 92) key (b.drop 92)
    | none => false)

theorem test_witness_Configuration_signed1 : tstAccepted (tstKey 0x5226fab3b2dd518883c7f297a0f916e4bf7c41af060d25dfc520a34d92119efd
    0x418cc729d41395654be7fe9923a7b1d176d9ae4fcbc5ce09e02633ef210f1fa9) 1 (tstBlock 1 (3 :: List.replicate 64 9) 1) = true := by decide +kernel
theorem test_witness_Configuration_signed2 : tstAccepted (tstKey 0x5ea50ef66cc2716aaaa58f73a6ae16f06a5219f0bf6c05ca0f9bdcec60e4c3a1
    0x1749def382e51f2155a0918aa48603cd31ef78c0bfe0d6d5bb8cb3b6a8d6b45a) 2 (tstBlock 2 [3] 2) = true ∧ (tstKey 1 1).otherKey 3 = true := by decide +kernel
theorem test_witness_Configuration_signed2_last : tstAccepted (tstKey 0xce76323d7fa41b24c5e2f33dcf84bce2e7134b03e57aa64374784ee5a6dc4fcb
    0xf40f1943fd9569fbd85aa96ed88e5246de1ed4fc1d4f513c00ab3071f76b8414) 2 (tstBlock 2 [0] 0) = true ∧ (tstKey 1 1).otherKey 0 = false := by decide +kernel
theorem test_witness_Configuration_signed3 :
    tstAccepted (tstKey 0x95ec7ce86d65335a8d8a5e60951d38098cb234e5bba3c4c3689eda5e2b47fc4
      0xb59d08d5cc1f31dddce603ce871e986792b1d4d3a6f09527d03dcd11c4915203) 3 (tstBlock 3 [7, 0, 0, 0] 1) = true ∧
    (tstKey 1 1).rollFloor ≤ leAt ((parseSigned (tstBlock 3 [7, 0, 0, 0] 1)).args) 0 4 ∧
    leAt ((parseSigned (tstBlock 3 [7, 0, 0, 0] 1)).args) 0 4 < ((tstKey 1 1).bootAppend (numRecord 2 8) none).2.rollFloor := by decide +kernel
theorem test_witness_Configuration_signed4 : tstAccepted (tstKey 0xadc42c473f1823d4da422af1e45062be4956068a10631845447b524a19c389d4
    0xba405aa7b2a80f712a334f7ca355c1f50f079bd26f7283a639c69651e9a785b) 4 (tstBlock 4 [] 1) = true := by decide +kernel
theorem test_witness_Configuration_signed5 : tstAccepted (tstKey 0xd85a8723ee5677d2ff8903af7dfd7071b405223d341869556cd2e311f534484b
    0x9d73b5b60620695624ccd2db60b1f7c2346f13a53aadf50181982763b0ebed34) 5 (tstBlock 5 [] 5) = true := by decide +kernel

def tstImg : State := tstKey 0x3b9d7114f7285a4e94017a498ee1b103b1e7800128a8b05cdb34594561a09a66 0x894eb7d1a6d90a711e6ccfeb385318d7199e8443942b9a8b381020f6882da6f7

theorem test_witness_Configuration_image : tstImg.verifyImage ((tstSram 0 tstImage tstImg).sramImage 0).1 (sourceMax 1) false = none := by decide +kernel

theorem test_witness_Configuration :
    State.reset.unlocked = false ∧ (State.reset.bootAppend (numRecord 3 1) none).2.unlocked = true ∧ State.reset.selSlot = 0 ∧ State.reset.selSlot ≠ 1 ∧
    State.reset.verifyImage (State.reset.sramImage 0).1 (sourceMax 1) false = some 1 ∧ State.reset.slotOk 1 = false ∧
    (let b := ((State.reset.sramBytes State.reset.updSrc 156).1).getD []; leAt b 4 1 ≠ 1 ∧ signedForm b = false) ∧
    (let s := tstSram 0 ([0x51, 0x47, 0x53, 0x43, 4, 0, 0, 0, 1]) State.reset
     signedForm (((s.sramBytes s.updSrc 156).1).getD []) = true ∧ (parseSigned (((s.sramBytes s.updSrc 156).1).getD [])).nonce ≠ s.nonce) ∧
    (let s := tstSram 0 ([0x51, 0x47, 0x53, 0x43, 4, 3, 0, 0, 0]) State.reset
     let x := parseSigned (((s.sramBytes s.updSrc 156).1).getD [])
     x.nonce = s.nonce ∧ s.usableKey x.key = none) := by decide +kernel

theorem test_witness_Configuration_slotOk : (tstImg.writeImage 1 tstImage []).slotOk 1 = true := by decide +kernel

def tstBay (b : Bay) (l : List (Nat × Fld × Nat) := []) : State := { tst l with bay := b }

theorem test_witness_BayPower :
    State.reset.standbyOk = true ∧ tstRun.standbyOk = false ∧ (tstBay { standby := true }).bay.standby = true ∧ (tstBay { down := true, again := true }).bay.again = true ∧
    (State.reset.dies.all fun d => decide (State.reset.rdS d F.THM_DIE_max < (State.reset.tripLevel : Int) - State.reset.rd 0 F.THM_HYST_hyst)) = true ∧
    ¬(tst [(7, F.THM_DIE_max, 1150)]).rdS 7 F.THM_DIE_max < (State.reset.tripLevel : Int) - State.reset.rd 0 F.THM_HYST_hyst ∧ 7 ∈ State.reset.dies ∧
    (tst [(0, F.BAY_CMP_CFG_en 0, 0)]).rd 0 (F.BAY_CMP_CFG_en 0) = 0 ∧ (tst [(0, F.BAY_CMP_CFG_en 0, 1)]).rd 0 (F.BAY_CMP_CFG_en 0) = 1 ∧ (tstBay { down := true }).bay.down = true ∧
    State.reset.bay.down = false ∧ (tstBoot .released).boot.phase ≠ .reset ∧ (tst [(0, F.BAY_CMP_CFG_en 3, 1)]).rd 0 (F.BAY_CMP_CFG_en 3) = 1 ∧
    (tst [(0, F.BAY_CMP_CFG_pwr_en 3, 1)]).rd 0 (F.BAY_CMP_CFG_pwr_en 3) = 1 ∧ ((tst [(0, F.BAY_WAKE_SRC_alarm_en, 1), (0, F.BAY_WAKE_SRC_alarm_pwr, 1)]).rd 0 F.BAY_WAKE_SRC_alarm_en = 1) ∧
    (tst [(0, F.BAY_WAKE_SRC_alarm_pwr, 1)]).rd 0 F.BAY_WAKE_SRC_alarm_pwr = 1 ∧ (tst [(0, F.BAY_WAKE_SRC_ext_pwr, 1)]).rd 0 F.BAY_WAKE_SRC_ext_pwr = 1 ∧
    (tst [(0, F.BAY_WAKE_SRC_ext_pwr, 0)]).rd 0 F.BAY_WAKE_SRC_ext_pwr = 0 ∧ State.reset.rd 0 F.BAY_WAKE_SRC_alarm_en = 0 ∧
    ((tstBay { standby := true, pdNs := 1000000 }).bay.sbyAt + 1000000 ≤ { State.reset with now := 1000000 }.now) ∧ ¬(0 + 1000000 ≤ State.reset.now) ∧
    (tstBay { down := true, again := true, fallAt := 0, offNs := 0 }).bay.fallAt + 0 ≤ State.reset.now ∧
    (tst [(0, F.BAY_CMP_CFG_en 0, 1), (0, F.BAY_STATUS_vmain_ok, 1), (0, F.BAY_VMAIN_THR_vmain_thr, 100)]).rd 0 F.BAY_STATUS_vmain_ok = 1 ∧
    (999 : Nat) < 10 * (tst [(0, F.BAY_VMAIN_THR_vmain_thr, 100)]).rd 0 F.BAY_VMAIN_THR_vmain_thr ∧
    ¬(1000 : Nat) < 10 * (tst [(0, F.BAY_VMAIN_THR_vmain_thr, 100)]).rd 0 F.BAY_VMAIN_THR_vmain_thr ∧
    10 * ((tst [(0, F.BAY_VMAIN_THR_vmain_thr, 100), (0, F.BAY_VMAIN_THR_vmain_hyst, 1)]).rd 0 F.BAY_VMAIN_THR_vmain_thr +
      (tst [(0, F.BAY_VMAIN_THR_vmain_thr, 100), (0, F.BAY_VMAIN_THR_vmain_hyst, 1)]).rd 0 F.BAY_VMAIN_THR_vmain_hyst) < 1011 ∧
    (tst [(0, F.BAY_STATUS_vmain_ok, 0)]).rd 0 F.BAY_STATUS_vmain_ok = 0 ∧
    (tst [(0, F.BAY_CMP_CFG_en 1, 1), (0, F.BAY_CMP_CFG_pol 1, 1)]).rd 0 (F.BAY_CMP_CFG_pol 1) = b2n true ∧
    (∃ p ∈ (tstBay { quad := some 1 }).bay.quad.toList, p ≠ 2 % 4) ∧ State.reset.bay.quad = none ∧
    (10 * (tst [(0, F.BAY_TEMP_THR_temp_hi, 800)]).rdS 0 F.BAY_TEMP_THR_temp_hi < (8001 : Int)) ∧
    ((tst [(0, F.BAY_WAKE_SRC_alarm_en, 1)]).rtcSec = (tst [(0, F.BAY_WAKE_SRC_alarm_en, 1)]).rd40 0 P.BAY_ALARM % 0x100000000 ∧
      (tst [(0, F.BAY_WAKE_SRC_alarm_en, 1)]).bay.alarmSec ≠ some 0) ∧
    (tstBay { alarmSec := some 0 }).bay.alarmSec = some 0 := by decide +kernel

/-- The service port between two requests, with the boot done. -/
def tstOn (l : List (Nat × Fld × Nat) := []) : State := tstBoot .released l

theorem test_witness_RegisterWrites :
    (tstOn).hostSees = true ∧ (tstOn).reach 7 0 = .open ∧ (tstOn).reach 0 0xB0044 = .open ∧ (tstOn).frmRuns = false ∧ ((tstOn).modFrm fun m => { m with frames := [tstFrame] }).frmRuns = true ∧
    (tstOn).reach 0 0xE0004 = .open ∧ (tstOn).svcServed = true ∧ (tstOn).svc.responding = false ∧ State.reset.svcServed = false ∧ 5 % 0x100000 ≠ ((tstOn).rdWord 0 0xB0044).toNat ∧
    ({ State.reset with svc := { State.reset.svc with responding := true }, now := 607638 }.svc.respAt + 70000000000 / baudRate State.reset.svc.baud ≤ 607638) ∧
    ¬(0 + 70000000000 / baudRate State.reset.svc.baud ≤ State.reset.now) := by decide

theorem test_witness_UnlistedOffsets :
    0xFFFFC % 4 = 0 ∧ 0xFFFFC < 0x100000 ∧ findReg 7 0xFFFFC = none ∧ (tstOn).reach 7 0xFFFFC = .open ∧ (tstOn).hostSees = true ∧ (tstOn).svcServed = true ∧
    (tstOn).svc.responding = false ∧ ({ tstOn with nStn := 2 } : State).reach 3 0xFFFFC = .absent ∧ (tstBoot .recovery).reach 7 0 ≠ .absent ∧
    ((tstOn).modBoot fun b => { b with held := [7] }).reach 7 0 = .held := by decide

theorem test_witness_StaticToPulse :
    State.reset.rd 0 F.FLT_PKG_pin_mode = 0 ∧ State.reset.variantOk = true ∧ State.reset.hasDie 8 = false ∧
    State.reset.rd 8 F.FLT_STATUS_U_u = 0 ∧ State.reset.rd 8 F.FLT_STATUS_F_f = 0 ∧ (State.reset.release 0 []).flt.pulse = false ∧
    (tst [(7, F.FLT_STATUS_U_u, 1)]).faultN = true := by decide

/-- Channel 31 of the hub with a host read in flight that has failed some times. -/
def tstBurst (fails : Nat) : State := State.reset.modXch 0 31 fun c => { c with burst := some { start := 0, len := 4, fails := fails } }

theorem test_witness_HostEndpoint :
    (63 : Nat) < 64 ∧ ({ State.reset with hif := { State.reset.hif with pba := [63] } } : State).hif.pba.contains 63 = true ∧ State.reset.hif.pba.contains 63 = false ∧
    (true && false) = false ∧ State.reset.flt.hub19.contains 8 = false ∧ (State.reset.modFlt fun f => { f with hub19 := [8] }).flt.hub19.contains 8 = true ∧
    (tst [(0, F.FLT_PKG_state, 2)]).rd 0 F.FLT_PKG_state = 2 ∧ State.reset.rd 0 F.FLT_PKG_state ≠ 2 ∧ ((State.reset.modHvc 7 fun h => { h with causes := [] }).hvc 7).causes = [] ∧
    (State.reset.modPorts fun p => { p with motDly := true }).ports.motDly = true ∧
    (tst [(0, F.HIF_ILK_STATUS_ilk_a, 1), (0, F.HIF_ILK_STATUS_ilk_b, 0)]).rd 0 F.HIF_ILK_STATUS_ilk_a ≠ (tst [(0, F.HIF_ILK_STATUS_ilk_a, 1), (0, F.HIF_ILK_STATUS_ilk_b, 0)]).rd 0 F.HIF_ILK_STATUS_ilk_b ∧
    tstRun.frmRuns = true ∧ State.reset.frmRuns = false ∧ State.reset.rd 0 F.FLT_PKG_state ≠ 1 ∧ State.reset.boot.phase ≠ .test ∧ (tst [(0, F.FLT_PKG_state, 1)]).rd 0 F.FLT_PKG_state = 1 ∧
    (∀ c ∈ List.range 32, (State.reset.xch 0 c).burst = none ∨ XDesc.srcSp (State.reset.xch 0 c).desc ≠ 0) ∧
    ((tstBurst 3).xch 0 31).burst = some { start := 0, len := 4, fails := 3 } ∧ XDesc.srcSp ((tstBurst 3).xch 0 31).desc = 0 ∧
    ((tstBurst 3).xch 0 31).aborting = false ∧ (0 : Nat) ≤ (tstBurst 3).now ∧ 0 < (tst [(0, F.XFR_CH_CFG_retry_max 31, 3)]).rd 0 (F.XFR_CH_CFG_retry_max 31) ∧
    (tst [(0, F.XFR_CH_CFG_retry_max 31, 3)]).rd 0 (F.XFR_CH_CFG_retry_max 31) ≤ 3 ∧ State.reset.boot.phase = .reset ∧ (tstBoot .released).boot.phase ≠ .reset ∧
    (State.reset.modPorts fun p => { p with motDly := true, motAt := 0 }).ports.motAt ≤ State.reset.now ∧
    (sinceBy (some 0) (1000000 * max 1 ((tst [(0, F.HIF_ILK_DISC_disc_ms, 0)]).rd 0 F.HIF_ILK_DISC_disc_ms)) 1000000 = true ∧ State.reset.ports.discSaid = false) ∧
    sinceBy State.reset.ports.discAt 0 0 = false ∧ (State.reset.fsrState ≠ fsrReady ∧ State.reset.fsrState ≠ fsrTrip) := by decide

def tstPlk (p : Plk) (l : List (Nat × Fld × Nat) := []) : State := { tst l with plk := p }
def tstMail : PressWait := { frame := { typ := msgMail, seq := 9, payload := [1] } }

theorem test_witness_PressLink :
    (tst [(0, F.PLK_CTRL_en, 0)]).rd 0 F.PLK_CTRL_en = 0 ∧ (tst [(0, F.PLK_CTRL_en, 1)]).rd 0 F.PLK_CTRL_en = 1 ∧ (tstPlk { sending := some tstMail.frame }).plk.sending ≠ none ∧
    ((tstPlk { waits := [tstMail] }).plk.waits.find? fun w => w.frame.seq == 9) = some tstMail ∧ (State.reset.plk.waits.find? fun w => w.frame.seq == 9) = none ∧
    (tstPlk { last := [(msgMail, 255)] }).plk.last.lookup msgMail = some (255 % 256) ∧ State.reset.plk.last.lookup msgMail ≠ some (255 % 256) ∧
    4 ≤ (tstPlk { rx := [[], [], [], []] }).plk.rx.length ∧ (tstPlk { rx := [[], [], []] }).plk.rx.length < 4 ∧
    ((tstPlk { waits := [tstMail] }).plk.waits.find? fun w => w.frame.typ == msgMail && !w.again && (tstPlk { waits := [tstMail] }).plk.sending != some w.frame) = some tstMail ∧ tstMail.repeats < { tstMail with retry := 1 }.retry ∧
    tstMail.retry ≤ tstMail.repeats ∧ (tst [(0, F.PLK_STATUS_MS_status_ms, 1)]).rd 0 F.PLK_STATUS_MS_status_ms ≠ 0 ∧
    (tstPlk { sending := some tstMail.frame, fresh := some (3, 100) }).plk.fresh = some (3, 100) ∧ State.reset.plk.fresh = none ∧ (tst [(0, F.PLK_LOST_MS_lost_ms, 1), (0, F.PLK_STATUS_link_ok, 1)]).rd 0 F.PLK_LOST_MS_lost_ms ≠ 0 ∧
    (tst [(0, F.PLK_STATUS_link_ok, 1)]).rd 0 F.PLK_STATUS_link_ok = 1 ∧ (tst [(0, F.PLK_STATUS_tx_busy, 1)]).rd 0 F.PLK_STATUS_tx_busy = 1 ∧ State.reset.rd 0 F.PLK_STATUS_tx_busy = 0 ∧
    (tstMail.at_ + tstMail.toNs ≤ State.reset.now) ∧ ¬(({ tstMail with toNs := 1 } : PressWait).at_ + 1 ≤ State.reset.now) ∧
    ((tstPlk { sending := some tstMail.frame }).plk.sendAt + 800 * (6 + tstMail.frame.payload.length) ≤ 5600) ∧ State.reset.now < 0 + 800 * (6 + 1) ∧
    (tstPlk { heardAt := 0, lostNs := 1 }).plk.heardAt + 1 ≤ 1 ∧ (tstPlk { statusAt := 0, statusNs := 1000000 }).plk.statusAt + 1000000 ≤ 1000000 := by decide

def tstPorts (p : Ports) (l : List (Nat × Fld × Nat) := []) : State := { tst l with ports := p }
def tstLine (next : Nat) : LineTrig := { base := 0, pitch := 1024, lines := 4, div := 2, next := next }

/-- The hub with its web in motion, so that a position it has passed is due. -/
def tstRuns1 (p : Ports) (l : List (Nat × Fld × Nat) := []) : State := tstPorts p ([(0, F.WTB_VEL_vel, 1048575)] ++ l)

theorem test_witness_LinePorts :
    State.reset.ports.outs.length = 6 ∧ ((tstRuns1 { rejects := [[], [0]] }).ports.rejects.getD 1 []).find? (fun p => ((tstRuns1 {}).webDue 0 p).isSome) = some 0 ∧
    ((tstPorts { rejects := [[], [0]] }).ports.rejects.getD 1 []).find? (fun p => ((tstPorts {}).webDue 0 p).isSome) = none ∧
    (tstPorts { outs := [none, none, none, none, none, some 5] }).outEnd (outRej 1) = some 5 ∧
    State.reset.outEnd (outRej 1) = none ∧ (tstRuns1 { lines := [tstLine 0] }).ports.lines.find? (fun x => ((tstRuns1 {}).webDue 0 x.tick).isSome) = some (tstLine 0) ∧
    (tstLine 0).next + (tstLine 0).div < (tstLine 0).lines ∧ (tstLine 2).lines ≤ (tstLine 2).next + (tstLine 2).div ∧ (tst [(0, F.FIN_CFG_wp_en, 0)]).rd 0 F.FIN_CFG_wp_en = 0 ∧
    (tst [(0, F.FIN_CFG_wp_en, 1)]).rd 0 F.FIN_CFG_wp_en = 1 ∧ (tst [(0, F.FIN_CFG_wp_log2, 30)]).rd 0 F.FIN_CFG_wp_log2 = 30 ∧ (tst [(0, F.FIN_CFG_wp_log2, 8)]).rd 0 F.FIN_CFG_wp_log2 = 8 ∧
    30 ∈ List.range' 8 23 ∧ (tstRuns1 {}).webDue 0 128 ≠ none ∧ State.reset.webDue 0 128 = none ∧
    5 < State.reset.now + State.reset.tbInterval 0 ∧ State.reset.now + State.reset.tbInterval 0 ≤ 1000000 ∧
    (tstPorts { tags := [[1], [2]] }).ports.tags = [1] :: [[2]] ∧ State.reset.ports.tags = [] ∧
    State.reset.ports.tagAt + 9600 * 2 ^ State.reset.rd 0 F.ISP_CFG_tag_rate ≤ 9600 * 2 ^ State.reset.rd 0 F.ISP_CFG_tag_rate ∧
    State.reset.now < State.reset.ports.tagAt + 9600 * 2 ^ State.reset.rd 0 F.ISP_CFG_tag_rate := by decide

theorem test_witness_StepRunsFront : ({ State.reset with pending := [.statusReq, .pop] } : State).pending = .statusReq :: [.pop] ∧ State.reset.pending = [] := by decide

theorem test_witness_ResetState : 7 < 8 ∧ 0xFFFFF < 0x100000 := by decide

theorem test_witness_StepKeepsVariant : State.reset.variantOk = true := by decide

theorem test_witness_StepKeepsStores : State.reset.storesOk = true := by decide

/-! ### Well-formedness: an ill-formed command for each check, and the decoder -/

theorem test_wf_refuses_1 : (([.broadcastArrival 0, .replicaAdvance 0, .flitCrcFail 0 0, .flitCrcFail 1 4,
    .linkLoss 0, .hubLinkLoss 0, .mainsCrossing 2 0 0, .cueIssue 8,
    .tickStampedApply 8, .nop 8, .frameStart 8, .frameEnd 8,
    .bankSwitch 8, .regOp 8, .event 8, .listCtrlDisable 8,
    .listCtrlEnable 8, .listCtrlStop 8, .sample 8, .editRead 8,
    .editWrite 8, .editLink 8, .listHeadWrite 8 0 0, .listHeadWrite 0 16 0] : List Instr).all fun c => !c.wf) = true := by decide

theorem test_wf_refuses_2 : (([.listHeadWrite 0 0 4096, .listStop 8 0, .listStop 0 16, .cueClearCounters 8,
    .cohTolWrite 0 0, .cohTolWrite 1 0x100000, .arm 8, .switchCompletion 8,
    .rejectPulse 2, .descRead 0, .descWrite 0, .seal 256,
    .unseal 256, .commitWrite 0 0 0, .commitWrite 1 8 0, .commitWrite 1 0 0x100000,
    .bar2Read 0x10000000 0, .bar2Read 0 4097, .bar2Write 0x10000000 [], .bar2Write 0 [256],
    .patchTilePlacement 0, .rinClearCounters 0, .mirrorUpdate 0, .channelStart 8 0] : List Instr).all fun c => !c.wf) = true := by decide

theorem test_wf_refuses_3 : (([.channelStart 0 32, .resume 8 0, .resume 0 32, .abort 8 0,
    .abort 0 32, .xfrChClearCounters 8 0, .xfrChClearCounters 0 32, .burstIssue 8 0,
    .burstIssue 0 32, .burstCompletion 8 0 [], .burstCompletion 0 32 [], .burstCompletion 0 0 [256],
    .burstRetry 8 0, .burstRetry 0 32, .descriptorComplete 8 0, .descriptorComplete 0 32,
    .sdescRead 0, .sdescWrite 0, .resMbpsWrite 32 0, .resMbpsWrite 0 0x100000,
    .reqSelWrite 32 0, .reqSelWrite 0 0x100000, .resLimitWrite 0x100000, .scnStart 0 0] : List Instr).all fun c => !c.wf) = true := by decide

theorem test_wf_refuses_4 : (([.scnStop 0, .scnClear 0, .scnClearCounters 0, .bd0Detection 0 0,
    .bd1Detection 0 0, .bdWindowClose 0, .pickupZeroCrossing 0 0 true 0, .sweepStart 0,
    .sweepEnd 0, .spinTmo 0, .polyRampStep 0, .lplApply 0,
    .lplClearCounters 0, .regWebWrite 0 true 0, .regWebWrite 1 true 0x100000, .regLimWrite 0 0,
    .regLimWrite 1 0x100000, .pxApply 0, .cksPxClearCounters 0, .cksSysClearCounters 8,
    .pixelPllLossOfLock 0, .refclkLoss 8, .stationFabricPllLoss 0, .relockAttempt 0] : List Instr).all fun c => !c.wf) = true := by decide

theorem test_wf_refuses_5 : (([.lockAcquired 8 true, .dividerStep 8 true, .train 0, .test 0,
    .testStop 0, .lsrClearCounters 0, .farEndRelease 0, .lsoHigh1us 0,
    .linkUp 0, .trainTmo 0, .sweepFrameLaunch 0, .pageSend 0,
    .apcPulsePair 0, .apcMeasurement 0 0 0, .apcMeasurement 1 40 0, .drvSafeoff 0,
    .beamWatchdog 0, .strayLight 0 0 0, .reentryComplete 0, .lsrDrvWrite 0 0 0,
    .lsrDrvWrite 1 40 0, .lsrDrvWrite 1 0 0x100000, .markEdge 8 true 0 0, .corrWrite 0 true 0] : List Instr).all fun c => !c.wf) = true := by decide

theorem test_wf_refuses_6 : (([.corrWrite 1 true 0x100000, .slotTimerTrigger 8 0, .slotTimerTrigger 0 48, .ownerEventTrigger 8 0 {},
    .ownerEventTrigger 0 48 {}, .heldTriggerRelease 8 0, .heldTriggerRelease 0 48, .slotUpdate 8 0 true,
    .slotStart 8 0, .slotStart 0 48, .slotStop 8 0, .slotStop 0 48,
    .slotClear 8 0, .slotClear 0 48, .lpeClearCounters 8, .limWrite 8 0 true 0,
    .limWrite 0 48 true 0, .limWrite 0 0 true 0x100000, .hvDischarge 8 ⟨0, 0⟩, .hvDischarge 0 ⟨8, 0⟩,
    .chgForbidClear 0, .heaterFire 4, .fuserTempSample 6 0 true, .pwmPeriod 8 0 {}] : List Instr).all fun c => !c.wf) = true := by decide

theorem test_wf_refuses_7 : (([.pwmPeriod 0 5 {}, .speedSample 8 0, .speedSample 0 5, .follow 8 0,
    .follow 0 5, .catchEnd 8 0, .catchEnd 0 5, .alignEnd 8 0,
    .alignEnd 0 5, .overcurrent 8 0, .overcurrent 0 5, .gateFault 8 0,
    .gateFault 0 5, .busSample 8 0 0, .busSample 0 0x100000 0, .busUndervoltage 8,
    .holdEnd 8 0, .holdEnd 0 5, .mdrChStart 8 0 0, .mdrChStart 0 5 0,
    .mdrChStop 8 0, .mdrChStop 0 5, .mdrChClear 8 0, .mdrChClear 0 5] : List Instr).all fun c => !c.wf) = true := by decide

theorem test_wf_refuses_8 : (([.mdrChClearCounters 8 0, .mdrChClearCounters 0 5, .mdrClear 8, .mdrClearCounters 8,
    .axisTgtWrite 8 0, .axisTgtWrite 0 two40, .axisEnable 8, .axisDisable 8,
    .axisPreset 8, .axisClear 8, .axsAxClearCounters 8, .thmConversion 8 [],
    .thmExtSample 0 [], .gateRise 0 true, .thmTrip 8, .latchedReaction 8 0,
    .latchedReaction 0 20, .safeOffCommand 8, .fltClearCounters 8, .mergeFlush 8,
    .scrubRead 8 0 0 true, .scrubRead 0 8 0 true, .memArm 8, .memDisarm 8] : List Instr).all fun c => !c.wf) = true := by decide

theorem test_wf_refuses_9 : (([.memClearCounters 8, .evrCursorWrite 4096 0, .evrCursorWrite 0 8, .journalAppend 256 0,
    .journalAppend 0 256, .rdAddrWrite 8 0, .rdAddrWrite 0 0x20000, .rtcSecWrite .host 0x100000,
    .registerWrite 8 0 (some 0), .registerWrite 0 0x100000 none, .registerWrite 0 0 (some 0x100000000), .vectorUnmask 64,
    .irqPendClear 4 0, .irqPendClear 0 0x10000, .ack 256, .mail 256 [] true,
    .mail 0 [256] true, .ackTimeout 256, .send 128, .pulseEnd 6,
    .serviceRead 8 0 true true, .serviceRead 0 0x40000 true true, .serviceWrite 8 0 0 true true, .serviceWrite 0 0x40000 0 true true] : List Instr).all fun c => !c.wf) = true := by decide

theorem test_wf_refuses_10 : (([.serviceWrite 0 0 0x100000 true true, .updateIr 256, .resetNRelease ⟨4, true, true, [], [], [], none, false⟩, .hostImageDelivered [] [⟨8, [], []⟩] none,
    .recal [⟨0, [], []⟩], .broadcastArrival 8] : List Instr).all fun c => !c.wf) = true := by decide

theorem test_wf_takes : (([.resetNRelease ⟨3, true, true, [], [], [], none, false⟩, .broadcastArrival 7, .registerWrite 7 0xFFFFC (some 0xFFFFFFFF), .pulseEnd 5, .markEdge 7 true 0 0,
    .slotTimerTrigger 7 47, .mail 255 [255] true, .recal [⟨7, [], []⟩]] : List Instr).all Instr.wf) = true := by decide

theorem test_no_row_has_bits : decodeTableWord 16 0x1234 = none ∧ decodeTableWord 0 0 = none := by decide

/-! ### The manual's worked figures -/

/-- "a is 512 ticks ahead of b, although a is numerically smaller" (chapter 0, comparison across the wrap). -/
theorem test_wrap : posDiff 0x100 0xFFFFFFFF00 = 512 := by decide

/-- The replica of station 3 (chapter 2): err = +0.832 tick is stored as 13, and the replica holds at 1,000,000,008. -/
theorem test_replica :
    ends (.broadcastArrival 3) ((tst [(3, F.CUE_REP_LAT_lat, 896), (3, F.CUE_REP_STATUS_rep_ok, 1)]).modLink 3 fun l =>
      { l with rep := 1000000008 * 4096000, flit := some ⟨1000000000, 32768, 0, true, false, false, false, false⟩ })
      (fun t => t.rd 3 F.CUE_REP_ERR_MAX_err_max == 13 && (t.link 3).rep == 1000000008 * 4096000) = true := by decide

/-- An encoder at 16 ticks a count with high-water count 1,000 (chapter 2, backlog handling): at count 997 the backlog of 3 exceeds web_hyst = 2. -/
theorem test_backlog :
    ends (.encoderCount .a (.edge true 1000)) ((tst [(0, F.WTB_HYST_web_hyst, 2)]).modWtb fun w => { w with encA := { w.encA with count := 998, hw := 1000 } })
      (fun t => t.backlog == 3) = true := by decide

/-- E of the zero-gap job change (chapter 4): 6,000 lines of 1,200 lpi from F = 1,000,000,000 end at 1,008,128,002. -/
theorem test_frame_end : (State.reset.frameOf { State.reset.desc with lines := 6000, start := 1000000000, addr := 2 }).stop = 1008128002 := by decide

/-- Sweep 156 on facet 4 (chapter 8): S = −318, so u = −1; v = 19, and x = 786 gives beam 12 three eighths to the next at pixel 8,000. -/
theorem test_placement :
    let s := { tst [(3, F.LPL_REG_WEB_reg_web, 0x100000 - 88), (3, ⟨P.LPL_BEAM_PITCH, 19, 0⟩, 1387179 % 0x100000), (3, ⟨P.LPL_BEAM_PITCH + 4, 19, 0⟩, 1)] with
      inUse := [(regKey 3 (F.LPL_FACET_WEB_facet_web 4).off, (48 : Word)), (regKey 3 F.LPL_SEG_CFG_seg_px.off, 512),
        (regKey 3 (F.LPL_SEG_seg 4 15).off, 15), (regKey 3 (F.LPL_SEG_seg 4 16).off, 21)] }
    s.sweepShift 3 4 278 = -1 ∧ s.bend 3 4 8000 = (19 : Int) ∧ bendSplit 19 = (0, 19) ∧ blend 786 8000 = (12, 3) ∧ blend 722 8000 = (11, 3) := by decide

/-- The mark set of station 3 (chapter 11): c_b0, c_d0 and the window; a_w = +25.44 ticks and a_x = −65.98 ticks, so e_w = 263 and e_x = −736. -/
theorem test_mark :
    let s := tst [(0, ⟨P.RGC_SENS_POS 0, 19, 0⟩, 76800000 % 0x100000), (0, ⟨P.RGC_SENS_POS 0 + 4, 19, 0⟩, 76800000 / 0x100000), (0, F.RGC_WIN_margin, 8), (0, F.RGC_WIN_wtol, 4)]
    let g := s.markGeo { tstFrame with start := 1000000000, addr := 2 } ⟨true, 0, 24, 96, 5800, 128⟩ 3 1
    let e := markErrors g (10846571000 * 16 / 10) (10846896000 * 16 / 10) (10847872900 * 16 / 10) (10848197700 * 16 / 10)
    g.cb0 * 100 / 2048 = 108467332455 ∧ g.cd0 * 100 / 2048 = 108480337258 ∧ g.openTick = 1084646231 ∧ g.closeTick = 1084852141 ∧
    e.1 = 407 ∧ e.1 - 144 = 263 ∧ e.2.1 + 320 = -736 ∧ edgeCode ⟨0, some g, [(true, 10846571000 * 16 / 10), (false, 10846896000 * 16 / 10),
      (true, 10847872900 * 16 / 10), (false, 10848197700 * 16 / 10)], false⟩ 24 4 1387179 = 0 := by decide

/-- The block of station 3 (chapter 11): corr_w moves to −263 and corr_x to +736, and LPL_REG_SCAN takes 2. -/
theorem test_registration_block :
    (corrStep 0 (8 * 263) 8 16 (1024 * 16 * corrUnit : Nat) (0x7FFFF * corrUnit : Nat)).1 = -263 * corrUnit ∧
    ((tst [(3, F.SCN_STATUS_cur_addr, 2)]).modRgcStn 3 fun x => { x with corrX := 736 * corrUnit }).scanValue 3 = 2 := by decide

/-- The gain table of the charge slot (chapter 12): |e| = 0.1 gives 1.20000. -/
theorem test_gain :
    rdiv ((tst [(3, F.LPE_GAIN_g 4 3, 305835), (3, F.LPE_GAIN_g 4 4, 349525)]).slotGain 3 4 52429 * 100000) (2 ^ 33) = 120000 := by decide

/-- The charge slot's output 180,618 on a positive channel is code 1,411 (chapter 13). -/
theorem test_hv_code : State.reset.hvCode 3 0 180618 = 1411 := by decide

/-- A burst at demand 0.3 whose accumulator stands at 0.9 fires and keeps 0.2 (chapter 13). -/
theorem test_burst :
    ((((tst [(0, F.FSR_HTR_CFG_mode 0, 1), (0, F.FSR_STATUS_state, fsrReady), (0, F.FSR_STATUS_mains_ok, 1), (0, F.LPE_SLOT_SRC_out_dst 0, 0x18), (0, F.LPE_SLOT_STATUS_state 0, slotRun)]).modLpe 0
        fun l => { l with slots := [(0, { out := 157286 })] }).modFsr fun f => { f with acc := [471859, 0, 0, 0] }).fsrRising 0).fsr.acc.headD 0 = 104857 := by decide

/-- The two readings of a period with d_a = 0.55, d_b = 0.53 and d_c = 0.40 (chapter 14): i_a = 4.12 A, i_b = −1.39 A, i_c = −2.73 A. -/
theorem test_shunts : phaseCurrents [55, 53, 40] 412 273 = [412, -139, -273] := by decide

/-- The record of the escalated fault of station 3 in slot 0x123 of lap 2 (chapter 19). -/
theorem test_record :
    let r : Report := ⟨3, 7, 4, .f, causeBit 18, [], 0, 0, true, false, false⟩
    recordWords 2 ⟨0, true, r.ident, 0, 0, 0, r.cause⟩ = [0xA8002, 0x67128, 0, 0, 0, 0, 0, 0x40000] := by decide

/-- The archive record of it has header word 0 = 0xA_1003 (chapter 19). -/
theorem test_archive_header : ((⟨0x10, 0, [[0], [0], [0]]⟩ : JRec).header 0).headD 0 = 0xA1003 := by decide

/-- A second U report of a source inside react_win is an F report with cause 18 (chapter 17, step 5). -/
theorem test_escalation :
    let s := (tst [(0, F.FLT_WIN_react_win, 1000)]).modFlt fun f => { f with lastU := [(3, 7, 4, 0)] }
    (fun r : Report => (r.cls, r.cause, r.esc)) (s.fltClass ⟨3, 7, 4, .u, causeBit 19, [], 0, 55900000, false, false, false⟩) = (.f, causeBit 18, true) ∧
    (s.fltClass ⟨3, 7, 4, .u, causeBit 19, [], 0, 1000000001, false, false, false⟩).cls = .u := by decide

/-- The SLOW message on WARN entry (chapter 22): type 0x02, seq 0x2A, slow_v = 0x0_6000 and reason 1. -/
theorem test_slow :
    ((tstPlk { seqs := [(msgSlow, 0x2A)] } [(0, F.PLK_CTRL_en, 1), (0, F.THM_SLOW_V_slow_v, 0x6000)]).pressSlow 1).plk.sending =
      some ⟨0x02, 0x2A, [0x00, 0x60, 0x00, 0x01]⟩ := by decide

/-- Addresses on station 3 (chapter 24): LPL_REG_WEB at 0xB_0014, CUE_REP_POS_LO at 0x0_F004, WTB_POS_LO at 0xA_0028. -/
theorem test_addresses : F.LPL_REG_WEB_reg_web.off = 0xB0014 ∧ (F.LPL_FACET_WEB_facet_web 0).off = 0xB0080 ∧ P.CUE_REP_POS = 0x0F004 ∧ P.WTB_POS = 0xA0028 ∧ F.EVR_WIN_data.off = 0xF5010 := by decide

/-- A write of the host reaches the register of the die it names and of no other (chapter 24). -/
theorem test_register_write :
    ends (.registerWrite 3 F.CUE_CTRL_miss_win.off (some 0x123)) (tstOn) (fun t => t.rd 3 F.CUE_CTRL_miss_win == 0x123 && t.rd 2 F.CUE_CTRL_miss_win == State.reset.rd 2 F.CUE_CTRL_miss_win) = true := by decide

/-- The control character /K28.5/ of either disparity, and D21.5, which has one code (R217). -/
theorem test_code10 : encode10 false (256 + 0xBC) = (0x0FA, true) ∧ encode10 true (256 + 0xBC) = (0x305, false) ∧ encode10 false 0xB5 = (0x2AA, false) := by decide

/-- Four cycles of the modulator at 2.5 put out 10 in all (R195). -/
theorem test_mash : ((List.range 4).foldl (fun (p : Cks × Int) _ => ((p.1.mash 0x280000), p.2 + (p.1.mash 0x280000).modOut)) ({}, 0)).2 = 10 := by decide

/-- The memories that a statement takes as sound or clean: nothing is wrong with them at reset. -/
theorem test_witness_clean_memories :
    State.reset.memClean 0 1 ∧ State.reset.memClean 0 2 ∧ State.reset.memClean 0 3 ∧ State.reset.memClean 0 6 ∧ State.reset.memClean 1 2 ∧
    State.reset.memClean 7 1 ∧ State.reset.memClean 7 2 ∧ State.reset.memClean 7 4 ∧ State.reset.memClean 7 5 ∧ State.reset.memClean 7 6 ∧
    (State.reset.modMem 7 fun m => { m with flip := some (2, 1) }).memSound 7 2 := by
  unfold State.memClean State.memSound; and_intros <;> decide

/-- Each path of register access, closed and open (R27, R339). -/
theorem test_witness_paths :
    State.reset.pathOpen .host = false ∧ (tstBoot .released).pathOpen .host = true ∧ State.reset.pathOpen .service = false ∧
    (tstBoot .window).pathOpen .service = true := by and_intros <;> decide

/-- The update that follows a fault of encoder A with B in its place; and a link whose station's fabric clock runs or does not (R48, R194). -/
theorem test_witness_links :
    State.reset.dieLinkRuns 1 = false ∧ (tst [(1, F.CKS_SYS_STATUS_bypass, 0), (1, F.CKS_SYS_STATUS_ramp, 0)]).dieLinkRuns 1 = true ∧
    State.reset.hasStn 1 = true ∧ 1 < State.reset.links.length := by and_intros <;> decide

/-- A slot that a start forces, and one that it does not; a slot of power control that takes its safe output (R263, R274, R280). -/
theorem test_witness_slots :
    ends (.slotStart 7 0) (tst [(7, F.LPE_SLOT_CFG_trig 0, 1), (7, F.LPE_SLOT_SRC_out_dst 0, 63)]) (fun t => t.slotState 7 0 == slotForced) = false ∧
    ends (.slotStart 7 0) (tst [(7, F.LPE_SLOT_SRC_out_dst 0, 0)]) (fun t => t.slotState 7 0 == slotForced) = true ∧
    (39 % 2 = 1 ∧ (tst [(1, F.LSR_APC_CFG_slot1, 23), (1, F.LPE_SLOT_CFG_ctx 23, 1), (1, F.LPE_SLOT_CFG_trig 23, 2)]).slotLive 1 23 = false) ∧
    tstApcSlot.slotLive 1 23 = true ∧ (tst [(1, F.LSR_STATUS_lso, 0), (1, F.LSR_STATUS_forbid, 0)]).laserBlocked 1 = false := by and_intros <;> decide

/-- Motor channels: the direction of a torque, a follow fault in HOLD, the clamp off and on, a unit of the hub that a bus fault holds active (R300, R303, R305, R343). -/
theorem test_witness_motors :
    State.reset.chDirection 0 3 = 0 ∧ chRun ≤ chHold ∧ ((tstCh 0 3 chHold { folAng := true } []).chan 0 3).faulted = false ∧
    (tstCh 0 3 chHold { folAng := true } []).chFollowing 0 3 = true ∧ State.reset.clampOn 0 = false ∧ State.reset.clampOn 1 = true ∧
    (tstBus 0 { chopFault := true } []).clampOn 0 = true ∧
    (3 ∈ chanList 0 ∧ ((tstCh 0 3 chCoast { faulted := true, gateLow := true } []).chan 0 3).faulted = true) ∧
    (tst [(0, F.MDR_BUS_V_v, 0xFFFFF)]).rd 0 F.MDR_CHOP_ON_chop_on < (tst [(0, F.MDR_BUS_V_v, 0xFFFFF)]).rd 0 F.MDR_BUS_V_v := by and_intros <;> decide

/-- An aborting burst of the patch channel of a station and of any other channel (R142, R145). -/
theorem test_witness_bursts :
    patchCh 7 7 = true ∧ patchCh 7 6 = false ∧ patchCh 0 7 = false ∧
    ((tstXch 1 { burst := some ⟨0, 1, 0, false, 0⟩, aborting := true }).xch 1 0).aborting = true := by and_intros <;> decide

end Sys2Proof.Machine
end

section
/-! Overruns of loop slots (R261): what an overrun, its report and a slot fault set and leave alone, through a safe-off that a promoted
position brings; the triggers that find a slot waiting; and the update that ends a row of overruns. -/

namespace Sys2Proof.Machine

/-! ### Slots -/

section Slots

variable {s t : State} {d e i j : Nat}

theorem lookup_assocSet_same {α : Type} (l : List (Nat × α)) (k : Nat) (v : α) : (assocSet l k v).lookup k = some v := by
  induction l with
  | nil => simp [assocSet]
  | cons x l ih =>
    simp only [assocSet]
    split
    · simp
    · next h => rw [List.lookup_cons, beq_false_of_ne (Ne.symm h)]; exact ih

theorem lookup_assocSet_other {α : Type} (l : List (Nat × α)) {k k' : Nat} (v : α) (h : k' ≠ k) :
    (assocSet l k v).lookup k' = l.lookup k' := by
  induction l with
  | nil => simp [assocSet, List.lookup_cons, beq_false_of_ne h]
  | cons x l ih =>
    simp only [assocSet]
    split
    · next hx => rw [List.lookup_cons, List.lookup_cons, hx, beq_false_of_ne h]
    · rw [List.lookup_cons, List.lookup_cons, ih]

theorem State.slot_congr (h : t.lpes = s.lpes) (e j : Nat) : t.slot e j = s.slot e j := by
  unfold State.slot State.lpe; rw [h]

theorem State.slot_modSlot_same (f : Slot → Slot) (h : d < s.lpes.length) : (s.modSlot d i f).slot d i = f (s.slot d i) := by
  unfold State.slot State.lpe State.modSlot
  rw [State.modLpe_lpes, getD_modify_same _ _ _ _ h, lookup_assocSet_same]
  rfl

theorem State.slot_modSlot_other (f : Slot → Slot) (h : e ≠ d ∨ j ≠ i) : (s.modSlot d i f).slot e j = s.slot e j := by
  unfold State.slot State.lpe State.modSlot
  rw [State.modLpe_lpes]
  by_cases he : e = d
  · subst he
    by_cases hl : e < s.lpes.length
    · rw [getD_modify_same _ _ _ _ hl, lookup_assocSet_other _ _ (h.resolve_left (· rfl))]
    · rw [List.modify_eq_self (Nat.le_of_not_lt hl)]
  · rw [getD_modify_other _ _ _ he]

/-- A die without a loop engine has its slots at rest, whatever is done to them. -/
theorem State.slot_modSlot_absent (f : Slot → Slot) (h : ¬ d < s.lpes.length) : (s.modSlot d i f).slot e j = s.slot e j := by
  unfold State.slot State.lpe State.modSlot
  rw [State.modLpe_lpes, List.modify_eq_self (Nat.le_of_not_lt h)]

theorem State.slot_absent (i : Nat) (h : ¬ d < s.lpes.length) : s.slot d i = {} := by
  simp [State.slot, State.lpe, List.getD, List.getElem?_eq_none (Nat.le_of_not_lt h)]

@[simp] theorem State.modSlot_rd (s : State) (d i : Nat) (f : Slot → Slot) (e : Nat) (g : Fld) :
    (s.modSlot d i f).rd e g = s.rd e g := rfl
@[simp] theorem State.length_modSlot (s : State) (d i : Nat) (f : Slot → Slot) : (s.modSlot d i f).lpes.length = s.lpes.length :=
  List.length_modify ..

/-! ### Overruns in a row -/

/-- The count of overruns in a row stands as it was, in every slot. -/
def keepsRuns (s t : State) : Prop := ∀ e j, (t.slot e j).ovrRun = (s.slot e j).ovrRun

theorem keepsRuns.refl (s : State) : keepsRuns s s := fun _ _ => rfl

theorem keepsRuns.trans {u : State} (h : keepsRuns s t) (h' : keepsRuns t u) : keepsRuns s u :=
  fun e j => (h' e j).trans (h e j)

theorem keepsRuns.of_lpes (h : t.lpes = s.lpes) : keepsRuns s t := fun e j => by rw [State.slot_congr h]

theorem keepsRuns_modSlot (s : State) (d i : Nat) (f : Slot → Slot)
    (hf : ∀ x, (f x).ovrRun = x.ovrRun := by exact fun _ => rfl) : keepsRuns s (s.modSlot d i f) := by
  intro e j
  by_cases h : e = d ∧ j = i
  · obtain ⟨rfl, rfl⟩ := h
    by_cases hl : e < s.lpes.length
    · rw [State.slot_modSlot_same f hl, hf]
    · rw [State.slot_modSlot_absent f hl]
  · rw [State.slot_modSlot_other f (by omega)]

/-- A change that ends the row of overruns ends it, also where the die has no loop engine. -/
theorem State.ovrRun_modSlot_zero (s : State) (d i : Nat) (f : Slot → Slot) (hf : ∀ x, (f x).ovrRun = 0) :
    ((s.modSlot d i f).slot d i).ovrRun = 0 := by
  by_cases hl : d < s.lpes.length
  · rw [State.slot_modSlot_same f hl, hf]
  · rw [State.slot_modSlot_absent f hl, State.slot_absent i hl]

end Slots

/-! ### Repetition and reads on one die -/

/-- What every round of a repetition keeps, the whole keeps; a round is over an element of the list. -/
theorem State.each_keeps_mem {α : Type} (p : State → Prop) (l : List α) (f : α → State → State)
    (h : ∀ a ∈ l, ∀ s, p s → p (f a s)) (s : State) (hs : p s) : p (s.each l f) := by
  induction l generalizing s with
  | nil => exact hs
  | cons a l ih =>
    exact ih (fun b hb => h b (List.mem_cons_of_mem _ hb)) (f a s) (h a (List.mem_cons_self ..) s hs)

theorem State.rd_congr {s t : State} (h : t.regs = s.regs) (e : Nat) (g : Fld) : t.rd e g = s.rd e g := by
  unfold State.rd State.rdWord; rw [h]

/-- A field keeps its value when a field of the same die that shares no bit with it is written. -/
theorem State.rd_wr_of_apart (s : State) (d : Nat) {f g : Fld} (v : Nat) (hf : f.hi < 20) (h : f.apart g) :
    (s.wr d f v).rd d g = s.rd d g := by
  by_cases ho : f.off = g.off
  · exact State.rd_wr_bits s d d f g v hf ho (by rcases h with h | h | h <;> omega)
  · simp only [State.rd, State.wr]
    rw [State.rdWord_wrWord_key]
    simp only [regKey]; omega

/-! ### The fields that an overrun and a slot fault set -/

/-- The promote bit of the loop engine's position in the collector of a die (R345). -/
def lpePromote (d : Nat) : Fld := ⟨F.FLT_REACT_promote.off, fltPos d .lpe, fltPos d .lpe⟩

/-- The counters and status bits of a slot's overruns and faults, and the promote bit of its engine. -/
def overrunFields (d i : Nat) : List Fld :=
  [F.LPE_SLOT_OVR_CNT_ovr_cnt i, F.LPE_SLOT_STATUS_ovr_s i, F.LPE_SLOT_FLT_CNT_flt_cnt i, F.LPE_SLOT_STATUS_flt_s i, lpePromote d]

/-- A field that shares no bit with the overrun fields of a slot of a die. -/
def Fld.sparesOverruns (f : Fld) (d : Nat) : Prop := f.hi < 20 ∧ ∀ i, i < 48 → ∀ g ∈ overrunFields d i, f.apart g

/-- A field that shares no bit with the state of a slot. -/
def Fld.sparesStates (f : Fld) : Prop := ∀ i, i < 48 → f.apart (F.LPE_SLOT_STATUS_state i)

theorem fltPos_lpe_le (d : Nat) : fltPos d .lpe ≤ 9 := by
  unfold fltPos; split <;> decide

/-- What keeps a field off the overrun fields, in offsets and bits. -/
theorem Fld.sparesOverruns_of_off {f : Fld} (d : Nat) (hf : f.hi < 20) (hp : f.off ≠ 0x70010)
    (ho : ∀ i, i < 48 → f.off ≠ 0x30164 + 0x80 * i ∧ f.off ≠ 0x3016C + 0x80 * i ∧ (f.off = 0x30148 + 0x80 * i → f.hi < 7)) :
    f.sparesOverruns d := by
  refine ⟨hf, fun i hi g hg => ?_⟩
  have hoi := ho i hi
  simp only [overrunFields, List.mem_cons, List.not_mem_nil, or_false] at hg
  rcases hg with rfl | rfl | rfl | rfl | rfl <;>
    simp only [Fld.apart, F.LPE_SLOT_OVR_CNT_ovr_cnt, F.LPE_SLOT_STATUS_ovr_s, F.LPE_SLOT_FLT_CNT_flt_cnt, F.LPE_SLOT_STATUS_flt_s,
      lpePromote, F.FLT_REACT_promote] <;> omega

/-- A field outside the status words, the counters and the promote bits shares no bit with them. -/
theorem Fld.spares_of_off {f : Fld} (d : Nat) (hf : f.hi < 20) (hp : f.off ≠ 0x70010)
    (ho : ∀ i, i < 48 → f.off ≠ 0x30148 + 0x80 * i ∧ f.off ≠ 0x30164 + 0x80 * i ∧ f.off ≠ 0x3016C + 0x80 * i) :
    f.sparesOverruns d ∧ f.sparesStates :=
  ⟨Fld.sparesOverruns_of_off d hf hp fun i hi => ⟨(ho i hi).2.1, (ho i hi).2.2, fun h => absurd h (ho i hi).1⟩,
    fun i hi => .inl (ho i hi).1⟩

section Fields

variable (d i : Nat)

theorem state_sparesOverruns : (F.LPE_SLOT_STATUS_state i).sparesOverruns d := by
  apply Fld.sparesOverruns_of_off <;> simp only [F.LPE_SLOT_STATUS_state] <;> omega

theorem sat_spares : (F.LPE_SLOT_STATUS_sat i).sparesOverruns d ∧ (F.LPE_SLOT_STATUS_sat i).sparesStates := by
  refine ⟨?_, fun j _ => .inr (.inr (show 2 < 3 by decide))⟩
  apply Fld.sparesOverruns_of_off <;> simp only [F.LPE_SLOT_STATUS_sat] <;> omega

theorem out_spares : (F.LPE_SLOT_OUT_out i).sparesOverruns d ∧ (F.LPE_SLOT_OUT_out i).sparesStates := by
  apply Fld.spares_of_off <;> simp only [F.LPE_SLOT_OUT_out] <;> omega

theorem safeoff_spares : F.HVC_STATUS_safeoff.sparesOverruns d ∧ F.HVC_STATUS_safeoff.sparesStates := by
  apply Fld.spares_of_off <;> simp only [F.HVC_STATUS_safeoff] <;> omega

theorem lso_spares : F.LSR_STATUS_lso.sparesOverruns d ∧ F.LSR_STATUS_lso.sparesStates := by
  apply Fld.spares_of_off <;> simp only [F.LSR_STATUS_lso] <;> omega

theorem code_spares {c : Nat} (hc : c < 8) : (F.HVC_CH_CODE_code c).sparesOverruns d ∧ (F.HVC_CH_CODE_code c).sparesStates := by
  apply Fld.spares_of_off <;> simp only [F.HVC_CH_CODE_code] <;> omega

theorem slotFaultBit_spares (hi : i < 48) : (slotFaultBit i).sparesOverruns d ∧ (slotFaultBit i).sparesStates := by
  have : i % 20 < 20 := Nat.mod_lt _ (by decide)
  apply Fld.spares_of_off <;> simp only [slotFaultBit, F.LPE_FAULT_fault] <;> omega

theorem shadowed_spares :
    (F.FLT_SHADOWED_shadowed (fltPos d .lpe)).sparesOverruns d ∧ (F.FLT_SHADOWED_shadowed (fltPos d .lpe)).sparesStates := by
  have := fltPos_lpe_le d
  apply Fld.spares_of_off <;> simp only [F.FLT_SHADOWED_shadowed] <;> omega

end Fields

/-! ### What safe-offs and reports leave of a loop engine -/

/-- From one state to another the reports `l` have joined the inbox; the overrun fields of a die's slots, the counts of overruns in a row and the
time stand as they were, and a slot of the die in FAULT is still there. -/
structure OverrunFrame (d : Nat) (s : State) (l : List Report) (t : State) : Prop where
  reads : ∀ i, i < 48 → ∀ g ∈ overrunFields d i, t.rd d g = s.rd d g
  inbox : t.flt.inbox = s.flt.inbox ++ l
  runs : keepsRuns s t
  now : t.now = s.now
  faulted : ∀ i, i < 48 → s.slotState d i = slotFaulted → t.slotState d i = slotFaulted

namespace OverrunFrame

variable {d : Nat} {s t u : State} {l l' : List Report}

theorem refl (d : Nat) (s : State) : OverrunFrame d s [] s :=
  ⟨fun _ _ _ _ => rfl, (List.append_nil _).symm, keepsRuns.refl s, rfl, fun _ _ h => h⟩

theorem trans (h : OverrunFrame d s l t) (h' : OverrunFrame d t l' u) : OverrunFrame d s (l ++ l') u where
  reads i hi g hg := (h'.reads i hi g hg).trans (h.reads i hi g hg)
  inbox := by rw [h'.inbox, h.inbox, List.append_assoc]
  runs := h.runs.trans h'.runs
  now := h'.now.trans h.now
  faulted i hi hs := h'.faulted i hi (h.faulted i hi hs)

/-- The same, from the last change back. -/
theorem after (h' : OverrunFrame d t [] u) (h : OverrunFrame d s l t) : OverrunFrame d s l u := by
  simpa using h.trans h'

/-- A change of neither registers nor loop engines, with reports added. -/
theorem of_kept (hr : t.regs = s.regs) (hl : t.lpes = s.lpes) (hn : t.now = s.now) (hi : t.flt.inbox = s.flt.inbox ++ l) : OverrunFrame d s l t where
  reads _ _ g _ := State.rd_congr hr d g
  inbox := hi
  runs := .of_lpes hl
  now := hn
  faulted _ _ h := (State.rd_congr hr d _).trans h

theorem wr (s : State) {f : Fld} (v : Nat) (hf : f.sparesOverruns d ∧ f.sparesStates) : OverrunFrame d s [] (s.wr d f v) where
  reads i hi g hg := State.rd_wr_of_apart s d v hf.1.1 (hf.1.2 i hi g hg)
  inbox := (List.append_nil _).symm
  runs := keepsRuns.refl s
  now := rfl
  faulted i hi h := (State.rd_wr_of_apart s d v hf.1.1 (hf.2 i hi)).trans h

/-- The state of a slot is set: no slot leaves FAULT where this one does not. -/
theorem wr_state (s : State) (i : Nat) {v : Nat} (hv : s.slotState d i = slotFaulted → v = slotFaulted) :
    OverrunFrame d s [] (s.wr d (F.LPE_SLOT_STATUS_state i) v) where
  reads j hj g hg := State.rd_wr_of_apart s d v (state_sparesOverruns d i).1 ((state_sparesOverruns d i).2 j hj g hg)
  inbox := (List.append_nil _).symm
  runs := keepsRuns.refl s
  now := rfl
  faulted j _ h := by
    by_cases hj : i = j
    · subst hj
      rw [hv h]
      exact State.rd_wr_same s d _ _ (state_sparesOverruns d i).1
    · exact (State.rd_wr_of_apart s d v (state_sparesOverruns d i).1 (.inl (by simp only [F.LPE_SLOT_STATUS_state]; omega))).trans h

theorem modSlot (d : Nat) (s : State) (e i : Nat) (f : Slot → Slot) (hf : ∀ x, (f x).ovrRun = x.ovrRun) :
    OverrunFrame d s [] (s.modSlot e i f) where
  reads _ _ _ _ := rfl
  inbox := (List.append_nil _).symm
  runs := keepsRuns_modSlot s e i f hf
  now := rfl
  faulted _ _ h := h

theorem each {α : Type} (s : State) (as : List α) (f : α → State → State) (h : ∀ a ∈ as, ∀ s, OverrunFrame d s [] (f a s)) :
    OverrunFrame d s [] (s.each as f) :=
  State.each_keeps_mem (OverrunFrame d s []) as f (fun a ha t ht => ht.trans (h a ha t)) s (refl d s)

end OverrunFrame

/-! ### Safe-off -/

section SafeOff

variable (s : State) (d i : Nat)

theorem hvChannel_lt {d dst c : Nat} (h : hvChannel d dst = some c) : c < 8 := by
  unfold hvChannel at h
  split at h <;> split at h <;> simp at h <;> omega

theorem slotDrive_frame (out : Int) : OverrunFrame d s [] (s.slotDrive d i out) := by
  have shown := (OverrunFrame.modSlot d s d i (fun x => { x with out := out }) fun _ => rfl).trans
    (.wr _ (unsgn (F.LPE_SLOT_OUT_out i).width (satS (F.LPE_SLOT_OUT_out i).width out)) (out_spares d i))
  unfold State.slotDrive
  dsimp only
  split
  · exact shown
  · next c hc => exact shown.trans (.wr _ _ (code_spares d (hvChannel_lt hc)))

theorem modHvc_frame (e : Nat) (f : Hvc → Hvc) : OverrunFrame d s [] (s.modHvc e f) := .of_kept rfl rfl rfl (List.append_nil _).symm

theorem modStn_frame (n : Nat) (f : Stn → Stn) : OverrunFrame d s [] (s.modStn n f) := .of_kept rfl rfl rfl (List.append_nil _).symm

theorem modLsr_frame (n : Nat) (f : Lsr → Lsr) : OverrunFrame d s [] (s.modLsr n f) := .of_kept rfl rfl rfl (List.append_nil _).symm

theorem modFlt_frame (f : Flt → Flt) (hf : ∀ x, (f x).inbox = x.inbox) : OverrunFrame d s [] (s.modFlt f) :=
  .of_kept rfl rfl rfl ((hf _).trans (List.append_nil _).symm)

theorem slotAtSafe_frame : OverrunFrame d s [] (s.slotAtSafe d i) := by
  unfold State.slotAtSafe
  exact OverrunFrame.after (.wr _ _ (sat_spares d i)) (.modSlot d s d i _ fun _ => rfl)

theorem forceSlot_frame : OverrunFrame d s [] (s.forceSlot d i) := by
  unfold State.forceSlot
  split
  · next h =>
    have live : s.slotState d i ≠ slotFaulted := by rcases h with h | h <;> rw [h] <;> decide
    exact (slotDrive_frame _ d i _).after ((slotAtSafe_frame _ d i).after (.wr_state s i fun h => absurd h live))
  · exact .refl d s

theorem beginShadow_frame (sh : Shadow) : OverrunFrame d s [] (s.beginShadow sh) := by
  unfold State.beginShadow
  dsimp only
  split <;> split <;> exact .of_kept rfl rfl rfl (List.append_nil _).symm

/-- The channels of a die at their zero codes (R279, R280). -/
theorem zeroCodes_frame : OverrunFrame d s []
    (s.each (List.range (hvCount d)) fun c s => s.wr d (F.HVC_CH_CODE_code c) (s.hvZero d c)) := by
  refine .each _ _ _ fun c hc s => .wr s _ (code_spares d ?_)
  have hc := List.mem_range.mp hc
  unfold hvCount at hc
  split at hc <;> omega

theorem forceOnto_frame (p : Nat → Bool) : OverrunFrame d s [] (s.forceOnto d p) :=
  .each _ _ _ fun i _ s => forceSlot_frame s d i

theorem hvSafeOff_frame (c : LineCause) : OverrunFrame d s [] (s.hvSafeOff d c) := by
  unfold State.hvSafeOff
  dsimp only
  split
  · exact modHvc_frame s d d _
  · exact (beginShadow_frame _ d _).after ((modHvc_frame _ d d _).after ((zeroCodes_frame _ d).after ((forceOnto_frame _ d _).after
      (OverrunFrame.after (.wr _ 1 (safeoff_spares d)) (modHvc_frame s d d _)))))

theorem assertLine_frame (c : LineCause) : OverrunFrame d s [] (s.assertLine d c) := by
  have restarted : OverrunFrame d s [] (if decide (2 ≤ (s.lsr d).train) then
      s.modLsr d fun x => { x with train := 1, trainAt := s.now, control := [], tx := [idleWord] } else s) := by
    split
    · exact modLsr_frame s d d _
    · exact .refl d s
  unfold State.assertLine
  exact (beginShadow_frame _ d _).after (OverrunFrame.after (.each _ _ _ fun j _ s => forceSlot_frame s d j)
    (OverrunFrame.after (.wr _ 1 (lso_spares d)) ((modStn_frame _ d d _).after restarted)))

theorem addBlank_frame (n : Nat) (b : Blank) : OverrunFrame d s [] (s.addBlank n b) := by
  unfold State.addBlank
  split
  · exact .refl d s
  · exact modStn_frame s d n _

theorem safeOffDie_frame : OverrunFrame d s [] (s.safeOffDie d) := by
  unfold State.safeOffDie
  dsimp only
  split
  · exact hvSafeOff_frame s d _
  · exact (addBlank_frame _ d d _).after ((assertLine_frame _ d _).after (hvSafeOff_frame s d _))

end SafeOff

/-! ### Reports -/

section Reports

variable (s : State) (d i : Nat)

/-- A report joins the inbox, as an F report where its position is promoted; its die may have taken its safe-off first (R345). -/
theorem post_frame (r : Report) : ∃ r', OverrunFrame r.die s [r'] (s.post r) ∧
    r'.die = r.die ∧ r'.pos = r.pos ∧ r'.cls = if s.promotes r.die r.pos then .f else r.cls := by
  unfold State.post State.promotes
  split
  · next h =>
    refine ⟨_, (safeOffDie_frame s r.die).trans (.of_kept rfl rfl rfl rfl), rfl, rfl, ?_⟩
    simp only [Bool.and_eq_true] at h
    rw [if_pos h.2]
  · next h =>
    refine ⟨r, .of_kept rfl rfl rfl rfl, rfl, rfl, ?_⟩
    split
    · next hp => simpa [-State.on_eq, hp] using h
    · rfl

theorem report_frame (blk : Blk) (src : Nat) (cls : FClass) (cause : Nat) (fs : List Nat) :
    ∃ r, OverrunFrame d s [r] (s.report d blk src cls cause fs) ∧
      r.die = d ∧ r.pos = fltPos d blk ∧ r.cls = if s.promotes d (fltPos d blk) then .f else cls :=
  post_frame s (s.reportOf d blk src cls cause fs)

/-- The report of a slot: through its detector where it has one, which a shadow may cover (R354). -/
def State.slotReport (s : State) (d i : Nat) (x : Option Detector) (cls : FClass) (cause : Nat) (fs : List Nat) : State :=
  match x with
  | some x => s.detect x d .lpe i cls cause fs
  | none => s.report d .lpe i cls cause fs

variable (x : Option Detector) (cls : FClass) (cause : Nat) (fs : List Nat)

/-- No shadow covers the detector of a report. -/
def State.uncovered (s : State) (x : Option Detector) : Prop := ∀ y ∈ x, s.shadowed y = false

variable {s} in
theorem slotReport_of_uncovered (h : s.uncovered x) : s.slotReport d i x cls cause fs = s.report d .lpe i cls cause fs := by
  cases x with
  | none => rfl
  | some y => simp [State.slotReport, State.detect, h y rfl]

theorem slotReport_frame : ∃ l, OverrunFrame d s l (s.slotReport d i x cls cause fs) := by
  by_cases hx : s.uncovered x
  · obtain ⟨r, hr, _⟩ := report_frame s d .lpe i cls cause fs
    exact ⟨[r], slotReport_of_uncovered d i x cls cause fs hx ▸ hr⟩
  · cases x with
    | none => exact absurd (fun _ h => by cases h) hx
    | some y =>
      have hy : s.shadowed y = true := by simpa [State.uncovered] using hx
      refine ⟨[], ?_⟩
      simp only [State.slotReport, State.detect, hy, if_true]
      refine OverrunFrame.after (modFlt_frame _ d _ ?_) (.wr s _ (shadowed_spares d))
      exact fun _ => rfl

/-- A report of a position that is not promoted is counted as shadowed or joins the inbox, and nothing else. -/
theorem slotReport_calm (hp : s.promotes d (fltPos d .lpe) = false) :
    (s.slotReport d i x cls cause fs) =
        { s with regs := (s.slotReport d i x cls cause fs).regs, flt := (s.slotReport d i x cls cause fs).flt } ∧
      regsKept s (s.slotReport d i x cls cause fs) d [F.FLT_SHADOWED_shadowed (fltPos d .lpe)] := by
  have hr : s.report d .lpe i cls cause fs = _ := State.report_kept s d .lpe i cls cause fs hp
  by_cases hx : s.uncovered x
  · rw [slotReport_of_uncovered d i x cls cause fs hx, hr]
    exact ⟨rfl, regsKept.refl s d _⟩
  · cases x with
    | none => exact absurd (fun _ h => by cases h) hx
    | some y =>
      have hy : s.shadowed y = true := by simpa [State.uncovered] using hx
      have := fltPos_lpe_le d
      simp only [State.slotReport, State.detect, hy, if_true]
      exact ⟨rfl, regsKept_wr s d _ _ _ (List.mem_singleton_self _) ((Fld.ok_iff _).mpr (by simp only [F.FLT_SHADOWED_shadowed]; omega))⟩

end Reports

/-! ### Slot faults (R273) -/

section SlotFaults

variable (s : State) (d i : Nat) (x : Option Detector)

/-- A slot fault is counted and latched, and ends the row of overruns and of outside samples. -/
def State.faultMarked (s : State) (d i : Nat) : State :=
  ((s.bump d (F.LPE_SLOT_FLT_CNT_flt_cnt i)).wr d (F.LPE_SLOT_STATUS_flt_s i) 1).modSlot d i fun y => { y with outside := 0, ovrRun := 0 }

/-- A slot that hardware does not force goes to FAULT with its output safe (R273, R274). -/
def State.toFault (s : State) (d i : Nat) : State :=
  if s.slotState d i = slotForced then s
  else ((s.wr d (F.LPE_SLOT_STATUS_state i) slotFaulted).slotDrive d i (s.slotSafe d i)).wr d (slotFaultBit i) 1

/-- A U fault of a gated slot blanks the stations that it acts on (R273). -/
def State.blankGated (s : State) (d i : Nat) : State :=
  if s.rd d (F.LPE_SLOT_CFG_gate i) = 1 ∨ s.rd d (F.LPE_SLOT_CFG_gate i) = 2 then
    s.each (s.slotStations d) fun n s => s.addBlank n (.slotGate d i)
  else s

variable {s d i} in
theorem slotFault_c (h : (s.faultMarked d i).slotClass d i = .c) :
    s.slotFault d i x = (s.faultMarked d i).slotReport d i x .c 0 [] := by
  unfold State.faultMarked at h
  cases x <;> simp only [State.slotFault, h] <;> rfl

variable {s d i} in
theorem slotFault_u (h : (s.faultMarked d i).slotClass d i = .u) :
    s.slotFault d i x = ((((s.faultMarked d i).toFault d i).blankGated d i).slotReport d i x .u (causeBit 19)
      ((((s.faultMarked d i).toFault d i).blankGated d i).slotFrames d)).beginShadow (.slotFault d i) := by
  unfold State.faultMarked at h
  cases x <;> simp only [State.slotFault, h, true_and] <;> rfl

variable {s d i} in
theorem slotFault_f (h : (s.faultMarked d i).slotClass d i = .f) :
    s.slotFault d i x = ((((s.faultMarked d i).toFault d i).safeOffDie d).slotReport d i x .f (causeBit 18)
      ((s.faultMarked d i).toFault d i).framesInProgress).beginShadow (.slotFault d i) := by
  unfold State.faultMarked at h
  cases x <;> simp only [State.slotFault, h, reduceCtorEq, false_and, if_false] <;> rfl

variable {i} in
theorem toFault_frame (hi : i < 48) : OverrunFrame d s [] (s.toFault d i) := by
  unfold State.toFault
  split
  · exact .refl d s
  · exact OverrunFrame.after (.wr _ 1 (slotFaultBit_spares d i hi)) ((slotDrive_frame _ d i _).after (.wr_state s i fun _ => rfl))

theorem blankGated_frame : OverrunFrame d s [] (s.blankGated d i) := by
  unfold State.blankGated
  split
  · exact .each _ _ _ fun n _ s => addBlank_frame s d n _
  · exact .refl d s

variable {s d i} in
theorem toFault_slotState (hi : i < 48) (h : s.slotState d i ≠ slotForced) : (s.toFault d i).slotState d i = slotFaulted := by
  unfold State.toFault
  rw [if_neg h]
  refine (OverrunFrame.after (.wr _ 1 (slotFaultBit_spares d i hi)) (slotDrive_frame _ d i _)).faulted i hi ?_
  exact State.rd_wr_same s d _ _ (state_sparesOverruns d i).1

variable {i} in
/-- The outcome of a slot fault leaves the counts and status bits as the fault has set them, and takes a slot that is not forced and whose class is
not C to FAULT. -/
theorem slotFault_outcome (hi : i < 48) : ∃ l, OverrunFrame d (s.faultMarked d i) l (s.slotFault d i x) ∧
    ((s.faultMarked d i).slotClass d i ≠ .c → (s.faultMarked d i).slotState d i ≠ slotForced →
      (s.slotFault d i x).slotState d i = slotFaulted) := by
  have stopped := toFault_frame (s.faultMarked d i) d hi
  cases h : (s.faultMarked d i).slotClass d i with
  | c =>
    obtain ⟨l, hl⟩ := slotReport_frame (s.faultMarked d i) d i x .c 0 []
    exact ⟨l, slotFault_c x h ▸ hl, fun hc => absurd rfl hc⟩
  | u =>
    rw [slotFault_u x h]
    obtain ⟨l, hl⟩ := slotReport_frame (((s.faultMarked d i).toFault d i).blankGated d i) d i x .u (causeBit 19) _
    have tail := (beginShadow_frame _ d (.slotFault d i)).after ((blankGated_frame _ d i).trans hl)
    exact ⟨_, stopped.trans tail, fun _ hf => tail.faulted i hi (toFault_slotState hi hf)⟩
  | f =>
    rw [slotFault_f x h]
    obtain ⟨l, hl⟩ := slotReport_frame (((s.faultMarked d i).toFault d i).safeOffDie d) d i x .f (causeBit 18) _
    have tail := (beginShadow_frame _ d (.slotFault d i)).after ((safeOffDie_frame _ d).trans hl)
    exact ⟨_, stopped.trans tail, fun _ hf => tail.faulted i hi (toFault_slotState hi hf)⟩

/-- Marking a fault leaves the fields that share no bit with the count and the bit of it. -/
theorem faultMarked_rd {g : Fld} (h : (F.LPE_SLOT_FLT_CNT_flt_cnt i).apart g) (h' : (F.LPE_SLOT_STATUS_flt_s i).apart g) :
    (s.faultMarked d i).rd d g = s.rd d g := by
  rw [State.faultMarked, State.modSlot_rd, State.rd_wr_of_apart _ d 1 (by simp [F.LPE_SLOT_STATUS_flt_s]) h', State.bump_eq,
    State.rd_wr_of_apart s d _ (by simp [F.LPE_SLOT_FLT_CNT_flt_cnt]) h]

end SlotFaults

/-! ### Overruns (R261) -/

section Overruns

variable (s : State) (d i : Nat)

/-- The detector of an overrun: the hub's is one that a shadow may cover (R354). -/
def overrunDetector (d : Nat) : Option Detector := if d = 0 then some .lpeOverrun else none

/-- An overrun is counted and latched. -/
def State.overrunMarked (s : State) (d i : Nat) : State :=
  (s.bump d (F.LPE_SLOT_OVR_CNT_ovr_cnt i)).wr d (F.LPE_SLOT_STATUS_ovr_s i) 1

/-- An overrun is counted, latched and reported. -/
def State.overrunReported (s : State) (d i : Nat) : State := (s.overrunMarked d i).slotReport d i (overrunDetector d) .c 0 []

/-- An overrun is counted, latched, reported, and joins the row. -/
def State.overrunTaken (s : State) (d i : Nat) : State :=
  (s.overrunReported d i).modSlot d i fun x => { x with ovrRun := ((s.overrunReported d i).slot d i).ovrRun + 1 }

theorem slotOverrun_eq : s.slotOverrun d i = if 3 ≤ ((s.overrunReported d i).slot d i).ovrRun
    then (s.overrunTaken d i).slotFault d i (overrunDetector d) else s.overrunTaken d i := by
  by_cases hd : d = 0
  · subst hd
    simp [State.slotOverrun, State.overrunTaken, State.overrunReported, State.overrunMarked, overrunDetector, State.slotReport]
  · simp [State.slotOverrun, State.overrunTaken, State.overrunReported, State.overrunMarked, overrunDetector, State.slotReport, hd]

/-- Marking an overrun leaves the fields that share no bit with the count and the bit of it. -/
theorem overrunMarked_rd {g : Fld} (h : (F.LPE_SLOT_OVR_CNT_ovr_cnt i).apart g) (h' : (F.LPE_SLOT_STATUS_ovr_s i).apart g) :
    (s.overrunMarked d i).rd d g = s.rd d g := by
  rw [State.overrunMarked, State.rd_wr_of_apart _ d 1 (by simp [F.LPE_SLOT_STATUS_ovr_s]) h', State.bump_eq,
    State.rd_wr_of_apart s d _ (by simp [F.LPE_SLOT_OVR_CNT_ovr_cnt]) h]

theorem bump20_rd (s : State) (d : Nat) {f : Fld} (h : f.hi = 19) (h0 : f.lo = 0) :
    (s.bump d f).rd d f = satN 20 (s.rd d f + 1) := by
  rw [State.bump_eq, State.rd_wr_same s d f _ (by omega), Fld.width, h, h0]
  exact Nat.mod_eq_of_lt (by unfold satN; omega)

theorem overrunMarked_count :
    (s.overrunMarked d i).rd d (F.LPE_SLOT_OVR_CNT_ovr_cnt i) = satN 20 (s.rd d (F.LPE_SLOT_OVR_CNT_ovr_cnt i) + 1) := by
  rw [State.overrunMarked, State.rd_wr_of_apart _ d 1 (by simp [F.LPE_SLOT_STATUS_ovr_s])
    (.inl (by simp [F.LPE_SLOT_STATUS_ovr_s, F.LPE_SLOT_OVR_CNT_ovr_cnt]))]
  exact bump20_rd s d rfl rfl

theorem overrunMarked_bit : (s.overrunMarked d i).rd d (F.LPE_SLOT_STATUS_ovr_s i) = 1 := by
  rw [State.overrunMarked, State.rd_wr_same _ d _ 1 (by simp [F.LPE_SLOT_STATUS_ovr_s])]
  simp [F.LPE_SLOT_STATUS_ovr_s]

variable {i} in
theorem overrunMarked_promotes (hi : i < 48) :
    (s.overrunMarked d i).promotes d (fltPos d .lpe) = s.promotes d (fltPos d .lpe) := by
  unfold State.promotes
  rw [State.on_eq, State.on_eq, overrunMarked_rd]
  · exact .inl (by simp only [F.LPE_SLOT_OVR_CNT_ovr_cnt, F.FLT_REACT_promote]; omega)
  · exact .inl (by simp only [F.LPE_SLOT_STATUS_ovr_s, F.FLT_REACT_promote]; omega)

/-- Only HUB_BYPASS covers an overrun, whatever the registers hold (R354). -/
theorem shadowed_lpeOverrun_congr {s t : State} (h : t.flt = s.flt) : t.shadowed .lpeOverrun = s.shadowed .lpeOverrun := by
  unfold State.shadowed
  rw [h]
  congr 1
  funext sh
  cases sh <;> rfl

theorem overrunMarked_uncovered (h : d ≠ 0 ∨ s.shadowed .lpeOverrun = false) :
    (s.overrunMarked d i).uncovered (overrunDetector d) := by
  intro y hy
  unfold overrunDetector at hy
  split at hy
  · next hd =>
    cases hy
    rw [shadowed_lpeOverrun_congr (show (s.overrunMarked d i).flt = s.flt from rfl)]
    exact h.resolve_left (absurd hd)
  · cases hy

variable {i} in
/-- The report of an overrun: one of class C, or of class F from a promoted position, unless a shadow covers it. -/
theorem overrunReported_frame (hi : i < 48) : ∃ l, OverrunFrame d (s.overrunMarked d i) l (s.overrunReported d i) ∧
    ((d ≠ 0 ∨ s.shadowed .lpeOverrun = false) →
      l.head?.map (fun r => (r.die, r.pos, r.cls)) = some (d, fltPos d .lpe, if s.promotes d (fltPos d .lpe) then .f else .c)) := by
  by_cases h : d ≠ 0 ∨ s.shadowed .lpeOverrun = false
  · obtain ⟨r, hr, hdie, hpos, hcls⟩ := report_frame (s.overrunMarked d i) d .lpe i .c 0 []
    refine ⟨[r], ?_, fun _ => ?_⟩
    · rw [State.overrunReported, slotReport_of_uncovered d i _ _ _ _ (overrunMarked_uncovered s d i h)]
      exact hr
    · simp [hdie, hpos, hcls, overrunMarked_promotes s d hi]
  · obtain ⟨l, hl⟩ := slotReport_frame (s.overrunMarked d i) d i (overrunDetector d) .c 0 []
    exact ⟨l, hl, fun h' => absurd h' h⟩

variable {i} in
/-- The count of the row that an overrun finds is the one before it, whatever safe-off its report has brought. -/
theorem overrunReported_ovrRun (hi : i < 48) : ((s.overrunReported d i).slot d i).ovrRun = (s.slot d i).ovrRun := by
  obtain ⟨l, hl, _⟩ := overrunReported_frame s d hi
  exact hl.runs d i

variable {i} in
theorem slotOverrun_of_lt (hi : i < 48) (h : (s.slot d i).ovrRun < 3) : s.slotOverrun d i = s.overrunTaken d i := by
  rw [slotOverrun_eq, overrunReported_ovrRun s d hi, if_neg (by omega)]

variable {i} in
theorem slotOverrun_of_le (hi : i < 48) (h : 3 ≤ (s.slot d i).ovrRun) :
    s.slotOverrun d i = (s.overrunTaken d i).slotFault d i (overrunDetector d) := by
  rw [slotOverrun_eq, overrunReported_ovrRun s d hi, if_pos h]

variable {i} in
/-- What follows the report of an overrun, a slot fault among it, adds reports and leaves the count and the bit of the overrun. -/
theorem slotOverrun_after_report (hi : i < 48) : (∃ l, (s.slotOverrun d i).flt.inbox = (s.overrunReported d i).flt.inbox ++ l) ∧
    ∀ g ∈ [F.LPE_SLOT_OVR_CNT_ovr_cnt i, F.LPE_SLOT_STATUS_ovr_s i], (s.slotOverrun d i).rd d g = (s.overrunReported d i).rd d g := by
  by_cases h : (s.slot d i).ovrRun < 3
  · rw [slotOverrun_of_lt s d hi h]
    exact ⟨⟨[], (List.append_nil _).symm⟩, fun _ _ => rfl⟩
  · rw [slotOverrun_of_le s d hi (by omega)]
    obtain ⟨l, hl, _⟩ := slotFault_outcome (s.overrunTaken d i) d (overrunDetector d) hi
    refine ⟨⟨l, hl.inbox⟩, fun g hg => ?_⟩
    simp only [List.mem_cons, List.not_mem_nil, or_false] at hg
    rw [hl.reads i hi g (by rcases hg with rfl | rfl <;> simp [overrunFields]), faultMarked_rd]
    · rfl
    · rcases hg with rfl | rfl <;> exact .inl (by simp [F.LPE_SLOT_FLT_CNT_flt_cnt, F.LPE_SLOT_STATUS_ovr_s, F.LPE_SLOT_OVR_CNT_ovr_cnt])
    · rcases hg with rfl | rfl <;> simp [Fld.apart, F.LPE_SLOT_STATUS_flt_s, F.LPE_SLOT_STATUS_ovr_s, F.LPE_SLOT_OVR_CNT_ovr_cnt]

variable {i} in
/-- Every overrun is counted, latched and, uncovered, reported first (R261). -/
theorem slotOverrun_counted (hi : i < 48) :
    (s.slotOverrun d i).rd d (F.LPE_SLOT_OVR_CNT_ovr_cnt i) = satN 20 (s.rd d (F.LPE_SLOT_OVR_CNT_ovr_cnt i) + 1) ∧
    (s.slotOverrun d i).rd d (F.LPE_SLOT_STATUS_ovr_s i) = 1 ∧
    (d ≠ 0 ∨ s.shadowed .lpeOverrun = false →
      ((s.slotOverrun d i).flt.inbox.drop s.flt.inbox.length).head?.map (fun r => (r.die, r.pos, r.cls)) =
        some (d, fltPos d .lpe, if s.promotes d (fltPos d .lpe) then .f else .c)) := by
  obtain ⟨l, hl, hr⟩ := overrunReported_frame s d hi
  obtain ⟨⟨l', hl'⟩, hkept⟩ := slotOverrun_after_report s d hi
  refine ⟨?_, ?_, fun h => ?_⟩
  · rw [hkept _ (by simp), hl.reads i hi _ (by simp [overrunFields]), overrunMarked_count]
  · rw [hkept _ (by simp), hl.reads i hi _ (by simp [overrunFields]), overrunMarked_bit]
  · have inbox : (s.slotOverrun d i).flt.inbox = s.flt.inbox ++ (l ++ l') := by
      rw [hl', hl.inbox, List.append_assoc]; rfl
    have head := hr h
    cases l with
    | nil => simp at head
    | cons r l => rw [inbox, List.drop_left]; exact head

variable {i} in
theorem slotOverrun_now (hi : i < 48) : (s.slotOverrun d i).now = s.now := by
  obtain ⟨l, hl, _⟩ := overrunReported_frame s d hi
  by_cases h : (s.slot d i).ovrRun < 3
  · rw [slotOverrun_of_lt s d hi h]
    exact hl.now
  · obtain ⟨l', hl', _⟩ := slotFault_outcome (s.overrunTaken d i) d (overrunDetector d) hi
    rw [slotOverrun_of_le s d hi (by omega)]
    calc _ = ((s.overrunTaken d i).faultMarked d i).now := hl'.now
      _ = (s.overrunReported d i).now := rfl
      _ = s.now := hl.now

/-! ### Without a promoted position -/

variable {i} in
/-- An overrun whose report brings no safe-off touches its slot, its counters and the reports alone. -/
theorem overrunTaken_calm (hi : i < 48) (hp : s.promotes d (fltPos d .lpe) = false) :
    s.overrunTaken d i = { s with regs := (s.overrunTaken d i).regs, lpes := (s.overrunTaken d i).lpes, flt := (s.overrunTaken d i).flt } ∧
    (s.overrunReported d i).lpes = s.lpes ∧
    regsKept s (s.overrunTaken d i) d
      [F.LPE_SLOT_OVR_CNT_ovr_cnt i, F.LPE_SLOT_STATUS_ovr_s i, F.FLT_SHADOWED_shadowed (fltPos d .lpe)] := by
  obtain ⟨hs, hk⟩ := slotReport_calm (s.overrunMarked d i) d i (overrunDetector d) .c 0 [] ((overrunMarked_promotes s d hi).trans hp)
  have hs' : s.overrunReported d i = { s with regs := (s.overrunReported d i).regs, flt := (s.overrunReported d i).flt } := hs
  refine ⟨?_, ?_, ?_⟩
  · unfold State.overrunTaken
    rw [hs']
    rfl
  · rw [hs']
  · have counted := regsKept_wr s d (F.LPE_SLOT_OVR_CNT_ovr_cnt i) (satN 20 (s.rd d (F.LPE_SLOT_OVR_CNT_ovr_cnt i) + 1))
      [F.LPE_SLOT_OVR_CNT_ovr_cnt i, F.LPE_SLOT_STATUS_ovr_s i, F.FLT_SHADOWED_shadowed (fltPos d .lpe)] (by simp)
      ((Fld.ok_iff _).mpr (by simp only [F.LPE_SLOT_OVR_CNT_ovr_cnt]; omega))
    have latched := regsKept_wr (s.bump d (F.LPE_SLOT_OVR_CNT_ovr_cnt i)) d (F.LPE_SLOT_STATUS_ovr_s i) 1
      [F.LPE_SLOT_OVR_CNT_ovr_cnt i, F.LPE_SLOT_STATUS_ovr_s i, F.FLT_SHADOWED_shadowed (fltPos d .lpe)] (by simp)
      ((Fld.ok_iff _).mpr (by simp only [F.LPE_SLOT_STATUS_ovr_s]; omega))
    exact (counted.trans latched).trans (hk.mono (by simp))

variable {i} in
/-- The state, the configuration and the sources of a slot and the promote bits read, when the fault of an overrun is marked, as before the overrun. -/
theorem overrun_faultMarked_rd (hi : i < 48) (hp : s.promotes d (fltPos d .lpe) = false) {g : Fld}
    (hg : g = F.LPE_SLOT_STATUS_state i ∨ g.off = 0x70010 ∨ g.off = 0x30100 + 0x80 * i ∨ g.off = 0x30104 + 0x80 * i) :
    ((s.overrunTaken d i).faultMarked d i).rd d g = s.rd d g := by
  have apart : ∀ f ∈ [F.LPE_SLOT_OVR_CNT_ovr_cnt i, F.LPE_SLOT_STATUS_ovr_s i, F.FLT_SHADOWED_shadowed (fltPos d .lpe),
      F.LPE_SLOT_FLT_CNT_flt_cnt i, F.LPE_SLOT_STATUS_flt_s i], f.apart g := by
    intro f hf
    simp only [List.mem_cons, List.not_mem_nil, or_false] at hf
    rcases hf with rfl | rfl | rfl | rfl | rfl <;> rcases hg with rfl | hg | hg | hg <;>
      simp only [Fld.apart, F.LPE_SLOT_STATUS_state, F.LPE_SLOT_OVR_CNT_ovr_cnt, F.LPE_SLOT_STATUS_ovr_s, F.LPE_SLOT_FLT_CNT_flt_cnt,
        F.LPE_SLOT_STATUS_flt_s, F.FLT_SHADOWED_shadowed] <;> omega
  have off : g.off < 0x100000 := by
    rcases hg with rfl | hg | hg | hg
    · simp only [F.LPE_SLOT_STATUS_state]; omega
    all_goals omega
  obtain ⟨_, _, hkept⟩ := overrunTaken_calm s d hi hp
  rw [faultMarked_rd _ d i (apart _ (by simp)) (apart _ (by simp))]
  exact hkept d g off fun _ f hf => apart f (List.mem_append_left [F.LPE_SLOT_FLT_CNT_flt_cnt i, F.LPE_SLOT_STATUS_flt_s i] hf)

/-- The class of a slot's fault follows from the words of its configuration and its sources. -/
theorem slotClass_congr {s t : State} {d i : Nat}
    (h : ∀ g : Fld, g.off = 0x30100 + 0x80 * i ∨ g.off = 0x30104 + 0x80 * i → t.rd d g = s.rd d g) : t.slotClass d i = s.slotClass d i := by
  unfold State.slotClass
  rw [h (F.LPE_SLOT_CFG_fclass i) (.inl rfl), h (F.LPE_SLOT_CFG_gate i) (.inl rfl), h (F.LPE_SLOT_SRC_out_dst i) (.inr rfl)]

variable {i} in
theorem overrun_faultMarked_slotClass (hi : i < 48) (hp : s.promotes d (fltPos d .lpe) = false) :
    ((s.overrunTaken d i).faultMarked d i).slotClass d i = s.slotClass d i :=
  slotClass_congr fun _ hg => overrun_faultMarked_rd s d hi hp (.inr (.inr hg))

variable {i} in
/-- The fourth overrun in a row is a slot fault (R261, R273). -/
theorem slotOverrun_fourth (hi : i < 48) (h : 3 ≤ (s.slot d i).ovrRun) :
    (s.slotOverrun d i).rd d (F.LPE_SLOT_FLT_CNT_flt_cnt i) = satN 20 (s.rd d (F.LPE_SLOT_FLT_CNT_flt_cnt i) + 1) ∧
    (s.slotOverrun d i).rd d (F.LPE_SLOT_STATUS_flt_s i) = 1 ∧ ((s.slotOverrun d i).slot d i).ovrRun = 0 ∧
    (s.promotes d (fltPos d .lpe) = false → s.slotClass d i ≠ .c → s.slotState d i ≠ slotForced →
      (s.slotOverrun d i).slotState d i = slotFaulted) := by
  obtain ⟨l, hl, _⟩ := overrunReported_frame s d hi
  obtain ⟨l', hl', hfault⟩ := slotFault_outcome (s.overrunTaken d i) d (overrunDetector d) hi
  rw [slotOverrun_of_le s d hi h]
  refine ⟨?_, ?_, ?_, fun hp hc hf => ?_⟩
  · have before : (s.overrunTaken d i).rd d (F.LPE_SLOT_FLT_CNT_flt_cnt i) = s.rd d (F.LPE_SLOT_FLT_CNT_flt_cnt i) :=
      (hl.reads i hi _ (by simp [overrunFields])).trans (overrunMarked_rd s d i
        (.inl (by simp [F.LPE_SLOT_OVR_CNT_ovr_cnt, F.LPE_SLOT_FLT_CNT_flt_cnt]))
        (.inl (by simp [F.LPE_SLOT_STATUS_ovr_s, F.LPE_SLOT_FLT_CNT_flt_cnt])))
    rw [hl'.reads i hi _ (by simp [overrunFields]), State.faultMarked, State.modSlot_rd,
      State.rd_wr_of_apart _ d 1 (by simp [F.LPE_SLOT_STATUS_flt_s]) (.inl (by simp [F.LPE_SLOT_STATUS_flt_s, F.LPE_SLOT_FLT_CNT_flt_cnt])),
      bump20_rd _ d rfl rfl, before]
  · rw [hl'.reads i hi _ (by simp [overrunFields]), State.faultMarked, State.modSlot_rd,
      State.rd_wr_same _ d _ 1 (by simp [F.LPE_SLOT_STATUS_flt_s])]
    simp [F.LPE_SLOT_STATUS_flt_s]
  · rw [hl'.runs d i]
    exact State.ovrRun_modSlot_zero _ d i _ fun _ => rfl
  · refine hfault ?_ ?_
    · rwa [overrun_faultMarked_slotClass s d hi hp]
    · rwa [State.slotState, overrun_faultMarked_rd s d hi hp (.inl rfl)]

variable {i} in
/-- An overrun that is no slot fault, or one of class C, leaves the slot in its state (R261, R273). -/
theorem slotOverrun_goes_on (hi : i < 48) (hp : s.promotes d (fltPos d .lpe) = false) (h : (s.slot d i).ovrRun < 3 ∨ s.slotClass d i = .c) :
    (s.slotOverrun d i).slotState d i = s.slotState d i ∧ (s.slotOverrun d i).lpes.length = s.lpes.length := by
  obtain ⟨_, hlpes, hkept⟩ := overrunTaken_calm s d hi hp
  have taken : (s.overrunTaken d i).lpes.length = s.lpes.length := by rw [State.overrunTaken, State.length_modSlot, hlpes]
  by_cases hr : (s.slot d i).ovrRun < 3
  · rw [slotOverrun_of_lt s d hi hr]
    refine ⟨hkept d _ (by simp only [F.LPE_SLOT_STATUS_state]; omega) fun _ f hf => ?_, taken⟩
    simp only [List.mem_cons, List.not_mem_nil, or_false] at hf
    rcases hf with rfl | rfl | rfl <;>
      simp only [Fld.apart, F.LPE_SLOT_STATUS_state, F.LPE_SLOT_OVR_CNT_ovr_cnt, F.LPE_SLOT_STATUS_ovr_s, F.FLT_SHADOWED_shadowed] <;> omega
  · have hc := (overrun_faultMarked_slotClass s d hi hp).trans (h.resolve_left hr)
    rw [slotOverrun_of_le s d hi (by omega), slotFault_c _ hc]
    have hpm : ((s.overrunTaken d i).faultMarked d i).promotes d (fltPos d .lpe) = false := by
      rwa [State.promotes, State.on_eq, overrun_faultMarked_rd s d hi hp (.inr (.inl rfl))]
    obtain ⟨hs, hk⟩ := slotReport_calm ((s.overrunTaken d i).faultMarked d i) d i (overrunDetector d) .c 0 [] hpm
    refine ⟨?_, ?_⟩
    · refine (hk d _ (by simp only [F.LPE_SLOT_STATUS_state]; omega) fun _ f hf => ?_).trans (overrun_faultMarked_rd s d hi hp (.inl rfl))
      simp only [List.mem_singleton] at hf
      subst hf
      exact .inl (by simp only [F.LPE_SLOT_STATUS_state, F.FLT_SHADOWED_shadowed]; omega)
    · rw [show (State.slotReport ..).lpes = _ from congrArg State.lpes hs, State.faultMarked, State.length_modSlot]
      exact taken

variable {i} in
/-- An overrun that is no slot fault joins the row, and its slot is otherwise as it was. -/
theorem slotOverrun_slot (hi : i < 48) (hd : d < s.lpes.length) (hp : s.promotes d (fltPos d .lpe) = false) (h : (s.slot d i).ovrRun < 3) :
    (s.slotOverrun d i).slot d i = { s.slot d i with ovrRun := (s.slot d i).ovrRun + 1 } := by
  obtain ⟨_, hlpes, _⟩ := overrunTaken_calm s d hi hp
  rw [slotOverrun_of_lt s d hi h, State.overrunTaken, State.slot_modSlot_same _ (by rwa [hlpes]), overrunReported_ovrRun s d hi,
    State.slot_congr hlpes]

end Overruns

/-! ### Triggers that find one waiting -/

section Triggers

variable {s : State} {d i : Nat}

/-- What an overrun leaves, with what the trigger then does to its slot. -/
def OverrunOutcome (s : State) (d i : Nat) (trigger : Slot → Prop) (t : State) : Prop :=
  t.rd d (F.LPE_SLOT_OVR_CNT_ovr_cnt i) = satN 20 (s.rd d (F.LPE_SLOT_OVR_CNT_ovr_cnt i) + 1) ∧ t.rd d (F.LPE_SLOT_STATUS_ovr_s i) = 1 ∧
  (d ≠ 0 ∨ s.shadowed .lpeOverrun = false →
    (t.flt.inbox.drop s.flt.inbox.length).head?.map (fun r => (r.die, r.pos, r.cls)) =
      some (d, fltPos d .lpe, if s.promotes d (fltPos d .lpe) then .f else .c)) ∧
  (s.promotes d (fltPos d .lpe) = false → (s.slot d i).ovrRun < 3 ∨ s.slotClass d i = .c → trigger (t.slot d i)) ∧
  (s.promotes d (fltPos d .lpe) = false → (s.slot d i).ovrRun < 3 →
    (t.slot d i).ovrRun = (s.slot d i).ovrRun + 1 ∧ (t.slot d i).out = (s.slot d i).out ∧
    t = { s with regs := t.regs, lpes := t.lpes, flt := t.flt } ∧
    regsKept s t d [F.LPE_SLOT_OVR_CNT_ovr_cnt i, F.LPE_SLOT_STATUS_ovr_s i, F.FLT_SHADOWED_shadowed (fltPos d .lpe)]) ∧
  (3 ≤ (s.slot d i).ovrRun → t.rd d (F.LPE_SLOT_FLT_CNT_flt_cnt i) = satN 20 (s.rd d (F.LPE_SLOT_FLT_CNT_flt_cnt i) + 1) ∧
    t.rd d (F.LPE_SLOT_STATUS_flt_s i) = 1 ∧ (t.slot d i).ovrRun = 0 ∧
    (s.promotes d (fltPos d .lpe) = false → s.slotClass d i ≠ .c → s.slotState d i ≠ slotForced → t.slotState d i = slotFaulted))

/-- A trigger that overruns its slot and then, while the slot's state lets it, makes it ready or held. -/
theorem overrunOutcome_of_trigger (hi : i < 48) (hd : d < s.lpes.length) {goes : Bool} {f : Slot → Slot} {trigger : Slot → Prop}
    (hgoes : (s.slotOverrun d i).slotState d i = s.slotState d i → goes = true)
    (hf : ∀ x, (f x).ovrRun = x.ovrRun ∧ (f x).out = x.out ∧ trigger (f x)) :
    OverrunOutcome s d i trigger (if goes then (s.slotOverrun d i).modSlot d i f else s.slotOverrun d i) := by
  obtain ⟨hcnt, hbit, hrep⟩ := slotOverrun_counted s d hi
  cases goes with
  | false =>
    have stays : s.promotes d (fltPos d .lpe) = false → ¬((s.slot d i).ovrRun < 3 ∨ s.slotClass d i = .c) := fun hp h => by
      simpa using hgoes (slotOverrun_goes_on s d hi hp h).1
    exact ⟨hcnt, hbit, hrep, fun hp h => absurd h (stays hp), fun hp h => absurd (.inl h) (stays hp), slotOverrun_fourth s d hi⟩
  | true =>
    refine ⟨hcnt, hbit, hrep, fun hp h => ?_, fun hp h => ?_, fun h => ?_⟩
    · rw [if_pos rfl, State.slot_modSlot_same _ (by rwa [(slotOverrun_goes_on s d hi hp h).2])]
      exact (hf _).2.2
    · obtain ⟨hstate, _, hkept⟩ := overrunTaken_calm s d hi hp
      have hlen := (slotOverrun_goes_on s d hi hp (.inl h)).2
      rw [if_pos rfl, State.slot_modSlot_same _ (by rwa [hlen]), (hf _).1, (hf _).2.1, slotOverrun_slot s d hi hd hp h,
        slotOverrun_of_lt s d hi h]
      refine ⟨rfl, rfl, ?_, hkept⟩
      rw [hstate]
      rfl
    · obtain ⟨hfcnt, hfbit, hrun, hfault⟩ := slotOverrun_fourth s d hi h
      exact ⟨hfcnt, hfbit, (keepsRuns_modSlot _ d i f (fun x => (hf x).1) d i).trans hrun, hfault⟩

theorem slotSampling_congr {t : State} (h : t.slotState d i = s.slotState d i) : t.slotSampling d i = s.slotSampling d i := by
  unfold State.slotSampling; rw [h]

theorem slotLive_congr {t : State} (h : t.slotState d i = s.slotState d i) : t.slotLive d i = s.slotLive d i := by
  unfold State.slotLive; rw [h]

theorem State.slotLive_iff (s : State) (d i : Nat) : s.slotLive d i = true ↔ s.slotState d i = slotRamp ∨ s.slotState d i = slotRun := by
  simp [State.slotLive]

/-- A trigger at a time of a slot that is still ready. -/
theorem slotTrigger_of_ready (τ : Nat) (h : (s.slot d i).ready.isSome = true) :
    s.slotTrigger d i τ = if (s.slotOverrun d i).slotSampling d i then
      (s.slotOverrun d i).modSlot d i fun x => { x with ready := some τ, lastTrig := some τ } else s.slotOverrun d i := by
  simp only [State.slotTrigger, h, if_true]

/-- An owner's trigger comes less than 10 µs after the slot's last (R259). -/
def State.triggersEarly (s : State) (d i : Nat) : Bool :=
  match (s.slot d i).lastTrig with
  | some τ => decide (s.now < τ + 10000)
  | none => false

/-- A slot with an owner's trigger at a time, held where it is early. -/
def Slot.ownerTriggered (x : Slot) (own : OwnerSample) (early : Bool) (now : Nat) : Slot :=
  if early then { x with own := own, chan := none, held := some now, ready := none }
  else { x with own := own, chan := none, held := none, ready := some now, lastTrig := some now }

/-- An owner's trigger of a slot in RAMP or RUN that is still ready or holds a held one. -/
theorem slotOwnerTrigger_of_waiting (hi : i < 48) (own : OwnerSample) (hl : s.slotLive d i = true)
    (h : (s.slot d i).held.isSome = true ∨ (s.slot d i).ready.isSome = true) :
    s.slotOwnerTrigger d i own = if (s.slotOverrun d i).slotLive d i then
      (s.slotOverrun d i).modSlot d i fun x => x.ownerTriggered own (s.triggersEarly d i) s.now else s.slotOverrun d i := by
  have hw : ((s.slot d i).held.isSome || (s.slot d i).ready.isSome) = true := by simpa using h
  simp only [State.slotOwnerTrigger, hl, if_true, hw, slotOverrun_now s d hi]
  cases (s.slotOverrun d i).slotLive d i with
  | false => rfl
  | true =>
    cases ht : (s.slot d i).lastTrig with
    | none => simp [ht, State.triggersEarly, Slot.ownerTriggered]
    | some τ => by_cases he : s.now < τ + 10000 <;> simp [ht, he, State.triggersEarly, Slot.ownerTriggered]

theorem slotCount_le (d : Nat) : slotCount d ≤ 48 := by
  unfold slotCount; split <;> decide

theorem lt_of_hasSlot (h : s.hasSlot d i = true) : i < 48 := by
  have := slotCount_le d
  simp only [State.hasSlot, Bool.and_eq_true, decide_eq_true_eq] at h
  omega

theorem exec_ownerEventTrigger (own : OwnerSample) (h : s.hasSlot d i = true) (ht : s.rd d (F.LPE_SLOT_CFG_trig i) = 2) :
    exec (.ownerEventTrigger d i own) s = .next (s.slotOwnerTrigger d i own) := by
  show execOwnerEventTrigger d i own s = _
  simp [execOwnerEventTrigger, h, ht]

theorem exec_slotTimerTrigger (h : s.hasSlot d i = true) (ht : s.rd d (F.LPE_SLOT_CFG_trig i) = 1) (hs : s.slotSampling d i = true)
    (hd : s.slotDue d i ≤ s.now) : exec (.slotTimerTrigger d i) s = .next (s.slotTrigger d i (s.slotDue d i)) := by
  show execSlotTimerTrigger d i s = _
  simp [execSlotTimerTrigger, h, ht, hs, hd]

/-- A timer's trigger that finds its slot still ready (R261). -/
theorem slotTimerTrigger_overruns (h : s.hasSlot d i = true) (hd : d < s.lpes.length) (ht : s.rd d (F.LPE_SLOT_CFG_trig i) = 1)
    (hs : s.slotSampling d i = true) (hdue : s.slotDue d i ≤ s.now) (hr : (s.slot d i).ready.isSome = true) :
    completes (.slotTimerTrigger d i) s (OverrunOutcome s d i fun x => x.ready = some (s.slotDue d i)) := by
  refine ⟨_, exec_slotTimerTrigger h ht hs hdue, ?_⟩
  rw [slotTrigger_of_ready _ hr]
  exact overrunOutcome_of_trigger (lt_of_hasSlot h) hd (fun hst => (slotSampling_congr hst).trans hs) fun _ => ⟨rfl, rfl, rfl⟩

/-- An owner's trigger that finds its slot still ready, or with a held trigger (R261). -/
theorem ownerEventTrigger_overruns (own : OwnerSample) (h : s.hasSlot d i = true) (hd : d < s.lpes.length)
    (ht : s.rd d (F.LPE_SLOT_CFG_trig i) = 2) (hl : s.slotState d i = slotRamp ∨ s.slotState d i = slotRun)
    (hw : (s.slot d i).held.isSome = true ∨ (s.slot d i).ready.isSome = true) :
    completes (.ownerEventTrigger d i own) s (OverrunOutcome s d i fun x => x.own = own ∧
      (s.triggersEarly d i = true → x.held = some s.now ∧ x.ready = none) ∧
      (s.triggersEarly d i = false → x.ready = some s.now ∧ x.held = none)) := by
  have hlive := (s.slotLive_iff d i).mpr hl
  refine ⟨_, exec_ownerEventTrigger own h ht, ?_⟩
  rw [slotOwnerTrigger_of_waiting (lt_of_hasSlot h) own hlive hw]
  refine overrunOutcome_of_trigger (lt_of_hasSlot h) hd (fun hst => (slotLive_congr hst).trans hlive) fun x => ?_
  cases he : s.triggersEarly d i <;> simp [Slot.ownerTriggered]

end Triggers

/-! ### Memory accesses keep the rows of overruns -/

namespace keepsRuns

variable {s t u : State}

/-- The same as `trans`, from the last change back. -/
theorem after (h' : keepsRuns t u) (h : keepsRuns s t) : keepsRuns s u := h.trans h'

theorem each {α : Type} (s : State) (as : List α) (f : α → State → State) (h : ∀ a s, keepsRuns s (f a s)) : keepsRuns s (s.each as f) :=
  State.each_keeps (keepsRuns s) as f (fun a t ht => ht.trans (h a t)) s (refl s)

theorem wr (s : State) (d : Nat) (f : Fld) (v : Nat) : keepsRuns s (s.wr d f v) := .of_lpes rfl

theorem modMem (s : State) (d : Nat) (f : Mems → Mems) : keepsRuns s (s.modMem d f) := .of_lpes rfl

theorem modLsr (s : State) (n : Nat) (f : Lsr → Lsr) : keepsRuns s (s.modLsr n f) := .of_lpes rfl

end keepsRuns

section Memory

variable (s : State) (d m w : Nat)

theorem report_keepsRuns (blk : Blk) (src : Nat) (cls : FClass) (cause : Nat) (fs : List Nat) :
    keepsRuns s (s.report d blk src cls cause fs) := by
  obtain ⟨r, hr, _⟩ := report_frame s d blk src cls cause fs
  exact hr.runs

theorem memCE_keepsRuns (e : Nat) : keepsRuns s (s.memCE d m w e) :=
  (report_keepsRuns _ d .mem m .c 0 []).after (.of_lpes rfl)

theorem mergeUE_keepsRuns (e : Nat) : keepsRuns s (s.mergeUE d m w e) := .of_lpes rfl

theorem memStored_keepsRuns (poison : Bool) : keepsRuns s (s.memStored d m w poison) := by
  unfold State.memStored
  dsimp only
  split
  · split <;> exact .of_lpes rfl
  · exact .of_lpes rfl

theorem putEntry_keepsRuns (x : MergeEntry) : keepsRuns s (s.putEntry d x) := by
  unfold State.putEntry
  split
  · exact .each _ _ _ fun _ _ => .of_lpes rfl
  · exact .refl s

theorem settleEntry_keepsRuns (x : MergeEntry) : keepsRuns s (s.settleEntry d x) := by
  unfold State.settleEntry State.settleWord
  split
  · split
    · exact .refl s
    · exact .each _ _ _ fun _ _ => .of_lpes rfl
  · exact .refl s

/-- What follows the class of a partial entry's word: the entry's bytes are merged in and the word is stored (R366). -/
theorem merged_keepsRuns (x : MergeEntry) (poison : Bool) :
    keepsRuns s (((s.settleEntry d x).putEntry d x).memStored d x.mem x.word poison) :=
  (memStored_keepsRuns _ d _ _ _).after ((putEntry_keepsRuns _ d x).after (settleEntry_keepsRuns s d x))

theorem flushEntry_keepsRuns (x : MergeEntry) : keepsRuns s (s.flushEntry d x) := by
  have taken := keepsRuns.modMem s d fun m => { m with merge := m.merge.filter fun y => y.mem ≠ x.mem ∨ y.word ≠ x.word }
  unfold State.flushEntry
  dsimp only
  split
  · exact (memStored_keepsRuns _ d _ _ _).after ((putEntry_keepsRuns _ d x).after taken)
  · split
    · exact (merged_keepsRuns _ d x _).after taken
    · exact (merged_keepsRuns _ d x _).after ((memCE_keepsRuns _ d _ _ _).after taken)
    · exact (merged_keepsRuns _ d x _).after ((mergeUE_keepsRuns _ d _ _ _).after taken)

theorem flushMem_keepsRuns (p : Nat → Bool) : keepsRuns s (s.flushMem d m p) :=
  .each _ _ _ fun x s => flushEntry_keepsRuns s d x

theorem keepUnit_keepsRuns (x : StateUnit) : keepsRuns s (s.keepUnit d x) :=
  (memStored_keepsRuns _ d _ _ _).after (flushMem_keepsRuns s d _ _)

theorem mergeIn_keepsRuns (bytes : List (Nat × Nat)) (poison : Bool) : keepsRuns s (s.mergeIn d m w bytes poison) := by
  unfold State.mergeIn
  dsimp only
  split
  · exact (flushEntry_keepsRuns _ d _).after (flushMem_keepsRuns s d m _)
  · split
    · split
      · exact flushEntry_keepsRuns s d _
      · exact .of_lpes rfl
    · refine (keepsRuns.modMem _ d _).after ?_
      split
      · split
        · exact flushEntry_keepsRuns s d _
        · exact .refl s
      · exact .refl s

theorem ctlWrite_keepsRuns (off : Nat) : keepsRuns s (s.ctlWrite d m off) := mergeIn_keepsRuns s d m _ _ _

end Memory

/-! ### An update ends the row of its slot -/

/-- A slot without overruns in a row has none still. -/
def keepsEnded (s t : State) : Prop := ∀ e j, (s.slot e j).ovrRun = 0 → (t.slot e j).ovrRun = 0

theorem keepsRuns.ended {s t : State} (h : keepsRuns s t) : keepsEnded s t := fun e j h0 => (h e j).trans h0

theorem keepsEnded.after {s t u : State} (h' : keepsEnded t u) (h : keepsEnded s t) : keepsEnded s u :=
  fun e j h0 => h' e j (h e j h0)

theorem keepsRuns.ite {s t u : State} {c : Prop} [Decidable c] (h : keepsRuns s t) (h' : keepsRuns s u) :
    keepsRuns s (if c then t else u) := by
  split
  · exact h
  · exact h'

theorem keepsEnded.ite {s t u : State} {c : Prop} [Decidable c] (h : keepsEnded s t) (h' : keepsEnded s u) :
    keepsEnded s (if c then t else u) := by
  split
  · exact h
  · exact h'

section Updates

variable (s : State) (d : Nat) {i : Nat}

theorem faultMarked_keepsEnded (i : Nat) : keepsEnded s (s.faultMarked d i) := by
  intro e j h0
  by_cases h : e = d ∧ j = i
  · obtain ⟨rfl, rfl⟩ := h
    exact State.ovrRun_modSlot_zero _ e j _ fun _ => rfl
  · rw [State.faultMarked, State.slot_modSlot_other _ (by omega)]
    exact h0

theorem slotFault_keepsEnded (hi : i < 48) (x : Option Detector) : keepsEnded s (s.slotFault d i x) := by
  obtain ⟨l, hl, _⟩ := slotFault_outcome s d x hi
  exact hl.runs.ended.after (faultMarked_keepsEnded s d i)

theorem slotDrive_keepsRuns (i : Nat) (out : Int) : keepsRuns s (s.slotDrive d i out) := (slotDrive_frame s d i out).runs

theorem slotReachedRun_keepsRuns (i : Nat) : keepsRuns s (s.slotReachedRun d i) := by
  unfold State.slotReachedRun
  split
  · split
    · exact .of_lpes rfl
    · exact .refl s
  · exact .refl s

theorem slotSeed_keepsRuns (i : Nat) (y : Int) : keepsRuns s (s.slotSeed d i y) := keepsRuns_modSlot s d i _

theorem slotInvalid_keepsEnded (hi : i < 48) : keepsEnded s (s.slotInvalid d i) := by
  unfold State.slotInvalid
  extract_lets x s₁ s₂ outside s₃
  have shown : keepsRuns s s₂ := .ite (.wr _ _ _ _) ((slotDrive_keepsRuns _ d i _).after (.wr _ _ _ _))
  have counted : keepsEnded s s₃ := ((keepsRuns_modSlot s₂ d i _).after shown).ended
  exact .ite ((slotFault_keepsEnded _ d hi _).after counted) counted

theorem slotShow_keepsRuns (i : Nat) (r y e : Int) : keepsRuns s (s.slotShow d i r y e) := .of_lpes rfl

theorem slotSample_keepsEnded (hi : i < 48) (y : Int) : keepsEnded s (s.slotSample d i y) := by
  unfold State.slotSample
  extract_lets first s₁ x t slope step f yhat res far supervised outside
  have seeded : keepsRuns s s₁ := .ite (slotSeed_keepsRuns s d i y) (.refl s)
  split
  extract_lets tgt r e du
  split
  extract_lets u sat s₂ s₃ s₄ s₅ s₆ s₇
  have sampled : keepsRuns s s₂ := (keepsRuns_modSlot s₁ d i _).after seeded
  have shown : keepsRuns s s₃ := .after (.wr _ _ _ _) ((slotShow_keepsRuns _ d i _ _ _).after (.after (.wr _ _ _ _) sampled))
  have flagged : keepsRuns s s₄ := .after (.wr _ _ _ _) (.after (.wr _ _ _ _) shown)
  have counted : keepsRuns s s₅ := .ite (.after (.wr _ _ _ _) flagged) flagged
  have driven : keepsRuns s s₆ := (slotDrive_keepsRuns _ d i _).after counted
  have reached : keepsRuns s s₇ := .ite ((slotReachedRun_keepsRuns _ d i).after (.after (.wr _ _ _ _) driven)) driven
  exact .ite ((slotFault_keepsEnded _ d hi _).after reached.ended) reached.ended

theorem slotContext_keepsRuns (i : Nat) (y : Int) : keepsRuns s (s.slotContext d i y) := by
  unfold State.slotContext
  extract_lets o e du
  split
  extract_lets u s₁ sat s₂
  have sampled : keepsRuns s s₁ := (keepsRuns_modSlot _ d i _).after (.wr _ _ _ _)
  have counted : keepsRuns s s₂ := .ite (.after (.wr _ _ _ _) sampled) sampled
  exact (slotDrive_keepsRuns _ d i _).after (.after (.wr _ _ _ _) ((slotShow_keepsRuns _ d i _ _ _).after counted))

theorem slotIdle_keepsRuns (i : Nat) (y : Int) : keepsRuns s (s.slotIdle d i y) := by
  unfold State.slotIdle
  exact keepsRuns.after (.wr _ _ _ _) ((keepsRuns_modSlot _ d i _).after (slotAtSafe_frame s d i).runs)

theorem stretchSample_keepsRuns (i : Nat) (y : Int) : keepsRuns s (s.stretchSample i y) := by
  unfold State.stretchSample
  split
  · exact .refl s
  · exact .of_lpes rfl

theorem showHv_keepsRuns (c : Nat) (y : Int) : keepsRuns s (s.showHv d c y) := .of_lpes rfl

/-- An update ends the row of overruns of its slot (R261). -/
theorem slotRunUpdate_ovrRun (hi : i < 48) (adc : Int) (valid : Bool) : ((s.slotRunUpdate d i adc valid).slot d i).ovrRun = 0 := by
  unfold State.slotRunUpdate
  extract_lets s₁ s₂
  split
  next y ok _ =>
    extract_lets s₃ s₄ st s₅ s₆
    have ended : (s₂.slot d i).ovrRun = 0 := State.ovrRun_modSlot_zero s₁ d i _ fun _ => rfl
    have monitored : keepsRuns s₂ s₃ := by
      unfold s₃
      split
      · exact showHv_keepsRuns s₂ d _ y
      · exact .refl s₂
    have stretched : keepsRuns s₂ s₄ := .ite ((stretchSample_keepsRuns s₃ i y).after monitored) monitored
    have sampled : keepsEnded s₄ s₆ := by
      refine .ite ?forced (.ite (.ite (.ite ?contextInvalid ?invalid) (.ite ?context ?sample)) ?stopped)
      case forced => exact (keepsRuns.after (.wr _ _ _ _) (.ite (slotIdle_keepsRuns s₄ d i y) (.refl s₄))).ended
      case contextInvalid => exact (keepsRuns.wr _ _ _ _).ended
      case invalid => exact slotInvalid_keepsEnded s₄ d hi
      case context => exact ((slotContext_keepsRuns s₅ d i y).after (.wr _ _ _ _)).ended
      case sample => exact (slotSample_keepsEnded s₅ d hi y).after (keepsRuns.wr _ _ _ _).ended
      case stopped => exact (keepsRuns.refl s₄).ended
    have stored := (keepUnit_keepsRuns _ d (.slot i)).after (keepsRuns_modSlot s₆ d i fun x => { x with lastSample := some s₆.now })
    exact stored.ended d i (sampled d i (stretched.ended d i ended))

theorem driveTo_keepsRuns (k code : Nat) (u e : Int) : keepsRuns s (s.driveTo d k code u e) := by
  unfold State.driveTo
  extract_lets s₁
  have stored : keepsRuns s s₁ := (keepUnit_keepsRuns _ d _).after ((ctlWrite_keepsRuns _ d 5 _).after (.wr _ _ _ _))
  exact (keepsRuns.modLsr s₁ d _).after stored

variable {s d} in
/-- SLOT_UPDATE runs the slot that the sequencer takes, and LSR may take back the output (R231, R260). -/
theorem exec_slotUpdate (h : s.nextSlot d = some i) (hr : (s.lpeRecent d).length < lpeCapacity d) (adc : Int) (valid : Bool) :
    ∃ t, exec (.slotUpdate d adc valid) s = .next t ∧
      (t = (s.lpeTake d).slotRunUpdate d i adc valid ∨ ∃ k, t = ((s.lpeTake d).slotRunUpdate d i adc valid).apcTake d i k) := by
  show ∃ t, execSlotUpdate d adc valid s = .next t ∧ _
  simp only [execSlotUpdate, h, if_neg (Nat.not_le.mpr hr)]
  refine ⟨_, rfl, ?_⟩
  split
  · split
    · exact .inr ⟨_, rfl⟩
    · exact .inl rfl
  · exact .inl rfl

variable {s d} in
/-- SLOT_UPDATE ends the row of overruns of the slot that it takes. -/
theorem slotUpdate_ends_row (hi : i < 48) (h : s.nextSlot d = some i) (hr : (s.lpeRecent d).length < lpeCapacity d) (adc : Int) (valid : Bool) :
    completes (.slotUpdate d adc valid) s fun t => (t.slot d i).ovrRun = 0 := by
  have ran := slotRunUpdate_ovrRun (s.lpeTake d) d hi adc valid
  obtain ⟨t, ht, rfl | ⟨k, rfl⟩⟩ := exec_slotUpdate h hr adc valid
  · exact ⟨_, ht, ran⟩
  · exact ⟨_, ht, (driveTo_keepsRuns _ d _ _ _ _ d i).trans ran⟩

end Updates

/-- Settles O32: the triggers by the outcome of an overrun, the update by the row that it ends. -/
theorem overruns : Obligations.Overruns := by
  unfold Obligations.Overruns
  intro s d i hslot hd
  refine ⟨?_, fun adc valid hnext hroom => slotUpdate_ends_row (lt_of_hasSlot hslot) hnext hroom adc valid⟩
  intro own byOwner early p htimer howner
  cases byOwner with
  | false =>
    obtain ⟨ht, hs, hdue, hr⟩ := htimer rfl
    obtain ⟨t, ht, hcnt, hbit, hrep, htrig, hrow, hfault⟩ := slotTimerTrigger_overruns hslot hd ht hs hdue hr
    exact ⟨t, ht, hcnt, hbit, hrep, fun hp h => ⟨nofun, fun _ => ⟨htrig hp h, nofun⟩, nofun⟩, hrow, hfault⟩
  | true =>
    obtain ⟨ht, hl, hw⟩ := howner rfl
    obtain ⟨t, ht, hcnt, hbit, hrep, htrig, hrow, hfault⟩ := ownerEventTrigger_overruns own hslot hd ht hl hw
    refine ⟨t, ht, hcnt, hbit, hrep, fun hp h => ?_, hrow, hfault⟩
    obtain ⟨hown, hearly, hlate⟩ := htrig hp h
    exact ⟨hearly, fun he => ⟨(hlate he).1, fun _ => (hlate he).2⟩, fun _ => hown⟩

end Sys2Proof.Machine
end

section
/-! FAULT_N over the release of the host (R356, R357): what the pin follows, the operations that leave it alone, the parts of a release,
and the write that ends the hold. -/

namespace Sys2Proof.Machine

/-! ### What FAULT_N follows -/

/-- The fields that FAULT_N follows: the U and F bits of the dies, its mode and its hold (R356). -/
def pinFields : List Fld := [F.FLT_STATUS_U_u, F.FLT_STATUS_F_f, F.FLT_PKG_pin_mode, F.FLT_PIN_HOLD_hold]

/-- A field that shares no bit with those that FAULT_N follows. -/
def Fld.sparesPin (f : Fld) : Bool :=
  f.ok && pinFields.all fun g => decide (f.off ≠ g.off) || decide (f.hi < g.lo) || decide (g.hi < f.lo)

theorem Fld.sparesPin_iff (f : Fld) : f.sparesPin = true ↔ f.ok = true ∧ ∀ g ∈ pinFields, f.apart g := by
  simp [Fld.sparesPin, Fld.apart, or_assoc]

theorem pinFields_off {g : Fld} (hg : g ∈ pinFields) : g.off < 0x100000 := by
  revert g; decide

/-- From one state to another the dies, the phase of the start, the collectors and the fields that FAULT_N follows stand as they were. -/
structure PinFrame (s t : State) : Prop where
  reads : ∀ e, ∀ g ∈ pinFields, t.rd e g = s.rd e g
  flt : t.flt = s.flt
  boot : t.boot = s.boot
  nStn : t.nStn = s.nStn

namespace PinFrame

variable {s t u : State}

theorem refl (s : State) : PinFrame s s := ⟨fun _ _ _ => rfl, rfl, rfl, rfl⟩

theorem trans (h : PinFrame s t) (h' : PinFrame t u) : PinFrame s u where
  reads e g hg := (h'.reads e g hg).trans (h.reads e g hg)
  flt := h'.flt.trans h.flt
  boot := h'.boot.trans h.boot
  nStn := h'.nStn.trans h.nStn

theorem ite {c : Prop} [Decidable c] (h : PinFrame s t) (h' : PinFrame s u) : PinFrame s (if c then t else u) := by
  split
  · exact h
  · exact h'

theorem wr (s : State) (d : Nat) {f : Fld} (v : Nat) (hf : f.sparesPin = true) : PinFrame s (s.wr d f v) := by
  obtain ⟨hok, hapart⟩ := f.sparesPin_iff.mp hf
  exact ⟨fun e g hg => State.rd_wr_apart s d e f g v hok (pinFields_off hg) fun _ => hapart g hg, rfl, rfl, rfl⟩

theorem modEvr (s : State) (f : Evr → Evr) : PinFrame s (s.modEvr f) := ⟨fun _ _ _ => rfl, rfl, rfl, rfl⟩

theorem modBay (s : State) (f : Bay → Bay) : PinFrame s (s.modBay f) := ⟨fun _ _ _ => rfl, rfl, rfl, rfl⟩

theorem imageSerial (s : State) (v : Nat) : PinFrame s (s.wr40 0 P.CFG_IMG_SERIAL v) where
  reads e g hg := State.rd_wr40_off s 0 e _ g v (by revert g; decide) (by revert g; decide) (by decide) (pinFields_off hg)
  flt := rfl
  boot := rfl
  nStn := rfl

theorem on (h : PinFrame s t) (e : Nat) {g : Fld} (hg : g ∈ pinFields) : t.on e g = s.on e g := by
  simp only [State.on_eq, h.reads e g hg]

theorem dies (h : PinFrame s t) : t.dies = s.dies := by simp only [State.dies, h.nStn]

theorem faultN (h : PinFrame s t) : t.faultN = s.faultN := by
  simp only [State.faultN, h.flt, h.on _ (g := F.FLT_PKG_pin_mode) (by decide), h.on _ (g := F.FLT_PIN_HOLD_hold) (by decide),
    h.on _ (g := F.FLT_STATUS_U_u) (by decide), h.on _ (g := F.FLT_STATUS_F_f) (by decide)]

end PinFrame

/-! ### Operations that leave FAULT_N alone -/

theorem archivePush_pinFrame (s : State) (ws : List Nat) : PinFrame s (s.archivePush ws) :=
  .ite (.refl s) (.ite (.modEvr s _) (.wr s 0 _ (by decide)))

theorem evrLevel_pinFrame (s : State) : PinFrame s s.evrLevel := .wr s 0 _ (by decide)

/-- A request to the recorder touches its registers and its queues alone (R371, R373). -/
theorem evrRequest_pinFrame (s : State) (kind : Nat) (crit : Bool) (ident at40 time arg : Nat) :
    PinFrame s (s.evrRequest kind crit ident at40 time arg) := by
  unfold State.evrRequest
  extract_lets r s₁ s₂ s₃
  refine .ite ?frozen (.ite (.modEvr s _) (.ite ?queued ?lost))
  case frozen =>
    have counted : PinFrame s s₂ := ((PinFrame.wr s 0 _ (by decide)).trans (.modEvr _ _)).trans (.wr _ 0 _ (by decide))
    exact .ite (counted.trans (archivePush_pinFrame s₂ _)) counted
  case queued => exact (PinFrame.modEvr s _).trans (evrLevel_pinFrame _)
  case lost =>
    have counted : PinFrame s s₃ := (PinFrame.wr s 0 _ (by decide)).trans (.wr _ 0 _ (by decide))
    exact .ite (counted.trans (.modEvr s₃ _)) (counted.trans (.modEvr s₃ _))

/-- The die summary is shown from the U and F bits, which it leaves (R361). -/
theorem dieSum_pinFrame (s : State) : PinFrame s s.dieSum := by
  refine State.each_keeps_mem (PinFrame s) _ _ (fun d hd t ht => ?_) s (.refl s)
  have spares : ∀ d ∈ List.range 8, (⟨F.FLT_DIE_SUM_u_die.off, d, d⟩ : Fld).sparesPin = true ∧
      (⟨F.FLT_DIE_SUM_u_die.off, 8 + d, 8 + d⟩ : Fld).sparesPin = true := by decide
  obtain ⟨hu, hf⟩ := spares d hd
  exact ht.trans ((PinFrame.wr t 0 _ hu).trans (.wr _ 0 _ hf))

/-! ### The parts of a release (R357, R393) -/

/-- Some die has a U or an F bit. -/
def State.anyUF (s : State) : Bool := s.dies.any fun d => s.on d F.FLT_STATUS_U_u || s.on d F.FLT_STATUS_F_f

/-- A release shows its source and its image, and clears the count of failed starts. -/
def State.releaseShow (s : State) (src : Nat) (b : List Nat) : State :=
  (((s.wr 0 F.BOOT_CAUSE_src src).wr40 0 P.CFG_IMG_SERIAL (imageSerial b)).wr 0 (F.BAY_RET_word 63) 0).modBay fun b => { b with inStart := none }

/-- FAULT_N changes to pulse mode, held while some die has a U or an F bit (R357). -/
def State.toPulseMode (s : State) : State := (s.wr 0 F.FLT_PKG_pin_mode 1).wrB 0 F.FLT_PIN_HOLD_hold s.anyUF

/-- The safe-off outputs are released unless a fault holds them (R395, R427). -/
def State.releaseOutputs (s : State) (anyF : Bool) : State :=
  let s := if anyF then s.wr 0 F.FLT_PKG_state 2 else (s.wr 0 F.HIF_ILK_STATUS_so_lsr 0).wr 0 F.HIF_ILK_STATUS_so_hv 0
  if s.flt.hub19.any fun x => x == 8 || x == 10 then s else s.wr 0 F.HIF_ILK_STATUS_so_mot 0

/-- The host sees the part, no block is held, and the recorder takes the boot record. -/
def State.openHost (s : State) : State :=
  let s := (s.modBoot fun b => { b with phase := .released, held := [] }).wr 0 F.HIF_STATUS_boot_window 0
  s.evrNow 4 true 0x02000 s.bootCause

theorem State.anyUF_eq (s : State) :
    s.anyUF = ((s.dies.any fun d => s.on d F.FLT_STATUS_F_f) || s.dies.any fun d => s.on d F.FLT_STATUS_U_u) := by
  rw [Bool.eq_iff_iff, anyUF]
  simp only [Bool.or_eq_true, List.any_eq_true]
  constructor
  · rintro ⟨d, hd, hu | hf⟩
    · exact .inr ⟨d, hd, hu⟩
    · exact .inl ⟨d, hd, hf⟩
  · rintro (⟨d, hd, hf⟩ | ⟨d, hd, hu⟩)
    · exact ⟨d, hd, .inr hf⟩
    · exact ⟨d, hd, .inl hu⟩

theorem release_eq (s : State) (src : Nat) (b : List Nat) :
    ∃ anyF, s.release src b = ((s.releaseShow src b).toPulseMode.releaseOutputs anyF).openHost := by
  refine ⟨(s.releaseShow src b).dies.any fun d => (s.releaseShow src b).on d F.FLT_STATUS_F_f, ?_⟩
  rw [State.toPulseMode, State.anyUF_eq]
  rfl

theorem PinFrame.anyUF {s t : State} (h : PinFrame s t) : t.anyUF = s.anyUF := by
  simp only [State.anyUF, h.dies, h.on _ (g := F.FLT_STATUS_U_u) (by decide), h.on _ (g := F.FLT_STATUS_F_f) (by decide)]

theorem releaseShow_pinFrame (s : State) (src : Nat) (b : List Nat) : PinFrame s (s.releaseShow src b) :=
  (((PinFrame.wr s 0 _ (by decide)).trans (.imageSerial _ _)).trans (.wr _ 0 _ (by decide))).trans (.modBay _ _)

theorem releaseOutputs_pinFrame (s : State) (anyF : Bool) : PinFrame s (s.releaseOutputs anyF) := by
  unfold State.releaseOutputs
  extract_lets s₁
  have shown : PinFrame s s₁ := .ite (.wr s 0 _ (by decide)) ((PinFrame.wr s 0 _ (by decide)).trans (.wr _ 0 _ (by decide)))
  exact .ite shown (shown.trans (.wr s₁ 0 _ (by decide)))

theorem openHost_pinFrame (s : State) : PinFrame (s.modBoot fun b => { b with phase := .released, held := [] }) s.openHost :=
  (PinFrame.wr _ 0 _ (by decide)).trans (evrRequest_pinFrame _ _ _ _ _ _ _)

theorem rd_wr_bit (s : State) (d : Nat) {f : Fld} (h : f.hi < 20) (hb : f.hi = f.lo) (b : Bool) :
    (s.wr d f (b2n b)).rd d f = b2n b := by
  rw [State.rd_wr_same s d f _ h, hb, Nat.add_sub_cancel_left]
  cases b <;> rfl

@[simp] theorem toPulseMode_pinMode (s : State) : s.toPulseMode.rd 0 F.FLT_PKG_pin_mode = 1 := by
  simp only [State.toPulseMode, State.wrB_eq]
  rw [State.rd_wr_of_apart _ 0 _ (by decide) (.inl (by decide))]
  exact rd_wr_bit s 0 (by decide) rfl true

@[simp] theorem toPulseMode_hold (s : State) : s.toPulseMode.rd 0 F.FLT_PIN_HOLD_hold = b2n s.anyUF :=
  rd_wr_bit _ 0 (by decide) rfl _

/-- A release leaves the host with the part, in pulse mode, held where some die has a U or an F bit. -/
theorem release_pin (s : State) (src : Nat) (b : List Nat) :
    (s.release src b).rd 0 F.FLT_PKG_pin_mode = 1 ∧ (s.release src b).rd 0 F.FLT_PIN_HOLD_hold = b2n s.anyUF ∧
      (s.release src b).boot.phase = .released ∧ (s.release src b).boot.held = [] := by
  obtain ⟨anyF, h⟩ := release_eq s src b
  have outputs := releaseOutputs_pinFrame (s.releaseShow src b).toPulseMode anyF
  have opened := openHost_pinFrame ((s.releaseShow src b).toPulseMode.releaseOutputs anyF)
  rw [h]
  refine ⟨?mode, ?hold, congrArg Boot.phase opened.boot, congrArg Boot.held opened.boot⟩
  case mode => exact (opened.reads 0 _ (by decide)).trans ((outputs.reads 0 _ (by decide)).trans (toPulseMode_pinMode _))
  case hold =>
    rw [← (releaseShow_pinFrame s src b).anyUF, ← toPulseMode_hold]
    exact (opened.reads 0 _ (by decide)).trans (outputs.reads 0 _ (by decide))

/-! ### The level of FAULT_N (R356) -/

theorem faultN_of_pulseMode {s : State} (h : s.rd 0 F.FLT_PKG_pin_mode = 1) : s.faultN = (s.flt.pulse || s.on 0 F.FLT_PIN_HOLD_hold) := by
  simp [State.faultN, h]

/-- In static mode a low pin has its cause on a die that is there. -/
theorem anyUF_of_faultN {s : State} (hmode : s.rd 0 F.FLT_PKG_pin_mode = 0)
    (absent : ∀ d, s.hasDie d = false → s.rd d F.FLT_STATUS_U_u = 0 ∧ s.rd d F.FLT_STATUS_F_f = 0) (h : s.faultN = true) : s.anyUF = true := by
  have low : (List.range 8).any (fun d => s.on d F.FLT_STATUS_U_u || s.on d F.FLT_STATUS_F_f) = true := by
    simpa [State.faultN, hmode] using h
  obtain ⟨d, -, hd⟩ := List.any_eq_true.mp low
  have there : s.hasDie d = true := by
    cases hn : s.hasDie d with
    | true => rfl
    | false =>
      obtain ⟨hu, hf⟩ := absent d hn
      simp only [State.on_eq, hu, hf, bne_self_eq_false, Bool.or_self, Bool.false_eq_true] at hd
  exact List.any_eq_true.mpr ⟨d, List.mem_range.mpr (Nat.lt_succ_of_le (of_decide_eq_true there)), hd⟩

/-! ### The write of the hold (R450) -/

/-- FLT_PIN_HOLD as the register table has it. -/
def pinHoldReg : Reg := ⟨"FLT_PIN_HOLD", F.FLT_PIN_HOLD_hold.off, [], [⟨0, 0, .rw, .live, 0⟩], .single, []⟩

theorem findReg_pinHold : findReg 0 F.FLT_PIN_HOLD_hold.off = some (pinHoldReg, []) := by decide

theorem slotCommand_pinHold (s : State) (cfg : Nat → State → State) (v : Nat) : s.slotCommand cfg 0 F.FLT_PIN_HOLD_hold.off v = none := rfl

/-- The hold is a live field of its own: the write goes to it, and the die summary is shown anew (R361). -/
theorem writeFields_pinHold (s : State) (w : Nat) :
    s.writeFields 0 F.FLT_PIN_HOLD_hold.off w = (s.wr 0 F.FLT_PIN_HOLD_hold (bitsN w 0 0)).dieSum := by
  simp only [State.writeFields, findReg_pinHold]
  rfl

theorem writeWord_pinHold (s : State) (cfg : Nat → State → State) (v : Nat) :
    s.writeWord cfg 0 F.FLT_PIN_HOLD_hold.off v = (s.wr 0 F.FLT_PIN_HOLD_hold (bitsN (v % 0x100000) 0 0)).dieSum := by
  simp only [State.writeWord, slotCommand_pinHold]
  exact writeFields_pinHold s _

/-- The hub's FLT is within reach of the host once it is released and no block is held. -/
theorem reach_pinHold {s : State} (hp : s.boot.phase = .released) (hh : s.boot.held = []) : s.reach 0 F.FLT_PIN_HOLD_hold.off = .open := by
  simp [State.reach, State.hasDie, State.blockHeld, State.blockGated, State.hasStn, hp, hh]

theorem exec_write_pinHold {s : State} (hp : s.boot.phase = .released) (hh : s.boot.held = []) (v : Nat) :
    exec (.registerWrite 0 F.FLT_PIN_HOLD_hold.off (some v)) s = .next ((s.wr 0 F.FLT_PIN_HOLD_hold (bitsN (v % 0x100000) 0 0)).dieSum) := by
  have hopen := reach_pinHold hp hh
  have hsingle : halfAt 0 F.FLT_PIN_HOLD_hold.off = .single := by simp only [halfAt, findReg_pinHold, pinHoldReg]
  have hsees : s.hostSees = true := by simp [State.hostSees, hp]
  have hmsix : s.msixWrite F.FLT_PIN_HOLD_hold.off v = none := rfl
  calc exec (.registerWrite 0 F.FLT_PIN_HOLD_hold.off (some v)) s
      = .next (s.hostWrite 0 F.FLT_PIN_HOLD_hold.off v) := by
        show execRegisterWrite _ _ _ _ = _
        simp [execRegisterWrite, hsees, F.FLT_PIN_HOLD_hold]
    _ = .next (s.reachWrite .host 0 F.FLT_PIN_HOLD_hold.off (v % 0x100000)) := by simp only [State.hostWrite, hmsix, ite_self]
    _ = .next (s.writeWord State.cfgCommand 0 F.FLT_PIN_HOLD_hold.off (v % 0x100000 % 0x100000)) := by
        simp [State.reachWrite, State.pathWrite, hopen, hsingle]
    _ = _ := by rw [writeWord_pinHold, Nat.mod_mod, Nat.mod_mod]

/-- Software ends the hold: where no pulse runs, FAULT_N is then high (R357). -/
theorem write_pinHold_zero {s : State} (hp : s.boot.phase = .released) (hh : s.boot.held = []) (hmode : s.rd 0 F.FLT_PKG_pin_mode = 1)
    (hpulse : s.flt.pulse = false) :
    completes (.registerWrite 0 F.FLT_PIN_HOLD_hold.off (some 0)) s fun u => u.rd 0 F.FLT_PIN_HOLD_hold = 0 ∧ u.faultN = false := by
  have summed := dieSum_pinFrame (s.wr 0 F.FLT_PIN_HOLD_hold 0)
  have hold : (s.wr 0 F.FLT_PIN_HOLD_hold 0).rd 0 F.FLT_PIN_HOLD_hold = 0 := rd_wr_bit s 0 (by decide) rfl false
  have mode : (s.wr 0 F.FLT_PIN_HOLD_hold 0).rd 0 F.FLT_PKG_pin_mode = 1 :=
    (State.rd_wr_of_apart s 0 0 (by decide) (.inl (by decide))).trans hmode
  refine ⟨_, exec_write_pinHold hp hh 0, (summed.reads 0 _ (by decide)).trans hold, summed.faultN.trans ?_⟩
  simp [faultN_of_pulseMode mode, hold, hpulse]

/-- Settles O53: the release by its parts, of which one sets the mode and the hold and the others leave what FAULT_N follows. -/
theorem staticToPulse : Obligations.StaticToPulse := by
  unfold Obligations.StaticToPulse
  intro s src image hmode _ absent t
  obtain ⟨mode, hold, phase, held⟩ := release_pin s src image
  refine ⟨mode, hold, fun low => ?_, write_pinHold_zero phase held mode⟩
  rw [anyUF_of_faultN hmode absent low] at hold
  simp [t, faultN_of_pulseMode mode, hold]

end Sys2Proof.Machine
end

section
/-! Accesses that reach no register (R447): an unlisted offset has no meaning of its own, so a read there gives zero and a write changes nothing;
a miss of an absent die or of a held block is counted; and what the host and the service port make of both. -/

namespace Sys2Proof.Machine

/-- A table of the die lists the offset (R447). -/
def listed (d off : Nat) : Bool := (findReg d off).isSome

theorem findReg_station {d : Nat} (hd : d ≠ 0) (off : Nat) : findReg d off = findReg 1 off := by
  simp [findReg, windowRegs, hd]

section Offsets

variable {d off : Nat} (h : findReg d off = none)
include h

theorem ne_of_unlisted {o : Nat} (ho : listed d o = true) : off ≠ o := by
  rintro rfl
  simp [listed, h] at ho

theorem arrayIx_of_unlisted {base stride count : Nat} (hb : (List.range count).all (fun i => listed d (base + stride * i)) = true) :
    arrayIx off base stride count = none := by
  rw [arrayIx, if_neg]
  rintro ⟨hle, hmod, hlt⟩
  have hoff : off = base + stride * ((off - base) / stride) := by
    have := Nat.div_add_mod (off - base) stride; omega
  exact ne_of_unlisted h (List.all_eq_true.mp hb _ (List.mem_range.mpr hlt)) hoff

end Offsets

/-! ### Unlisted offsets have no meaning of their own -/

section Commands

variable (s : State) {d off : Nat} (v : Nat)

theorem cueCommand_of_unlisted (h : findReg d off = none) : s.cueCommand d off v = none := by
  by_cases hd : d = 0
  · subst hd
    simp (disch := decide) only [State.cueCommand, ne_of_unlisted h, arrayIx_of_unlisted h, ne_eq, not_true, false_and, if_false, Option.map_none]
  · rw [findReg_station hd] at h
    simp (disch := decide) only [State.cueCommand, ne_of_unlisted h, arrayIx_of_unlisted h, and_false, if_false, Option.map_none]

theorem rinCommand_of_unlisted (h : findReg d off = none) : s.rinCommand d off v = none := by
  by_cases hd : d = 0
  · subst hd
    simp (disch := decide) only [State.rinCommand, ne_of_unlisted h, if_true, if_false]
  · rw [findReg_station hd] at h
    simp (disch := decide) only [State.rinCommand, hd, ne_of_unlisted h, arrayIx_of_unlisted h, if_false, Option.map_none]

/-- The four words of channel 7 of a station, whose writes RIN ignores (R150), are listed. -/
theorem xfrRin_of_unlisted (h : findReg 1 off = none) : [0x202C0, 0x202C4, 0x202C8, 0x202CC].contains off = false := by
  have words : ∀ o ∈ [0x202C0, 0x202C4, 0x202C8, 0x202CC], listed 1 o = true := by decide
  rw [← Bool.not_eq_true, List.contains_iff_mem]
  exact fun hm => ne_of_unlisted h (words off hm) rfl

theorem xfrCommand_of_unlisted (h : findReg d off = none) : s.xfrCommand d off v = none := by
  by_cases hd : d = 0
  · subst hd
    simp (disch := decide) only [State.xfrCommand, ne_of_unlisted h, arrayIx_of_unlisted h, ne_eq, not_true, false_and, and_false, if_true, if_false,
      Option.isSome_none, Bool.false_eq_true]
  · rw [findReg_station hd] at h
    simp (disch := decide) only [State.xfrCommand, hd, xfrRin_of_unlisted h, ne_of_unlisted h, arrayIx_of_unlisted h, false_and, and_false, if_false,
      Bool.false_eq_true]

theorem lpeCommand_of_unlisted (h : findReg d off = none) : s.lpeCommand d off v = none := by
  by_cases hd : d = 0
  · subst hd
    simp (disch := decide) only [State.lpeCommand, slotCount, ne_of_unlisted h, arrayIx_of_unlisted h, if_true, if_false]
  · rw [findReg_station hd] at h
    simp (disch := decide) only [State.lpeCommand, slotCount, hd, ne_of_unlisted h, arrayIx_of_unlisted h, if_false]

theorem midCommand_of_unlisted (h : findReg d off = none) : s.midCommand d off v = none := by
  by_cases hd : d = 0
  · subst hd
    simp (disch := decide) only [State.midCommand, ne_of_unlisted h, arrayIx_of_unlisted h, ne_eq, not_true, false_and, and_false, if_true, if_false,
      Option.map_none]
  · rw [findReg_station hd] at h
    simp (disch := decide) only [State.midCommand, hd, ne_of_unlisted h, arrayIx_of_unlisted h, false_and, and_false, if_false, Option.map_none]

theorem stnCommand_of_unlisted (hd : d ≠ 0) (h : findReg d off = none) : s.stnCommand d off v = none := by
  rw [findReg_station hd] at h
  simp (disch := decide) only [State.stnCommand, ne_of_unlisted h, arrayIx_of_unlisted h, if_false, Option.map_none]

theorem hubCommand_of_unlisted (h : findReg 0 off = none) : s.hubCommand off v = none := by
  simp (disch := decide) only [State.hubCommand, ne_of_unlisted h, arrayIx_of_unlisted h, if_false]

theorem subCommand_of_unlisted (h : findReg 0 off = none) : s.subCommand off v = none := by
  simp (disch := decide) only [State.subCommand, ne_of_unlisted h, if_false]

/-- The retention words that CFG keeps for itself (R396) are listed. -/
theorem cfgWords_of_unlisted (h : findReg 0 off = none) (h4 : off % 4 = 0) : ¬ (0xF8100 + 4 * 60 ≤ off ∧ off < 0xF8200) := by
  rintro ⟨hlo, hhi⟩
  have words : ∀ k < 4, listed 0 (0xF81F0 + 4 * k) = true := by decide
  exact ne_of_unlisted h (words ((off - 0xF81F0) / 4) (by omega)) (by omega)

theorem slotCommand_of_unlisted (cfg : Nat → State → State) (h : findReg d off = none) (h4 : off % 4 = 0) : s.slotCommand cfg d off v = none := by
  unfold State.slotCommand
  split
  case h_1 => exact cueCommand_of_unlisted s v h
  case h_2 => exact rinCommand_of_unlisted s v h
  case h_3 => exact xfrCommand_of_unlisted s v h
  case h_4 => exact lpeCommand_of_unlisted s v h
  case h_10 =>
    split
    · rfl
    · next hd =>
      obtain rfl : d = 0 := Decidable.not_not.mp hd
      rw [if_neg (ne_of_unlisted h (by decide)), if_neg (cfgWords_of_unlisted h h4)]
      exact subCommand_of_unlisted s v h
  case h_11 => exact midCommand_of_unlisted s v h
  all_goals
    split
    · next hd => exact hubCommand_of_unlisted s v (hd ▸ h)
    · next hd => exact stnCommand_of_unlisted s v hd h

end Commands

/-! ### Reads and writes of an unlisted offset -/

section Unlisted

variable (s : State) {d off : Nat} (h : findReg d off = none)
include h

theorem halfAt_of_unlisted : halfAt d off = .single := by rw [halfAt, h]

theorem plainRead_of_unlisted (p : Path) : s.plainRead p d off = 0 := by rw [State.plainRead, h]

theorem pathRead_of_unlisted (p : Path) : s.pathRead p d off = (0, s) := by
  have apart {o : Nat} (ho : listed 0 o = true) : ¬ (d = 0 ∧ off = o) := by
    rintro ⟨rfl, rfl⟩
    exact ne_of_unlisted h ho rfl
  rw [State.pathRead, if_neg (apart (by decide)), if_neg (apart (by decide)), if_neg (apart (by decide)), if_neg (apart (by decide)),
    if_neg (apart (by decide)), halfAt_of_unlisted h]
  simp only [plainRead_of_unlisted s h]

theorem writeFields_of_unlisted (w : Nat) : s.writeFields d off w = s := by rw [State.writeFields, h]

theorem writeWord_of_unlisted (cfg : Nat → State → State) (v : Nat) (h4 : off % 4 = 0) : s.writeWord cfg d off v = s := by
  have hub : (if d = 0 then arrayIx off 0x20100 0x40 32 else none) = none := by
    split
    · next hd => exact arrayIx_of_unlisted (hd ▸ h) (by decide)
    · rfl
  simp only [State.writeWord, slotCommand_of_unlisted s _ cfg h h4, hub, writeFields_of_unlisted s h]

theorem pathWrite_of_unlisted (cfg : Nat → State → State) (p : Path) (v : Nat) (h4 : off % 4 = 0) : s.pathWrite cfg p d off v = s := by
  have view : off ≠ F.CUE_BANK_VIEW_bank_view.off := by
    by_cases hd : d = 0
    · exact ne_of_unlisted (hd ▸ h) (by decide)
    · exact ne_of_unlisted (findReg_station hd off ▸ h) (by decide)
  simp only [State.pathWrite, halfAt_of_unlisted h, view, false_and, if_false, writeWord_of_unlisted s h cfg v h4]

end Unlisted

/-! ### Requests of the host and of the service port -/

theorem State.reachRead_open {s : State} {d off : Nat} (h : s.reach d off = .open) (p : Path) : s.reachRead p d off = s.pathRead p d off := if_pos h

theorem State.reachRead_missed {s : State} {d off : Nat} (h : s.reach d off ≠ .open) (p : Path) :
    s.reachRead p d off = (0, s.missed (s.reach d off)) := if_neg h

theorem State.reachWrite_open {s : State} {d off : Nat} (h : s.reach d off = .open) (p : Path) (v : Nat) :
    s.reachWrite p d off v = s.pathWrite State.cfgCommand p d off v := if_pos h

theorem State.reachWrite_missed {s : State} {d off : Nat} (h : s.reach d off ≠ .open) (p : Path) (v : Nat) :
    s.reachWrite p d off v = s.missed (s.reach d off) := if_neg h

theorem hasDie_of_reach_open {s : State} {d off : Nat} (h : s.reach d off = .open) : s.hasDie d = true := by
  cases hd : s.hasDie d with
  | true => rfl
  | false => simp [State.reach, hd] at h

theorem exec_registerWrite {s : State} {d off : Nat} (v : Nat) (hs : s.hostSees = true) (hd : d < 8) (ho : off < 0x100000) (h4 : off % 4 = 0) :
    exec (.registerWrite d off (some v)) s = .next (s.hostWrite d off v) := by
  show execRegisterWrite d off (some v) s = _
  simp [execRegisterWrite, hs, h4, Nat.not_le.mpr hd, Nat.not_le.mpr ho]

/-- The host reaches the registers beside the MSI-X table (R418) on its path. -/
theorem hostWrite_eq_reachWrite (s : State) {d off : Nat} (v : Nat) (h : d = 0 → s.reach d off = .open → off < 0xE8000 ∨ 0xE9008 ≤ off) :
    s.hostWrite d off v = s.reachWrite .host d off (v % 0x100000) := by
  have table : (if d = 0 ∧ s.reach 0 off = .open then s.msixWrite off v else none) = none := by
    split
    · next hd =>
      obtain ⟨rfl, hr⟩ := hd
      have outside := h rfl hr
      rw [State.msixWrite, if_neg (by omega), if_neg (by omega)]
    · rfl
  rw [State.hostWrite, table]

section Service

variable {s : State} (hs : s.svcServed = true) (hr : s.svc.responding = false) {off : Nat} (ho : off < 0x100000) (h4 : off % 4 = 0) (d : Nat)
include hs hr ho h4

theorem exec_serviceRead :
    exec (.serviceRead d (off / 4) true false) s
      = .next (((s.svcRead d off).2.answer .service [(s.svcRead d off).1]).respond (if s.hasDie d then 0 else 2) (s.svcRead d off).1) := by
  have word : 4 * (off / 4 % 0x40000) = off := by omega
  show execServiceRead d (off / 4) true false s = _
  simp [execServiceRead, hs, hr, word]

theorem exec_serviceWrite (v : Nat) :
    exec (.serviceWrite d (off / 4) v true false) s
      = .next ((s.reachWrite .service d off (v % 0x100000)).respond (if s.hasDie d then 0 else 2) 0) := by
  have word : 4 * (off / 4 % 0x40000) = off := by omega
  show execServiceWrite d (off / 4) v true false s = _
  simp [execServiceWrite, hs, hr, word]

end Service

/-! ### Responses -/

theorem respond_response (s : State) (status x : Nat) :
    (s.respond status x).svc.response = [status, x % 256, x / 256 % 256, x / 65536 % 256] := by
  unfold State.respond
  split <;> rfl

/-- A response to a sound request in time counts the request and nothing else (R428). -/
theorem regsKept_respond (s : State) {status : Nat} (x : Nat) (h1 : status ≠ 1) (h3 : status ≠ 3) :
    regsKept s (s.respond status x) 0 [F.SVC_REQ_CNT_req] := by
  have err : ¬ (status = 1 ∨ status = 3) := by omega
  rw [State.respond, if_neg err]
  exact regsKept_wr _ 0 F.SVC_REQ_CNT_req _ _ (List.mem_singleton_self _) (by decide)

theorem respond_status (s : State) (d : Nat) : (if s.hasDie d then 0 else 2) ≠ 1 ∧ (if s.hasDie d then 0 else 2) ≠ 3 := by
  split <;> decide

/-! ### Misses (R25, R442) -/

/-- From one state to another an absent die or a held block has been missed and counted; beside the count and the bit of it only the listed fields
of the hub have changed. -/
def missCounted (s t : State) (r : Reach) (fs : List Fld) : Prop :=
  t.rd 0 F.HIF_ABSENT_CNT_absent = satN 20 (s.rd 0 F.HIF_ABSENT_CNT_absent + 1) ∧
    (r = .absent → t.rd 0 F.HIF_STATUS_absent_s = 1) ∧ regsKept s t 0 (F.HIF_ABSENT_CNT_absent :: F.HIF_STATUS_absent_s :: fs)

theorem onlyRegs_missed (s : State) (r : Reach) : onlyRegs s (s.missed r) := by
  cases r <;> rfl

theorem missCounted_missed (s : State) {r : Reach} (hr : r = .absent ∨ r = .held) : missCounted s (s.missed r) r [] := by
  have count (t : State) : regsKept t (t.bump 0 F.HIF_ABSENT_CNT_absent) 0 [F.HIF_ABSENT_CNT_absent, F.HIF_STATUS_absent_s] :=
    regsKept_wr t 0 F.HIF_ABSENT_CNT_absent _ _ (by simp) (by decide)
  have mark : regsKept s (s.wr 0 F.HIF_STATUS_absent_s 1) 0 [F.HIF_ABSENT_CNT_absent, F.HIF_STATUS_absent_s] :=
    regsKept_wr s 0 F.HIF_STATUS_absent_s 1 _ (by simp) (by decide)
  rcases hr with rfl | rfl
  · refine ⟨?_, fun _ => ?_, mark.trans (count _)⟩
    · rw [State.missed, bump20_rd _ 0 rfl rfl, State.rd_wr_of_apart s 0 1 (by decide) (.inl (by decide))]
    · rw [State.missed, State.bump_eq, State.rd_wr_of_apart _ 0 _ (by decide) (.inl (by decide))]
      exact rd_wr_bit s 0 (by decide) rfl true
  · exact ⟨bump20_rd s 0 rfl rfl, nofun, count s⟩

/-- The response of the service port leaves the count of a miss. -/
theorem missCounted.respond {s t : State} {r : Reach} (h : missCounted s t r []) {status : Nat} (x : Nat) (h1 : status ≠ 1) (h3 : status ≠ 3) :
    missCounted s (t.respond status x) r [F.SVC_REQ_CNT_req] := by
  obtain ⟨count, mark, kept⟩ := h
  have request := regsKept_respond t x h1 h3
  have spared {g : Fld} (hg : g.off < 0x100000) (ha : F.SVC_REQ_CNT_req.off ≠ g.off) : (t.respond status x).rd 0 g = t.rd 0 g :=
    request 0 g hg fun _ f hf => by rw [List.mem_singleton.mp hf]; exact .inl ha
  refine ⟨(spared (by decide) (by decide)).trans count, fun ha => (spared (by decide) (by decide)).trans (mark ha), ?_⟩
  exact (kept.mono (by simp)).trans (request.mono (by simp))

/-! ### The statement -/

section Statement

variable {s : State} {d off : Nat} (h4 : off % 4 = 0) (ho : off < 0x100000)
include h4 ho

/-- A service request to an unlisted offset is answered with zero, and only the request is counted. -/
theorem service_of_unlisted (h : findReg d off = none) (hopen : s.reach d off = .open) (v : Nat) (hs : s.svcServed = true)
    (hr : s.svc.responding = false) :
    (completes (.serviceRead d (off / 4) true false) s fun t => t.svc.response = [0, 0, 0, 0] ∧ regsKept s t 0 [F.SVC_REQ_CNT_req]) ∧
    completes (.serviceWrite d (off / 4) v true false) s fun t => t.svc.response = [0, 0, 0, 0] ∧ regsKept s t 0 [F.SVC_REQ_CNT_req] := by
  have die := hasDie_of_reach_open hopen
  have read : s.svcRead d off = (0, s) := (State.reachRead_open hopen _).trans (pathRead_of_unlisted s h _)
  have write := (State.reachWrite_open hopen .service (v % 0x100000)).trans (pathWrite_of_unlisted s h _ _ _ h4)
  refine ⟨⟨_, exec_serviceRead hs hr ho h4 d, ?_⟩, ⟨_, exec_serviceWrite hs hr ho h4 d v, ?_⟩⟩
  · rw [read, die]
    exact ⟨respond_response _ 0 0, regsKept_respond (s.answer .service [0]) 0 (by decide) (by decide)⟩
  · rw [write, die]
    exact ⟨respond_response _ 0 0, regsKept_respond s 0 (by decide) (by decide)⟩

/-- A service request to an absent die or a held block carries zero data and is counted. -/
theorem service_of_missed (hr : s.reach d off = .absent ∨ s.reach d off = .held) (v : Nat) (hs : s.svcServed = true)
    (hresp : s.svc.responding = false) :
    (completes (.serviceRead d (off / 4) true false) s fun t =>
      t.svc.response.drop 1 = [0, 0, 0] ∧ missCounted s t (s.reach d off) [F.SVC_REQ_CNT_req]) ∧
    completes (.serviceWrite d (off / 4) v true false) s fun t =>
      t.svc.response.drop 1 = [0, 0, 0] ∧ missCounted s t (s.reach d off) [F.SVC_REQ_CNT_req] := by
  have hclosed : s.reach d off ≠ .open := by rcases hr with h | h <;> simp [h]
  have missed := missCounted_missed s hr
  have read : s.svcRead d off = (0, s.missed (s.reach d off)) := State.reachRead_missed hclosed _
  have write := State.reachWrite_missed hclosed .service (v % 0x100000)
  obtain ⟨h1, h3⟩ := respond_status s d
  refine ⟨⟨_, exec_serviceRead hs hresp ho h4 d, ?_⟩, ⟨_, exec_serviceWrite hs hresp ho h4 d v, ?_⟩⟩
  · rw [read]
    have answered : missCounted s ((s.missed (s.reach d off)).answer .service [0]) (s.reach d off) [] := missed
    exact ⟨by simp [respond_response], answered.respond 0 h1 h3⟩
  · rw [write]
    exact ⟨by simp [respond_response], missed.respond 0 h1 h3⟩

end Statement

/-- Settles O52: an unlisted offset has no meaning to any block, and a miss ends before the path of the requester. The service port has no MSI-X
table: it reads and writes those offsets as unlisted ones (log entry 156). -/
theorem unlistedOffsets : Obligations.UnlistedOffsets := by
  unfold Obligations.UnlistedOffsets
  intro s d off v h4 ho
  refine ⟨fun h hopen => ⟨pathRead_of_unlisted s h, fun hs hd outside => ⟨_, exec_registerWrite v hs hd ho h4, ?_⟩,
    service_of_unlisted h4 ho h hopen v⟩, ?_⟩
  · rw [hostWrite_eq_reachWrite s v fun hd _ => outside hd, State.reachWrite_open hopen]
    exact pathWrite_of_unlisted s h _ _ _ h4
  · rintro r rfl hr
    have hclosed : s.reach d off ≠ .open := by rcases hr with h | h <;> simp [h]
    refine ⟨fun hs hd => ⟨_, exec_registerWrite v hs hd ho h4, ?_⟩, service_of_missed h4 ho hr v⟩
    rw [hostWrite_eq_reachWrite s v fun _ hopen => absurd hopen hclosed, State.reachWrite_missed hclosed]
    exact ⟨missCounted_missed s hr, onlyRegs_missed s _⟩

end Sys2Proof.Machine
end
